-- ==== Sys2Proof/Word.lean ====
section
/-! DEFINITION. The number types of the IK520 and their plainest arithmetic: bytes, the two clocks,
the numbered things (slots, classes, bands, inputs) and tables of a fixed length. -/

namespace Sys2Proof

/-- A byte of a frame (R181). -/
abbrev Byte := BitVec 8

/-- A station clock value or a value in station seconds: 32 bits, wrapping (R1). -/
abbrev Clock := BitVec 32

/-- A keying time: the low 16 bits of the station clock, or a sender timestamp (R74). -/
abbrev KeyTime := BitVec 16

/-- Slots are numbered 0 to 31; slot 0 is the local operating position (00, Numbering). -/
abbrev SlotId := Fin 32

/-- Privilege classes are numbered 0 to 7 (00, Numbering). -/
abbrev ClassId := Fin 8

/-- Bands are numbered 0 to 11 (00, Numbering). -/
abbrev BandId := Fin 12

/-- The routable wired inputs WI0 to WI3 (R173). -/
abbrev InputId := Fin 4

/-- A measurement code 0 to 1023 (00, Power and codes). -/
abbrev Code := Fin 1024

/-- A table with one entry for each number below `n`. -/
abbrev Table (n : Nat) (α : Type) := Vector α n

namespace Table

/-- The entry of number `i`. -/
def read {n : Nat} {α : Type} (t : Table n α) (i : Fin n) : α := t.get i

/-- The table with the entry of number `i` replaced. -/
def write {n : Nat} {α : Type} (t : Table n α) (i : Fin n) (a : α) : Table n α := t.set i a

/-- The table whose entry of number `i` is `f i`. -/
def build {n : Nat} {α : Type} (f : Fin n → α) : Table n α := ⟨(List.ofFn f).toArray, by simp⟩

end Table

/-- The numbers below `n`, in increasing order. -/
def numbers (n : Nat) : List (Fin n) := List.ofFn id

/-- A numeric setting is clamped to the nearest limit of its range (00, Values and frames). -/
def clamp (lo hi x : Nat) : Nat := max lo (min x hi)

/-- A count that stops at `top`. -/
def countUp (top n : Nat) : Nat := min top (n + 1)

/-- The largest value of a 32-bit count. -/
def max32 : Nat := 4294967295

/-- The largest value of a 16-bit count. -/
def max16 : Nat := 65535

/-- Two clock values are compared through their signed difference (R1, R74):
`now` has reached `t` when that difference is 0 or more. -/
def reached {w : Nat} (now t : BitVec w) : Bool := decide (0 ≤ (now - t).toInt)

/-- The time from `t` to `now`, 0 when `now` is the earlier of the two. -/
def sinceMs {w : Nat} (now t : BitVec w) : Nat := (now - t).toInt.toNat

/-- A timer on the station clock that runs: the clock at its start, and its length in ms (R1). -/
structure Timer where
  start : Clock
  len : Nat
  deriving DecidableEq, Repr

/-- The clock value at which a timer expires. -/
def Timer.due (t : Timer) : Clock := t.start + BitVec.ofNat 32 t.len

/-- The time remaining on a timer, in ms. -/
def Timer.left (t : Timer) (now : Clock) : Nat := sinceMs t.due now

end Sys2Proof
end

