-- ==== Sys2Proof/Syntax.lean ====
section
/-! DEFINITION. The commands of the IK520: one constructor of `Instr` for each row of
spec/opcode_table.json, with the row's operands. A request row carries the frame's TAG and ACTOR bytes
and its payload's fields in the order of the spec, as the numbers and codes the frame carries. -/

namespace Sys2Proof

/-- SetStation's payload, in the order of R186. -/
structure StationArgs where
  turnGap : Nat
  presenceTimeout : Nat
  defaultBand : Nat
  defaultEmission : Nat
  defaultPower : Nat
  polTrr : Nat
  polAmpkey : Nat
  polExc : Nat
  polKey : Nat
  polIdm : Nat
  polAmppwr : Nat
  playoutDelay : Nat
  lateAllowance : Nat
  cwHang : Nat
  burstGap : Nat
  stuckLimit : Nat
  barefootCeiling : Nat
  autoAmp : Nat
  warmUpTime : Nat
  ampIdleTime : Nat
  callsign : List Char
  idInterval : Nat
  idGrace : Nat
  quietDelay : Nat
  idSpeed : Nat
  idPower : Nat
  deriving DecidableEq, Repr

/-- SetClass's payload: the class index and the fields of R2 in the order of its table (R3). -/
structure ClassArgs where
  classIx : Nat
  bands : List Nat
  ceilings : Table 12 Nat
  emissions : List Nat
  priority : Nat
  capabilities : List Nat
  turnLimit : Nat
  idleHang : Nat
  txLimit : Nat
  deriving DecidableEq, Repr

/-- SetBand's payload (R95). -/
structure BandArgs where
  band : Nat
  enabled : Nat
  relayCode : Nat
  stationCeiling : Nat
  dutyCeiling : Nat
  fullScale : Nat
  deriving DecidableEq, Repr

/-- SetCalibration's payload: band, path and the points, each a power and a drive code (R98). -/
structure CalArgs where
  band : Nat
  path : Nat
  points : List (Nat × Nat)
  deriving DecidableEq, Repr

/-- StageProfile's payload: the six delays, the band settle in units of 10 ms (R51). -/
structure ProfileArgs where
  relayOn : Nat
  ampOn : Nat
  tail : Nat
  ampOff : Nat
  relayOff : Nat
  bandSettle : Nat
  deriving DecidableEq, Repr

/-- SetInput's payload (R174). -/
structure InputArgs where
  input : Nat
  function : Nat
  trigger : Nat
  polarity : Nat
  debounce : Nat
  deriving DecidableEq, Repr

/-- SetLimits's payload, in the order of R132. -/
structure LimitsArgs where
  rStart : Nat
  rTrip : Nat
  fMin : Nat
  step : Nat
  floor : Nat
  scans : Nat
  current : Nat
  temperature : Nat
  hysteresis : Nat
  supplyLow : Nat
  supplyHigh : Nat
  deriving DecidableEq, Repr

/-- OpenSlot's payload (R9). -/
structure OpenArgs where
  slot : Nat
  callsign : List Char
  classIx : Nat
  allowancePresent : Nat
  allowance : Nat
  deriving DecidableEq, Repr

/-- The bytes of a completed request frame, less SYNC and LENGTH; LENGTH counts from KIND to the end of
PAYLOAD, so it is 3 plus the payload's bytes (R181). -/
structure RawFrame where
  kind : Byte
  tag : Byte
  actor : Byte
  payload : List Byte
  check : Byte
  deriving DecidableEq, Repr

/-- The six residency counters, in the order of R168. -/
inductive Residency where
  | exciting | ampOn | ampWarming | foldback | held | tripped
  deriving DecidableEq, Repr

/-- A change of a raw input level: of one of WI0 to WI3, or of KILL, whose polarity is fixed in the part
and which is therefore named by its sense (R173, R179). -/
inductive LevelChange where
  | wired (input : InputId) (high : Bool)
  | kill (asserted : Bool)
  deriving DecidableEq, Repr

/-- One constructor for each row of spec/opcode_table.json. -/
inductive Instr where
  | restart (tag actor : Nat)
  | decommission (tag actor : Nat)
  | commission (tag actor : Nat)
  | setStation (tag actor : Nat) (a : StationArgs)
  | setClass (tag actor : Nat) (a : ClassArgs)
  | setBand (tag actor : Nat) (a : BandArgs)
  | setCalibration (tag actor : Nat) (a : CalArgs)
  | stageProfile (tag actor : Nat) (a : ProfileArgs)
  | setInput (tag actor : Nat) (a : InputArgs)
  | setLimits (tag actor : Nat) (a : LimitsArgs)
  | setEvents (tag actor : Nat) (reports attention : BitVec 16)
  | clearEvents (tag actor : Nat) (kinds : BitVec 16)
  | clearCounters (tag actor : Nat) (counters : List Nat)
  | queryStation (tag actor : Nat)
  | querySlot (tag actor : Nat) (slot : Nat)
  | queryClass (tag actor : Nat) (classIx : Nat)
  | queryBand (tag actor : Nat) (band : Nat)
  | queryCal (tag actor : Nat) (band path : Nat)
  | queryMeasure (tag actor : Nat)
  | queryFaults (tag actor : Nat)
  | queryCounters (tag actor : Nat)
  | queryRecords (tag actor : Nat) (start : Nat)
  | queryQueue (tag actor : Nat) (start : Nat)
  | queryEvents (tag actor : Nat)
  | queryProfile (tag actor : Nat)
  | queryInputs (tag actor : Nat)
  | clearFault (tag actor : Nat) (kind : Nat)
  | resume (tag actor : Nat)
  | openSlot (tag actor : Nat) (a : OpenArgs)
  | closeSlot (tag actor : Nat) (slot : Nat)
  | reclass (tag actor : Nat) (slot classIx : Nat)
  | setAllowance (tag actor : Nat) (slot present allowance : Nat)
  | clearAirtime (tag actor : Nat) (slot : Nat)
  | request (tag actor : Nat) (band emission power mode : Nat)
  | withdraw (tag actor : Nat)
  | release (tag actor : Nat)
  | presence (tag actor : Nat)
  | pttOn (tag actor : Nat)
  | pttOff (tag actor : Nat)
  | keyEvents (tag actor : Nat) (events : List (Nat × KeyTime))
  | setPower (tag actor : Nat) (power : Nat)
  | retune (tag actor : Nat) (band emission : Nat)
  | seize (tag actor : Nat) (slot band emission power : Nat)
  | endTurn (tag actor : Nat) (slot : Nat)
  | holdSlot (tag actor : Nat) (slot : Nat)
  | unholdSlot (tag actor : Nat) (slot : Nat)
  | ampOn (tag actor : Nat)
  | ampOff (tag actor : Nat)
  | ampReset (tag actor : Nat)
  | unknownKindRequest (kind tag actor : Nat)
  | frameReceived (f : RawFrame)
  | interByteGap
  | replySent
  | reportSent
  | rstAsserted
  | rstDeasserted
  | stationSecondTick
  | presenceExpiry (slot : SlotId)
  | gapExpiry
  | turnLimitExpiry
  | idleHangExpiry
  | relayOnExpiry
  | ampOnExpiry
  | tailExpiry
  | ampOffExpiry
  | relayOffExpiry
  | bandSettleExpiry
  | txLimitExpiry
  | playout
  | hangExpiry
  | burstGapExpiry
  | stuckKeyExpiry
  | warmUpExpiry
  | ampIdleExpiry
  | scanCompletion (f r pai pat vsup : Code)
  | intervalExpiry
  | deadlineExpiry
  | quietExpiry
  | idElementTimer
  | airTimeTenth
  | residencyTenth (counter : Residency)
  | inputLevelChange (change : LevelChange)
  | debounceExpiry (input : InputId)
  | killDebounceExpiry
  | byteReceived (byte : Byte) (framingError : Bool)
  deriving DecidableEq, Repr

end Sys2Proof
end

