-- ==== Sys2Proof/Decode.lean ====
section
/-! DEFINITION. The command a word of spec/opcode_table.json's bits spells. -/

namespace Sys2Proof

/-- No row of the table has bits ("fixed" and "fields" are empty in all 85), so no word spells a command
(log 3). The bytes of a request frame are read by `Machine.parseFrame`. -/
def decodeTableWord (_nbits _w : Nat) : Option Instr := none

end Sys2Proof
end

