-- ==== Sys2Proof/Config.lean ====
section
/-! DEFINITION. What the spec fixes for the part as constants, and the values it leaves open
(opaque constants: nothing can evaluate them). -/

namespace Sys2Proof.Config

/-- Receive buffer capacity, in frames (R182). -/
def rxCapacity : Nat := 4

/-- Report queue capacity (R189). -/
def reportCapacity : Nat := 16

/-- Timeline capacity, in events (R72). -/
def timelineCapacity : Nat := 64

/-- Turn record list capacity (R170). -/
def recordCapacity : Nat := 32

/-- The most time between two bytes of a frame, in ms (R182). -/
def interByteGap : Nat := 20

/-- KILL's fixed debounce, in ms (R179). -/
def killDebounce : Nat := 5

/-- The foldback factor that means no reduction (00, Power and codes). -/
def fullFactor : Nat := 256

/-- How many waits of length 0 one step can pass through. R51 lets every delay be 0; the longest
chain runs once through the sequencer's states with a retune in between. -/
def settleFuel : Nat := 40

/-- FREE VALUE (log 18). Whether KILL is asserted by its HIGH level: R179 says that the polarity is
fixed in the part and not which one it is. It appears only in the level bytes of a Query INPUTS reply. -/
opaque killAssertedHigh : Bool

/-- FREE VALUE (log 17). The bytes a reply carries for a record of `size` bytes that is absent:
R193 gives the form of absent one- and two-byte fields only. -/
opaque absentRecord : Nat → List Byte

/-- FREE VALUE (log 17). The bytes by which a Query CAL reply indicates an empty context: R97 names the indication and
gives no form. -/
opaque emptyContext : List Byte

/-- FREE VALUE (log 17). The value a reply carries for an absent four-byte field for which R192 gives none: it gives 0
for the numbers of an empty record list, and the values of the report payloads. -/
opaque absentQuad : BitVec 32

end Sys2Proof.Config
end

