-- ==== Sys2Proof/Machine/State.lean ====
section
/-! DEFINITION. The state of the IK520, block by block, as the spec gives it, and its value after a full
reset. Every field's rule and reset value are listed in INVENTORY.md under State. -/

namespace Sys2Proof.Machine

/-! ### Enumerations (R192; each in the code order of its table) -/

/-- Reply status codes (R185). -/
inductive Status where
  | ok | okClamped | busy | wrongState | notPermitted | badArgument | badActor | held | noAllowance
  | stillPresent | unknownKind | badLength | configInvalid
  deriving DecidableEq, Repr

/-- The three emissions. -/
inductive Emission where
  | cw | phone | data
  deriving DecidableEq, Repr

/-- The path of a transmission. -/
inductive Path where
  | barefoot | amplified
  deriving DecidableEq, Repr

/-- ONCE or STANDING (R17). -/
inductive Mode where
  | once | standing
  deriving DecidableEq, Repr

/-- Where a request came from (R17). -/
inductive Origin where
  | frame | localPtt | localRequestEdge | localRequestLevel
  deriving DecidableEq, Repr

/-- The request state of a slot, as Query SLOT and the replies show it (R17). -/
inductive ReqState where
  | vacant | opened | waiting | holding
  deriving DecidableEq, Repr

/-- The end cause of a turn record: a member turn's cause, or COMPLETE or ABORTED (R170). -/
inductive TurnEndCause where
  | released | singleOver | idle | turnLimit | presenceLost | allowance | seized | endedByControl | closed
  | privilege | fault | kill | decommission | complete | aborted
  deriving DecidableEq, Repr

/-- The end cause of a transmission (section 3.5). -/
inductive TxEndCause where
  | pttOff | localRelease | cwHang | txLimit | idDeadline | idDone | allowance | turnEnd | fault | held | kill
  | ampDrop
  deriving DecidableEq, Repr

/-- What a cut names (R69). -/
inductive CutCause where
  | fault | held | kill | ampDrop | decommission
  deriving DecidableEq, Repr

/-- Why a waiting request was dropped, or a wired one refused (R17). -/
inductive DropCause where
  | privilege | presence | kill | localRefused
  deriving DecidableEq, Repr

/-- The eight fault kinds (R135). -/
inductive FaultKind where
  | swrTrip | paOvercurrent | extFault | paOvertemp | supplyWindow | stuckKey | ampNoReady | ampDrop
  deriving DecidableEq, Repr

/-- The station state (R142). -/
inductive StationState where
  | killed | uncommissioned | tripped | held | ready
  deriving DecidableEq, Repr

/-- The cause of a change of station state (R142). -/
inductive StationCause where
  | killInput | resume | trip | tripCleared | hold | holdGone | commission | decommission
  deriving DecidableEq, Repr

/-- The amplifier state (R101). -/
inductive AmpState where
  | off | warming | on | failed
  deriving DecidableEq, Repr

/-- The cause of a change of amplifier state (R109). -/
inductive AmpCause where
  | ampOn | auto | ready | warmTime | noReady | drop | idle | ampOff | reset
  deriving DecidableEq, Repr

/-- Why a key event was lost (R83). -/
inductive LossReason where
  | outOfOrder | late | overrun | notActive | gated | stuck
  deriving DecidableEq, Repr

/-- Why a frame was abandoned (R182). -/
inductive LinkReason where
  | length | framing | gap | check | overflow
  deriving DecidableEq, Repr

/-- The outcome a Seize reply carries (R39, R40). -/
inductive SeizeOutcome where
  | granted | marked | heldAlready
  deriving DecidableEq, Repr

/-- The outcome a PttOn reply carries (R54). -/
inductive PttOutcome where
  | started | pending | already
  deriving DecidableEq, Repr

/-- The reason a CONFIG_INVALID reply carries (R148). -/
inductive ConfigReason where
  | noBand | noBarefootCal | noAmplifiedCal | noCallsign
  deriving DecidableEq, Repr

/-- The first failed condition of R24 that Query QUEUE names (R25). -/
inductive QueueFail where
  | heldBack | notPermitted | exhausted
  deriving DecidableEq, Repr

/-- The active level of a line: asserted by driving it high, or low (R50). -/
inductive LinePolarity where
  | high | low
  deriving DecidableEq, Repr

/-- The function a wired input is routed to (R173). -/
inductive InputFunction where
  | none | localPtt | localKey | localRequest | ampReady | extFault
  deriving DecidableEq, Repr

/-- EDGE or LEVEL (R173). -/
inductive Trigger where
  | edge | level
  deriving DecidableEq, Repr

/-- The level at which an input is active (R173). -/
inductive InputPolarity where
  | activeHigh | activeLow
  deriving DecidableEq, Repr

/-- A key direction, the timeline state and the key state (R72). -/
inductive Key where
  | up | down
  deriving DecidableEq, Repr

/-- The sub-state of a turn (R32). -/
inductive SubState where
  | tuning | active | paused
  deriving DecidableEq, Repr

/-- The sequencer state (R49). -/
inductive SeqState where
  | quiet | retune | armRelay | armAmp | exciting | drain | disarmAmp | disarmRelay
  deriving DecidableEq, Repr

/-- IDU's claim on a member turn (R151). -/
inductive Claim where
  | none | atTxEnd | atActive | holdingPause
  deriving DecidableEq, Repr

/-- The cycle state of IDU (R158). -/
inductive CycleState where
  | idle | starting | sending | closing
  deriving DecidableEq, Repr

/-! ### LNK (chapter 11) -/

/-- The kind of a transmission: MEMBER with its slot, or ID (R49). -/
inductive TxKind where
  | member (slot : SlotId)
  | ident
  deriving DecidableEq, Repr

/-- An occurrence raised to LNK with its fields, which a report carries: one constructor for each of the
sixteen event kinds, in index order (R188, R192). -/
inductive Report where
  | turnGranted (slot : SlotId) (band : BandId) (emission : Emission) (power : Nat)
  | turnEnded (slot : SlotId) (cause : TurnEndCause) (requeued : Bool)
  | txStarted (kind : TxKind) (band : BandId) (emission : Emission) (path : Path) (count : Nat)
  | txEnded (kind : TxKind) (cause : TxEndCause) (airTime peak : Nat)
  | requestDropped (slot : SlotId) (cause : DropCause) (reason : Option Status)
  | bandSet (band : BandId) (code : Nat)
  | ampChanged (old new : AmpState) (cause : AmpCause)
  | foldback (kind : TxKind) (band : Option BandId) (f r : Code) (reflection : Option Nat) (factor : Nat)
  | faultRaised (kind : FaultKind) (count : Nat) (slot : Option SlotId) (band : Option BandId)
      (code : Option Code) (isNew : Bool)
  | stationChanged (old new : StationState) (cause : StationCause) (fault : Option FaultKind)
  | idDue (due : Clock) (slot : Option SlotId) (running : Bool)
  | idSent (callsign : List Char) (band : BandId) (path : Path) (speed exciting : Nat) (slot : Option SlotId)
  | keyingLoss (reason : LossReason) (slot : Option SlotId) (direction : Option Key) (stamp : Option KeyTime)
      (value : Option Nat)
  | allowanceExhausted (slot : SlotId) (allowance used : Nat) (state : ReqState)
  | linkError (reason : LinkReason) (count : Nat)
  | spuriousLocal (origin : Origin)
  deriving DecidableEq, Repr

/-- The receiver: hunting, or in a frame with the bytes taken since SYNC (LENGTH first) and the station
clock of the last byte (R182). -/
inductive Receiver where
  | hunting
  | inFrame (bytes : List Byte) (lastByte : Clock)
  deriving DecidableEq, Repr

/-- The five error counts of R182. -/
structure LinkErrors where
  length : Nat
  framing : Nat
  gap : Nat
  check : Nat
  overflow : Nat
  deriving DecidableEq, Repr

/-- What a request record holds (R17). -/
structure RequestRec where
  band : BandId
  emission : Emission
  power : Nat
  mode : Mode
  origin : Origin
  mark : Bool
  deriving DecidableEq, Repr

/-- The turn context (R31), with the two turn timers of R33 and R34 as station clock values. -/
structure Turn where
  holder : SlotId
  band : BandId
  emission : Emission
  power : Nat
  mode : Mode
  sub : SubState
  grantTime : Clock
  grantClock : Clock
  txCount : Nat
  airTime : Nat
  pendingStart : Bool
  idleStart : Option Clock
  deriving DecidableEq, Repr

/-- The arbiter state; the turn context is present in TURN and absent otherwise (R26). -/
inductive Arbiter where
  | free
  | gap
  | turn (t : Turn)
  | idTurn
  deriving DecidableEq, Repr

/-- A timing profile (R51); the band settle in units of 10 ms. -/
structure Profile where
  relayOn : Nat
  ampOn : Nat
  tail : Nat
  ampOff : Nat
  relayOff : Nat
  bandSettle : Nat
  deriving DecidableEq, Repr

/-- The transmission context (R49). `current` says that the transmission belongs to the current turn
(R56); `limitStart` is the start of the transmission limit timer while it runs (R64). -/
structure Tx where
  kind : TxKind
  band : BandId
  emission : Emission
  path : Path
  excitedAt : Clock
  airTime : Nat
  limitStart : Option Clock
  endCause : Option TxEndCause
  current : Bool
  deriving DecidableEq, Repr

/-- A class record (R2). -/
structure ClassRec where
  bands : Table 12 Bool
  ceilings : Table 12 Nat
  cw : Bool
  phone : Bool
  data : Bool
  priority : Nat
  control : Bool
  singleOver : Bool
  turnLimit : Nat
  idleHang : Nat
  txLimit : Nat
  deriving DecidableEq, Repr

/-- The identity fields of a slot (R4). -/
structure Identity where
  callsign : Option (List Char)
  classIx : ClassId
  allowance : Option Nat
  heldBack : Bool
  deriving DecidableEq, Repr

/-- A band record (R94). -/
structure BandRec where
  enabled : Bool
  relayCode : Fin 16
  stationCeiling : Nat
  dutyCeiling : Nat
  fullScale : Nat
  deriving DecidableEq, Repr

/-- A calibration point: a power in watts and a drive code (R97). -/
structure Point where
  power : Nat
  code : Nat
  deriving DecidableEq, Repr

/-- A calibration context, empty or with exactly eight points (R97). -/
abbrev Context := Option (Table 8 Point)

/-- The applied-power state (R112). -/
structure Applied where
  active : Bool
  path : Option Path
  target : Nat
  factor : Nat
  effective : Nat
  drive : Nat
  deriving DecidableEq, Repr

/-- The foldback parameters (R121) and the condition limits (R128). -/
structure Limits where
  rStart : Nat
  rTrip : Nat
  fMin : Nat
  step : Nat
  floor : Nat
  scans : Nat
  current : Nat
  temperature : Nat
  hysteresis : Nat
  supplyLow : Nat
  supplyHigh : Nat
  deriving DecidableEq, Repr

/-- The latest scan record (R117). -/
structure Scan where
  f : Code
  r : Code
  pai : Code
  pat : Code
  vsup : Code
  start : Clock
  deriving DecidableEq, Repr

/-- A fault record (R136). -/
structure FaultRec where
  kind : FaultKind
  first : Clock
  last : Clock
  count : Nat
  slot : Option SlotId
  band : Option BandId
  code : Option Code
  present : Bool
  deriving DecidableEq, Repr

/-- A turn record (R170); its kind is ID where the slot is absent. -/
structure TurnRec where
  number : Nat
  ident : Bool
  slot : Option SlotId
  callsign : Option (List Char)
  classIx : Option ClassId
  band : Option BandId
  emission : Emission
  grantTime : Clock
  duration : Clock
  txCount : Nat
  airTime : Nat
  cause : TurnEndCause
  deriving DecidableEq, Repr

/-- The value and remainder of a residency counter (R168). `owed` counts the tenths whose 100 ms have
passed and that RESIDENCY_TENTH has not yet added (log 8). -/
structure Counter where
  value : Nat
  remainder : Nat
  owed : Nat
  deriving DecidableEq, Repr

/-- A routing entry and its debounced input (R173). `since` is the station clock at which the raw level
began to differ from the debounced level: the stability measure is the time since then (R175). -/
structure Input where
  function : InputFunction
  trigger : Trigger
  polarity : InputPolarity
  debounce : Nat
  raw : Bool
  debounced : Bool
  since : Option Clock
  deriving DecidableEq, Repr

/-- KILL after its fixed polarity: asserted or not, raw and debounced (R179). -/
structure KillInput where
  raw : Bool
  debounced : Bool
  since : Option Clock
  deriving DecidableEq, Repr

/-- A scheduled key event (R72). -/
structure KeyEntry where
  dir : Key
  at_ : KeyTime
  stamp : KeyTime
  deriving DecidableEq, Repr

/-- An open burst: its offset O and the last accepted time (R72). -/
structure Burst where
  offset : KeyTime
  last : KeyTime
  deriving DecidableEq, Repr

/-- The KTL parameters (R73): the first four in ms, the stuck-key limit in s. -/
structure KeyParams where
  playoutDelay : Nat
  lateAllowance : Nat
  cwHang : Nat
  burstGap : Nat
  stuckLimit : Nat
  deriving DecidableEq, Repr

/-- One element or gap of the Morse identification: the key, its length in units, and the index of the
character it belongs to (R159). -/
structure Element where
  key : Bool
  units : Nat
  char : Nat
  deriving DecidableEq, Repr

/-- Where a cycle runs (R151): in a member turn, in an ID turn, or in none any more (R160). -/
inductive CycleHome where
  | memberTurn | idTurn | nowhere
  deriving DecidableEq, Repr

/-- The cycle context (R151). Callsign, speed and power are captured when SEQ takes the ID start (R158);
`todo` is the position reached: the elements still to key, the one being keyed first. -/
structure Cycle where
  startTime : Clock
  callsign : List Char
  speed : Nat
  power : Nat
  home : CycleHome
  todo : List Element
  entered : Bool
  deriving DecidableEq, Repr

/-- The ID parameters (R152): interval, grace and quiet-ID delay in s. -/
structure IdParams where
  interval : Nat
  grace : Nat
  quietDelay : Nat
  speed : Nat
  power : Nat
  deriving DecidableEq, Repr

/-- The active polarity of the six lines (R50). -/
structure Polarities where
  trr : LinePolarity
  ampkey : LinePolarity
  exc : LinePolarity
  key : LinePolarity
  idm : LinePolarity
  amppwr : LinePolarity
  deriving DecidableEq, Repr

/-- Every station setting, in the order of R186. -/
structure Settings where
  turnGap : Nat
  presenceTimeout : Nat
  defaultBand : BandId
  defaultEmission : Emission
  defaultPower : Nat
  polarities : Polarities
  keying : KeyParams
  barefootCeiling : Nat
  autoAmp : Bool
  warmUpTime : Nat
  ampIdleTime : Nat
  callsign : Option (List Char)
  ids : IdParams
  deriving DecidableEq, Repr

/-! ### Replies (R185, R187) -/

/-- What Query STATION returns (R187). -/
structure StationView where
  station : StationState
  killLatch : Bool
  commissioned : Bool
  arbiter : Arbiter
  sinceGrant : Option Nat
  idleLeft : Option Nat
  seq : SeqState
  tx : Option Tx
  limitLeft : Option Nat
  pttDemand : Bool
  currentBand : Option BandId
  bandCode : Nat
  timelineFill : Nat
  timelineState : Key
  keyState : Key
  burst : Option Burst
  suppression : Bool
  amp : AmpState
  ampTimerLeft : Option Nat
  ampReadyRouted : Bool
  applied : Applied
  owed : Bool
  due : Bool
  dueTime : Option Clock
  intervalLeft : Option Nat
  deadlineLeft : Option Nat
  quietLeft : Option Nat
  claim : Claim
  cycle : CycleState
  sendingChar : Option Nat
  settings : Settings
  deriving DecidableEq, Repr

/-- What Query SLOT returns (R187). -/
structure SlotView where
  identity : Identity
  state : ReqState
  rank : Nat
  presenceLeft : Option Nat
  record : Option RequestRec
  airTime : Nat
  exhausted : Bool
  deriving DecidableEq, Repr

/-- What Query MEASURE returns (R119). -/
structure MeasureView where
  scan : Scan
  forward : Option Nat
  reflected : Option Nat
  lastReflection : Option Nat
  factor : Nat
  reported : Bool
  peak : Nat
  overcurrent : Bool
  overcurrentCount : Nat
  overtemp : Bool
  overtempCount : Nat
  supply : Bool
  supplyCount : Nat
  limits : Limits
  deriving DecidableEq, Repr

/-- What Query FAULTS returns (R138); the five flags are the presence of SWR_TRIP, PA_OVERCURRENT,
EXT_FAULT, PA_OVERTEMP and SUPPLY_WINDOW by the test of R135. -/
structure FaultsView where
  faults : List FaultRec
  killLatch : Bool
  kill : Bool
  commissioned : Bool
  station : StationState
  present : List Bool
  deriving DecidableEq, Repr

/-- One entry of Query QUEUE (R25). -/
structure QueueEntry where
  slot : SlotId
  priority : Nat
  rank : Nat
  mark : Bool
  record : RequestRec
  failed : Option QueueFail
  deriving DecidableEq, Repr

/-- What Query INPUTS returns (R173): each input with whether it is active, each of the five functions with
whether it is active and how many inputs are routed to it, KILL's levels and the kill latch. -/
structure InputsView where
  inputs : List (Input × Bool)
  functions : List (Bool × Nat)
  kill : KillInput
  killLatch : Bool
  deriving DecidableEq, Repr

/-- The payload of a reply as named fields (R185). -/
inductive Body where
  | empty
  | requestState (s : ReqState)
  | seize (o : SeizeOutcome)
  | ptt (o : PttOutcome)
  | keyEvents (queued played ignored discarded fill : Nat) (offset : Option KeyTime)
  | power (stored : Nat) (recomputed : Option (Nat × Nat × Nat))
  | station (s : StationState)
  | decommission (flushed : Nat) (ended : Option SlotId) (idAbandoned : Bool) (station : StationState)
  | limits (l : Limits)
  | input (i : InputId) (entry : Input)
  | counts (values : List Nat)
  | flags (f : BitVec 16)
  | configInvalid (reason : ConfigReason) (band : Option BandId)
  | calibrationPoint (ix : Option Nat)
  | queryStation (v : StationView)
  | querySlot (v : SlotView)
  | queryClass (c : ClassRec)
  | queryBand (b : BandRec)
  | queryCal (c : Context)
  | queryMeasure (v : MeasureView)
  | queryFaults (v : FaultsView)
  | queryRecords (oldest newest : Option Nat) (records : List TurnRec)
  | queryQueue (waiting : Nat) (entries : List QueueEntry)
  | queryEvents (flags reports attention : BitVec 16) (fill lost : Nat) (errors : LinkErrors)
  | queryProfile (active staged : Profile) (pending : Bool)
  | queryInputs (v : InputsView)
  deriving DecidableEq, Repr

/-- A reply that is ready: the request's kind code and tag, the status, the fields, and how many of the
queued reports were queued before it became ready and so go out before it (R189). -/
structure Reply where
  kind : Nat
  tag : Nat
  status : Status
  body : Body
  ahead : Nat
  deriving DecidableEq, Repr

/-! ### The blocks -/

/-- Link Unit. -/
structure Lnk where
  receiver : Receiver
  buffer : List RawFrame
  errors : LinkErrors
  flags : BitVec 16
  reportEnable : BitVec 16
  attnEnable : BitVec 16
  reports : List Report
  lost : Nat
  reply : Option Reply
  restarting : Bool
  deriving DecidableEq, Repr

/-- Class Table. -/
structure Clt where
  classes : Table 8 ClassRec
  ids : Table 32 Identity
  deriving DecidableEq, Repr

/-- What ARB holds of a slot's tenancy; the request record is present while WAITING and absent otherwise
(R17). -/
inductive Tenancy where
  | vacant
  | opened
  | waiting (r : RequestRec)
  | holding
  deriving DecidableEq, Repr

/-- Turn Arbiter. -/
structure Arb where
  slots : Table 32 Tenancy
  ranks : Table 32 Nat
  presence : Table 32 (Option Timer)
  arbiter : Arbiter
  gap : Option Timer
  turnGap : Nat
  presenceTimeout : Nat
  defaultBand : BandId
  defaultEmission : Emission
  defaultPower : Nat
  deriving DecidableEq, Repr

/-- Transmit Sequencer, with the lines it drives. `retuneBand` is the band of the retune that RETUNE settles (R67). -/
structure Seq where
  state : SeqState
  step : Option Timer
  tx : Option Tx
  pttDemand : Bool
  currentBand : Option BandId
  bandCode : Fin 16
  active : Profile
  staged : Profile
  changePending : Bool
  queuedRetune : Option BandId
  retuneBand : Option BandId
  retuneCurrent : Bool
  trr : Bool
  ampkey : Bool
  exc : Bool
  idm : Bool
  keyGate : Bool
  polarities : Polarities
  deriving DecidableEq, Repr

/-- Keying Timeline. `gated` is the DOWN of the element being played while EXCITING has not been entered
since (R85, log 14). -/
structure Ktl where
  timeline : List KeyEntry
  state : Key
  burst : Option Burst
  suppression : Bool
  hang : Option Timer
  burstGap : Option Timer
  stuck : Option Timer
  gated : Option KeyEntry
  params : KeyParams
  deriving DecidableEq, Repr

/-- Drive Unit. -/
structure Drv where
  bands : Table 12 BandRec
  barefootCal : Table 12 Context
  amplifiedCal : Table 12 Context
  applied : Applied
  barefootCeiling : Nat
  deriving DecidableEq, Repr

/-- Amplifier Manager, with AMPPWR. -/
structure Amg where
  state : AmpState
  amppwr : Bool
  warm : Option Timer
  idle : Option Timer
  autoAmp : Bool
  warmUpTime : Nat
  ampIdleTime : Nat
  deriving DecidableEq, Repr

/-- Measurement Unit. -/
structure Msr where
  scan : Scan
  /-- W_fwd and W_ref of the last completed scan (R119, R126, log 43). -/
  forward : Option Nat
  reflected : Option Nat
  nextScan : Clock
  lastReflection : Option Nat
  factor : Nat
  reported : Bool
  peak : Nat
  overtemp : Bool
  supply : Bool
  overcurrentCount : Nat
  overtempCount : Nat
  supplyCount : Nat
  limits : Limits
  deriving DecidableEq, Repr

/-- Protection Unit. -/
structure Prt where
  faults : List FaultRec
  killLatch : Bool
  commissioned : Bool
  station : StationState
  deriving DecidableEq, Repr

/-- Identification Unit. -/
structure Idu where
  callsign : Option (List Char)
  params : IdParams
  owed : Bool
  due : Bool
  dueTime : Option Clock
  deadlineAt : Clock
  interval : Option Timer
  deadlineRuns : Bool
  quiet : Option Timer
  claim : Claim
  cycle : CycleState
  context : Option Cycle
  element : Option Timer
  startWaits : Bool
  deriving DecidableEq, Repr

/-- Accounting Unit; the counters in the order of R168. -/
structure Acu where
  used : Table 32 Nat
  counters : Table 6 Counter
  records : List TurnRec
  number : Nat
  deriving DecidableEq, Repr

/-- Input Router. -/
structure Inr where
  inputs : Table 4 Input
  kill : KillInput
  deriving DecidableEq, Repr

/-- The whole part: station time, RST, the twelve blocks, and the queue of commands that wait. -/
structure State where
  clock : Clock
  seconds : Clock
  secondAt : Clock
  rst : Bool
  lnk : Lnk
  clt : Clt
  arb : Arb
  seq : Seq
  ktl : Ktl
  drv : Drv
  amg : Amg
  msr : Msr
  prt : Prt
  idu : Idu
  acu : Acu
  inr : Inr
  pending : List Instr
  deriving DecidableEq, Repr

/-- Why the part stops: it never does. The spec answers every command in every state (INVENTORY.md, Faults),
so no meaning raises a fault, and the type has no constructor. -/
inductive Fault where
  deriving DecidableEq, Repr

/-- Why a command has no meaning. -/
inductive Refusal where
  /-- Raised by `exec` for a row of the table that has no meaning yet: no row is left so. Safe: the machine
  stops where the part would go on. -/
  | notModelled (mnemonic : String)
  deriving DecidableEq, Repr

/-! ### Full reset -/

/-- A class record after a full reset (R2). -/
def ClassRec.reset : ClassRec where
  bands := Table.build fun _ => false
  ceilings := Table.build fun _ => 100
  cw := false
  phone := false
  data := false
  priority := 0
  control := false
  singleOver := false
  turnLimit := 10
  idleHang := 60
  txLimit := 180

/-- The identity of a slot after a full reset and after CloseSlot (R4). -/
def Identity.reset : Identity := ⟨none, 0, none, false⟩

/-- The default timing profile (R51). -/
def Profile.reset : Profile := ⟨15, 10, 10, 10, 20, 20⟩

/-- LNK after a full reset (R182, R188, R189). -/
def Lnk.reset : Lnk where
  receiver := .hunting
  buffer := []
  errors := ⟨0, 0, 0, 0, 0⟩
  flags := 0
  reportEnable := 0
  attnEnable := 0
  reports := []
  lost := 0
  reply := none
  restarting := false

/-- CLT after a full reset (R2, R4). -/
def Clt.reset : Clt where
  classes := Table.build fun _ => ClassRec.reset
  ids := Table.build fun _ => Identity.reset

/-- ARB after a full reset: slot n has rank 31 − n (R17). -/
def Arb.reset : Arb where
  slots := Table.build fun _ => .vacant
  ranks := Table.build fun n => 31 - n.val
  presence := Table.build fun _ => none
  arbiter := .free
  gap := none
  turnGap := 2000
  presenceTimeout := 10
  defaultBand := 0
  defaultEmission := .phone
  defaultPower := 100

/-- SEQ after a full reset (R49, R50). -/
def Seq.reset : Seq where
  state := .quiet
  step := none
  tx := none
  pttDemand := false
  currentBand := none
  bandCode := 0
  active := Profile.reset
  staged := Profile.reset
  changePending := false
  queuedRetune := none
  retuneBand := none
  retuneCurrent := false
  trr := false
  ampkey := false
  exc := false
  idm := false
  keyGate := false
  polarities := ⟨.high, .high, .high, .high, .high, .high⟩

/-- KTL after a full reset (R72, R73). -/
def Ktl.reset : Ktl where
  timeline := []
  state := .up
  burst := none
  suppression := false
  hang := none
  burstGap := none
  stuck := none
  gated := none
  params := ⟨120, 40, 400, 3000, 8⟩

/-- DRV after a full reset (R94, R97, R100, R112). -/
def Drv.reset : Drv where
  bands := Table.build fun _ => ⟨false, 0, 100, 100, 2000⟩
  barefootCal := Table.build fun _ => none
  amplifiedCal := Table.build fun _ => none
  applied := ⟨false, none, 0, 0, 0, 0⟩
  barefootCeiling := 100

/-- AMG after a full reset (R100, R101). -/
def Amg.reset : Amg where
  state := .off
  amppwr := false
  warm := none
  idle := none
  autoAmp := true
  warmUpTime := 180
  ampIdleTime := 30

/-- MSR after a full reset (R117, R121, R128). -/
def Msr.reset : Msr where
  scan := ⟨0, 0, 0, 0, 0, 0⟩
  forward := none
  reflected := none
  nextScan := 0
  lastReflection := none
  factor := 256
  reported := false
  peak := 0
  overtemp := false
  supply := false
  overcurrentCount := 0
  overtempCount := 0
  supplyCount := 0
  limits := ⟨111, 250, 64, 4, 16, 3, 1023, 1023, 20, 0, 1023⟩

/-- PRT after a full reset with KILL read as `kill` (R134, R150). -/
def Prt.reset (kill : Bool) : Prt where
  faults := []
  killLatch := kill
  commissioned := false
  station := if kill then .killed else .uncommissioned

/-- IDU after a full reset (R151, R152). -/
def Idu.reset : Idu where
  callsign := none
  params := ⟨600, 30, 60, 20, 100⟩
  owed := false
  due := false
  dueTime := none
  deadlineAt := 0
  interval := none
  deadlineRuns := false
  quiet := none
  claim := .none
  cycle := .idle
  context := none
  element := none
  startWaits := false

/-- ACU after a full reset (R164). -/
def Acu.reset : Acu where
  used := Table.build fun _ => 0
  counters := Table.build fun _ => ⟨0, 0, 0⟩
  records := []
  number := 0

/-- An input after a full reset with its contact at the level `raw` (R173). -/
def Input.reset (raw : Bool) : Input := ⟨.none, .level, .activeHigh, 10, raw, raw, none⟩

/-- INR after a full reset with the contacts at the levels `raw` and KILL as `kill` (R173, R179). -/
def Inr.reset (raw : InputId → Bool) (kill : Bool) : Inr where
  inputs := Table.build fun i => Input.reset (raw i)
  kill := ⟨kill, kill, none⟩

/-- The part after a full reset with the contacts at the levels `raw`, KILL as `kill`, and the queue `q` of
commands (R150). -/
def State.afterReset (raw : InputId → Bool) (kill : Bool) (q : List Instr) : State where
  clock := 0
  seconds := 0
  secondAt := 0
  rst := false
  lnk := Lnk.reset
  clt := Clt.reset
  arb := Arb.reset
  seq := Seq.reset
  ktl := Ktl.reset
  drv := Drv.reset
  amg := Amg.reset
  msr := Msr.reset
  prt := Prt.reset kill
  idu := Idu.reset
  acu := Acu.reset
  inr := Inr.reset raw kill
  pending := q

/-- The part right after a full reset: every wired contact low and KILL not asserted (DESIGN CHOICE, unsafe,
log 5), and no command waiting. -/
def State.reset : State := State.afterReset (fun _ => false) false []

end Sys2Proof.Machine
end

