-- ==== Sys2Proof/Machine/Ops.lean ====
section
/-! DEFINITION. The named operations the meanings share: reading and writing the turn context and the slots,
the passing of station time, and raising an occurrence to LNK. -/

namespace Sys2Proof.Machine

/-! ### The turn context -/

/-- The turn context, present while the arbiter is TURN (R26, R31). -/
def State.turn (s : State) : Option Turn :=
  match s.arb.arbiter with
  | .turn t => some t
  | _ => none

/-- Changes the turn context; without one nothing changes. -/
def State.modTurn (f : Turn → Turn) (s : State) : State :=
  match s.turn with
  | some t => { s with arb := { s.arb with arbiter := .turn (f t) } }
  | none => s

/-- The holder of the current member turn. -/
def State.holder (s : State) : Option SlotId := s.turn.map (·.holder)

/-- Whether slot `w` is the holder of the current member turn. -/
def State.holdsTurn (s : State) (w : SlotId) : Bool := decide (s.holder = some w)

/-- The station state is READY (R142). -/
def State.ready (s : State) : Bool := decide (s.prt.station = .ready)

/-- "While the station is commissioned (any station state other than UNCOMMISSIONED)" (R95; DEDUCED for the
other rules that use the words, log 7). -/
def State.inService (s : State) : Bool := decide (s.prt.station ≠ .uncommissioned)

/-! ### Slots -/

/-- ARB's tenancy of slot `w`. -/
def State.tenancy (s : State) (w : SlotId) : Tenancy := s.arb.slots.read w

/-- Writes ARB's tenancy of slot `w`. -/
def State.setTenancy (w : SlotId) (x : Tenancy) (s : State) : State :=
  { s with arb := { s.arb with slots := s.arb.slots.write w x } }

/-- The request state a tenancy shows (R17). -/
def Tenancy.shown : Tenancy → ReqState
  | .vacant => .vacant
  | .opened => .opened
  | .waiting _ => .waiting
  | .holding => .holding

/-- The request record, present while WAITING (R17). -/
def Tenancy.record : Tenancy → Option RequestRec
  | .waiting r => some r
  | _ => none

/-- The slot is VACANT. -/
def State.vacant (s : State) (w : SlotId) : Bool := decide (s.tenancy w = .vacant)

/-- The identity fields of slot `w` (R4). -/
def State.identity (s : State) (w : SlotId) : Identity := s.clt.ids.read w

/-- Writes the identity fields of slot `w`. -/
def State.setIdentity (w : SlotId) (x : Identity) (s : State) : State :=
  { s with clt := { s.clt with ids := s.clt.ids.write w x } }

/-- The class record that governs slot `w` (R4, R8). -/
def State.classOf (s : State) (w : SlotId) : ClassRec := s.clt.classes.read (s.identity w).classIx

/-- Stops a presence timer (R22). -/
def State.stopPresence (w : SlotId) (s : State) : State :=
  { s with arb := { s.arb with presence := s.arb.presence.write w none } }

/-- Starts a presence timer with the presence timeout in force; slot 0 has none (R22). -/
def State.startPresence (w : SlotId) (s : State) : State :=
  if w = 0 then s
  else { s with arb := { s.arb with
    presence := s.arb.presence.write w (some ⟨s.clock, s.arb.presenceTimeout * 1000⟩) } }

/-- A request frame of the slot restarts a presence timer that runs (R22). -/
def State.restartPresence (w : SlotId) (s : State) : State :=
  match s.arb.presence.read w with
  | some _ => s.startPresence w
  | none => s

/-! ### Station time (R1) -/

/-- A timer of `ms` that starts now. -/
def State.timer (s : State) (ms : Nat) : Timer := ⟨s.clock, ms⟩

/-- The number of a residency counter, in the order of R168. -/
def resIndex : Residency → Fin 6
  | .exciting => 0
  | .ampOn => 1
  | .ampWarming => 2
  | .foldback => 3
  | .held => 4
  | .tripped => 5

/-- The residency counter of a number. -/
def resOf : Fin 6 → Residency
  | 0 => .exciting
  | 1 => .ampOn
  | 2 => .ampWarming
  | 3 => .foldback
  | 4 => .held
  | 5 => .tripped

/-- The condition of a residency counter (R168). -/
def State.resides (s : State) : Residency → Bool
  | .exciting => decide (s.seq.state = .exciting)
  | .ampOn => decide (s.amg.state = .on)
  | .ampWarming => decide (s.amg.state = .warming)
  | .foldback => decide (s.seq.state = .exciting) && decide (s.msr.factor < Config.fullFactor)
  | .held => decide (s.prt.station = .held)
  | .tripped => decide (s.prt.station = .tripped)

/-- `n` ms pass while the counter's condition holds: each adds 1 to the remainder, and a remainder that
reaches 100 returns to 0 and completes a tenth (R168). A counter at its top stands still. -/
def Counter.pass (n : Nat) (c : Counter) : Counter :=
  if c.value = max32 then c
  else { c with remainder := (c.remainder + n) % 100, owed := c.owed + (c.remainder + n) / 100 }

/-- The residency counters after `n` ms: those whose condition holds have counted them (R168). -/
def State.countersAfter (n : Nat) (s : State) : Table 6 Counter :=
  Table.build fun i =>
    if s.resides (resOf i) = true then (s.acu.counters.read i).pass n else s.acu.counters.read i

/-- The whole seconds that have passed since the last one counted are counted (R1). -/
def State.countSeconds (s : State) : State :=
  let k := (s.clock - s.secondAt).toNat / 1000
  { s with seconds := s.seconds + BitVec.ofNat 32 k, secondAt := s.secondAt + BitVec.ofNat 32 (1000 * k) }

/-- `n` ms of the station clock pass: the residency counters count them, and station seconds gain 1 with each further
1,000 ms (R1, R168). -/
def State.elapse (n : Nat) (s : State) : State :=
  State.countSeconds { s with
    clock := s.clock + BitVec.ofNat 32 n
    acu := { s.acu with counters := s.countersAfter n } }

/-- An occurrence commanded before its instant brings the station clock forward to it (DESIGN CHOICE, log 1);
after its instant the clock stays. -/
def State.bringTo (t : Clock) (s : State) : State :=
  if reached s.clock t then s else s.elapse (t - s.clock).toNat

/-! ### Occurrences raised to LNK (R188, R189) -/

/-- The event index of an occurrence's kind (R192). -/
def Report.index : Report → Nat
  | .turnGranted .. => 0
  | .turnEnded .. => 1
  | .txStarted .. => 2
  | .txEnded .. => 3
  | .requestDropped .. => 4
  | .bandSet .. => 5
  | .ampChanged .. => 6
  | .foldback .. => 7
  | .faultRaised .. => 8
  | .stationChanged .. => 9
  | .idDue .. => 10
  | .idSent .. => 11
  | .keyingLoss .. => 12
  | .allowanceExhausted .. => 13
  | .linkError .. => 14
  | .spuriousLocal .. => 15

/-- The flag set with the one flag of event index `k`. -/
def kindBit (k : Nat) : BitVec 16 := BitVec.ofNat 16 (2 ^ k)

/-- Offers a report to the queue: it joins at the newest end, or is dropped and counted lost (R189). -/
def Lnk.offer (r : Report) (l : Lnk) : Lnk :=
  if l.reports.length < Config.reportCapacity then { l with reports := l.reports ++ [r] }
  else { l with lost := countUp max16 l.lost }

/-- Sets the flag of the occurrence's kind and, if its report enable is set, offers the report (R188). -/
def Lnk.raise (r : Report) (l : Lnk) : Lnk :=
  let l' := { l with flags := l.flags ||| kindBit r.index }
  if l.reportEnable &&& kindBit r.index ≠ 0 then l'.offer r else l'

/-- Raises an occurrence to LNK (R188). -/
def State.raise (r : Report) (s : State) : State := { s with lnk := s.lnk.raise r }

end Sys2Proof.Machine
end

