-- ==== Sys2Proof/Machine/Flags.lean ====
section
/-! DEFINITION. The wired functions, the key state and the output lines as functions of the state: the flags
and lines that follow other state at once. -/

namespace Sys2Proof.Machine

/-! ### Wired functions (R173, R176) -/

/-- An input is active when its debounced level equals the level named by its polarity (R173). -/
def Input.active (i : Input) : Bool :=
  match i.polarity with
  | .activeHigh => i.debounced
  | .activeLow => !i.debounced

/-- The inputs routed to a function. -/
def State.routed (s : State) (f : InputFunction) : List Input :=
  (numbers 4).filterMap fun i => if (s.inr.inputs.read i).function = f then some (s.inr.inputs.read i) else none

/-- Whether at least one input is routed to a function. -/
def State.isRouted (s : State) (f : InputFunction) : Bool := !(s.routed f).isEmpty

/-- A level function is active while at least one input routed to it with trigger LEVEL is active (R176). -/
def State.functionActive (s : State) (f : InputFunction) : Bool :=
  (s.routed f).any fun i => decide (i.trigger = .level) && i.active

/-! ### The key state (R85) -/

/-- LOCAL_KEY is down and reaches KTL: slot 0 holds a CW turn and local suppression is clear (R90, R91). -/
def State.localKeyDown (s : State) : Bool :=
  match s.turn with
  | some t => decide (t.holder = 0) && decide (t.emission = .cw) && s.functionActive .localKey && !s.ktl.suppression
  | none => false

/-- The key state: the timeline state, for slot 0 with a CW turn also LOCAL_KEY, and held UP while the turn
is PAUSED (R85). -/
def State.keyState (s : State) : Key :=
  match s.turn with
  | some t =>
    if t.sub = .paused then .up
    else if s.ktl.state = .down || s.localKeyDown then .down
    else .up
  | none => s.ktl.state

/-! ### Output lines -/

/-- The KEY line is asserted through SEQ's gate: by the key state in a MEMBER transmission, by IDU's keying in
an ID transmission (R60, R85, R159). -/
def State.keyLine (s : State) : Bool :=
  s.seq.keyGate &&
    match s.seq.tx with
    | some x =>
      match x.kind with
      | .member _ => decide (s.keyState = .down)
      | .ident =>
        match s.idu.context with
        | some c => (c.todo.head?.map (·.key)).getD false
        | none => false
    | none => false

/-- ATTN is asserted while some kind has both its flag and its attention enable set, and held deasserted while
RST is asserted (R188). -/
def State.attnLine (s : State) : Bool := !s.rst && decide (s.lnk.flags &&& s.lnk.attnEnable ≠ 0)

/-- The duty of DRIVE in 256ths: D + 1 while DRIVE is active, else 0 (R114). -/
def State.driveDuty (s : State) : Nat := if s.drv.applied.active then s.drv.applied.drive + 1 else 0

/-- The electrical level of a line: asserted by driving it high, or by driving it low (R50). -/
def driven (p : LinePolarity) (asserted : Bool) : Bool :=
  match p with
  | .high => asserted
  | .low => !asserted

/-- The levels of TRR, AMPKEY, EXC, KEY, IDM and AMPPWR, in the order of R50. -/
def State.lineLevels (s : State) : List Bool :=
  let p := s.seq.polarities
  [driven p.trr s.seq.trr, driven p.ampkey s.seq.ampkey, driven p.exc s.seq.exc, driven p.key s.keyLine,
    driven p.idm s.seq.idm, driven p.amppwr s.amg.amppwr]

end Sys2Proof.Machine
end

