-- ==== Sys2Proof/Machine/Policy.lean ====
section
/-! DEFINITION. The checks that several blocks ask: the permit check, ceilings, exhaustion and the commission
checks. -/

namespace Sys2Proof.Machine

/-- A class allows an emission (R2). -/
def ClassRec.allows (c : ClassRec) : Emission → Bool
  | .cw => c.cw
  | .phone => c.phone
  | .data => c.data

/-- The permit check (R6): the band is enabled, and the slot's class allows the band and the emission. -/
def State.permit (s : State) (w : SlotId) (b : BandId) (e : Emission) : Bool :=
  (s.drv.bands.read b).enabled && (s.classOf w).bands.read b && (s.classOf w).allows e

/-- The class ceiling of slot `w` on band `b` (R7). -/
def State.classCeiling (s : State) (w : SlotId) (b : BandId) : Nat := (s.classOf w).ceilings.read b

/-- A budget is exhausted when the air time used is at or above ten times the allowance (R166). -/
def exhausts (allowance : Option Nat) (used : Nat) : Bool :=
  match allowance with
  | some a => decide (10 * a ≤ used)
  | none => false

/-- The slot is exhausted (R166). -/
def State.exhausted (s : State) (w : SlotId) : Bool := exhausts (s.identity w).allowance (s.acu.used.read w)

/-! ### The commission checks 1 to 3 (R99, R148) -/

/-- The lowest-numbered band for which a test holds. -/
def lowestBand (p : BandId → Bool) : Option BandId := (numbers 12).find? p

/-- The first of the commission checks 1 to 3 that the configuration fails, with the lowest band that fails it
where the check concerns a band (R148). R148 names the lowest band for Commission's reply; R95, R99 and R100 say only "the
band" for a SetBand, a SetCalibration and a SetStation that are refused, and the model names the lowest there too (DESIGN
CHOICE, log 50). -/
def configFault (bands : Table 12 BandRec) (barefoot amplified : Table 12 Context) (ceiling : Nat) :
    Option (ConfigReason × Option BandId) :=
  if (lowestBand fun b => (bands.read b).enabled) = none then some (.noBand, none)
  else
    match lowestBand fun b => (bands.read b).enabled && (barefoot.read b).isNone with
    | some b => some (.noBarefootCal, some b)
    | none =>
      match lowestBand fun b => (bands.read b).enabled && decide (ceiling < (bands.read b).stationCeiling) &&
          (amplified.read b).isNone with
      | some b => some (.noAmplifiedCal, some b)
      | none => none

/-- The commission checks 1 to 3 on DRV's configuration. -/
def Drv.fault (d : Drv) : Option (ConfigReason × Option BandId) :=
  configFault d.bands d.barefootCal d.amplifiedCal d.barefootCeiling

end Sys2Proof.Machine
end

