-- ==== Sys2Proof/Machine/Drive.lean ====
section
/-! DEFINITION. Path, target power, applied power and drive code (R110 to R114). -/

namespace Sys2Proof.Machine

/-- The uncapped target of a member transmission (R111). -/
def State.uncapped (s : State) (w : SlotId) (b : BandId) (e : Emission) (p : Nat) : Nat :=
  let u := min p (min (s.classCeiling w b) (s.drv.bands.read b).stationCeiling)
  if e = .data then min u (s.drv.bands.read b).dutyCeiling else u

/-- The uncapped target of an ID transmission (R111). -/
def State.idUncapped (s : State) (b : BandId) (idPower : Nat) : Nat := min idPower (s.drv.bands.read b).stationCeiling

/-- The path DRV answers for a start with the uncapped target `u` (R110). -/
def State.choosePath (s : State) (u : Nat) : Path :=
  if s.amg.state = .on ∧ s.drv.barefootCeiling < u then .amplified else .barefoot

/-- The target power on a path (R111). -/
def State.target (s : State) (path : Path) (u : Nat) : Nat :=
  match path with
  | .amplified => u
  | .barefoot => min u s.drv.barefootCeiling

/-- The applied power (R112). -/
def effective (target factor : Nat) : Nat := target * factor / 256

/-- The straight line from the origin to point 0, rounded half up (R113). -/
def belowFirst (p : Point) (x : Nat) : Nat := (2 * p.code * x + p.power) / (2 * p.power)

/-- The straight line between two points, rounded half up (R113). -/
def between (p q : Point) (x : Nat) : Nat :=
  let n := (q.code - p.code) * (x - p.power)
  let d := q.power - p.power
  p.code + (2 * n + d) / (2 * d)

/-- The curve above point `p` through the points that follow it; it saturates at the last (R113). -/
def aboveFirst (p : Point) : List Point → Nat → Nat
  | [], _ => p.code
  | q :: rest, x => if x ≤ q.power then between p q x else aboveFirst q rest x

/-- The drive code for an applied power in a calibration context; an empty context gives 0 (R99, R113). -/
def driveCode (c : Context) (x : Nat) : Nat :=
  match c with
  | none => 0
  | some pts =>
    match pts.toList with
    | [] => 0
    | p :: rest => if x ≤ p.power then belowFirst p x else aboveFirst p rest x

/-- The calibration context of a band and path (R97). -/
def State.context (s : State) (b : BandId) (path : Path) : Context :=
  match path with
  | .barefoot => s.drv.barefootCal.read b
  | .amplified => s.drv.amplifiedCal.read b

/-- The target power of the transmission in SEQ (R111): the holder's, from the turn context, or the ID's, from
the captured ID power. -/
def State.txTarget (s : State) (x : Tx) : Option Nat :=
  match x.kind with
  | .member w =>
    match s.turn with
    | some t => some (s.target x.path (s.uncapped w x.band x.emission t.power))
    | none => none
  | .ident =>
    match s.idu.context with
    | some c => some (s.target x.path (s.idUncapped x.band c.power))
    | none => none

/-- DRV computes P_target, P_eff and D and makes DRIVE active with them (R112, R113, R114). -/
def State.computeDrive (s : State) : State :=
  match s.seq.tx with
  | none => s
  | some x =>
    match s.txTarget x with
    | none => s
    | some p =>
      let e := effective p s.msr.factor
      { s with drv := { s.drv with
        applied := ⟨true, some x.path, p, s.msr.factor, e, driveCode (s.context x.band x.path) e⟩ } }

/-- An occasion of R112 outside EXCITING computes nothing. -/
def State.recompute (s : State) : State := if s.seq.state = .exciting then s.computeDrive else s

/-- The transmission in SEQ is the holder's own. -/
def State.memberTx (s : State) : Bool :=
  match s.seq.tx with
  | some x => x.current && decide (x.kind ≠ .ident)
  | none => false

/-- An occasion of R112 that concerns a member transmission alone. -/
def State.recomputeMember (s : State) : State := if s.memberTx then s.recompute else s

/-- Sets the foldback factor (R125). -/
def State.setFactor (f : Nat) (s : State) : State := { s with msr := { s.msr with factor := f } }

end Sys2Proof.Machine
end

