-- ==== Sys2Proof/Machine/Amplifier.lean ====
section
/-! DEFINITION. The amplifier's changes of state (R101 to R109). -/

namespace Sys2Proof.Machine

/-- AMG changes state: AMPPWR follows at once, the state's timer starts and the other stops, and AMP_CHANGED is
raised (R101, R106, R109). -/
def State.ampTo (new : AmpState) (cause : AmpCause) (s : State) : State :=
  State.raise (.ampChanged s.amg.state new cause) { s with amg := { s.amg with
    state := new
    amppwr := decide (new = .warming ∨ new = .on)
    warm := if new = .warming then some (s.timer (s.amg.warmUpTime * 1000)) else none
    idle := if new = .on ∧ s.seq.state = .quiet then some (s.timer (s.amg.ampIdleTime * 60000)) else none } }

/-- AMP_READY is active, with an input routed to it (R104). -/
def State.ampReady (s : State) : Bool := s.isRouted .ampReady && s.functionActive .ampReady

/-- OFF to WARMING, and on to ON at once if AMP_READY is routed and already active (R102, R104). -/
def State.warmAmp (cause : AmpCause) (s : State) : State :=
  let s := s.ampTo .warming cause
  if s.ampReady then s.ampTo .on .ready else s

/-- SEQ leaves QUIET: the amplifier's idle timer stops (R106). -/
def State.stopAmpIdle (s : State) : State := { s with amg := { s.amg with idle := none } }

/-- SEQ enters QUIET: the idle timer of an amplifier that is ON starts from zero (R106). -/
def State.startAmpIdle (s : State) : State :=
  if s.amg.state = .on then { s with amg := { s.amg with idle := some (s.timer (s.amg.ampIdleTime * 60000)) } }
  else s

/-- What AMG does at a grant whose uncapped target is `u` (R103). -/
def State.ampAtGrant (u : Nat) (s : State) : State :=
  if s.amg.autoAmp = true ∧ s.drv.barefootCeiling < u then
    match s.amg.state with
    | .off => s.warmAmp .auto
    | .on => if s.amg.idle.isSome then s.startAmpIdle else s
    | .warming | .failed => s
  else s

/-- An AMPLIFIED transmission is in SEQ (R107). -/
def State.amplifiedTx (s : State) : Bool :=
  match s.seq.tx with
  | some x => decide (x.path = .amplified)
  | none => false

end Sys2Proof.Machine
end

