-- ==== Sys2Proof/Machine/Keying.lean ====
section
/-! DEFINITION. The keying timeline: flush, playout, the key's timers (R84, R85, R88 to R92). -/

namespace Sys2Proof.Machine

/-- SEQ is EXCITING for a MEMBER transmission (R60). -/
def State.memberExciting (s : State) : Bool := decide (s.seq.state = .exciting) && s.memberTx

/-- The hang timer's conditions besides the key state: EXCITING for a MEMBER transmission of the CW turn, and an
empty timeline (R88). -/
def State.hangMayRun (s : State) : Bool :=
  s.memberExciting && s.ktl.timeline.isEmpty &&
    match s.turn with
    | some t => decide (t.emission = .cw)
    | none => false

/-- The stuck-key timer runs while the key state is DOWN, the hang timer while it is UP and R88's other
conditions hold; each starts when its conditions become true and stops when they fail (R88, R90). -/
def State.syncKey (s : State) : State :=
  let down : Bool := decide (s.keyState = .down)
  { s with ktl := { s.ktl with
    stuck := if down then some (s.ktl.stuck.getD (s.timer (s.ktl.params.stuckLimit * 1000))) else none
    hang := if !down && s.hangMayRun then some (s.ktl.hang.getD (s.timer s.ktl.params.cwHang)) else none } }

/-- A flush of KTL (R92): local suppression is kept. -/
def State.flushKeys (s : State) : State :=
  { s with ktl := { s.ktl with
    timeline := [], state := .up, burst := none, hang := none, burstGap := none, stuck := none, gated := none } }

/-- A flush for a turn that continues: the key state is then UP, or follows LOCAL_KEY (R92); a key that LOCAL_KEY
keeps down starts its stuck-key timer afresh (DESIGN CHOICE, log 12). -/
def State.flushTurnKeys (s : State) : State := s.flushKeys.syncKey

/-- The timeline state is UP with the timeline empty, and the local key is up (R84, R91). -/
def State.keyAtRest (s : State) : Bool :=
  decide (s.ktl.state = .up) && s.ktl.timeline.isEmpty && !s.localKeyDown

/-- A key-up at rest: the hang and burst-gap timers start, and the pending start of a CW turn is cleared (R57,
R84, R88, R89). The burst-gap timer runs only while a burst is open (R89). -/
def State.keyUpAtRest (s : State) : State :=
  let s := { s with ktl := { s.ktl with
    burstGap := if s.ktl.burst.isSome then some (s.timer s.ktl.params.burstGap) else s.ktl.burstGap } }
  let s := s.modTurn fun t => if t.emission = .cw then { t with pendingStart := false } else t
  s.syncKey

/-- An element whose DOWN and UP both played without EXCITING between them never reached the air: GATED, with
the DOWN's timestamp and scheduled time (R85). -/
def State.raiseGated (s : State) : State :=
  match s.ktl.gated with
  | some d => s.raise (.keyingLoss .gated s.holder (some .down) (some d.stamp) (some d.at_.toNat))
  | none => s

/-- An event plays: the timeline state takes its direction, with R84's effects on the key state and the timers. -/
def State.playEvent (e : KeyEntry) (s : State) : State :=
  match e.dir with
  | .down =>
    { s with ktl := { s.ktl with
      state := .down, burstGap := none, gated := if s.memberExciting then none else some e } }.syncKey
  | .up =>
    let s := s.raiseGated
    let s := { s with ktl := { s.ktl with state := .up, gated := none } }
    if s.keyAtRest then s.keyUpAtRest else s.syncKey

/-- The low 16 bits of the station clock (R74). -/
def State.keyNow (s : State) : KeyTime := s.clock.setWidth 16

/-- Plays up to `n` entries whose scheduled time has been reached, oldest first (R84). -/
def State.playDue : Nat → State → State
  | 0, s => s
  | n + 1, s =>
    match s.ktl.timeline with
    | [] => s
    | e :: rest =>
      if reached s.keyNow e.at_ then
        ({ s with ktl := { s.ktl with timeline := rest } }.playEvent e).playDue n
      else s

/-- Plays every entry that is due. -/
def State.playAllDue (s : State) : State := s.playDue s.ktl.timeline.length

end Sys2Proof.Machine
end

