-- ==== Sys2Proof/Machine/Sequencer.lean ====
section
/-! DEFINITION. The sequencer's own steps: starts, arming, EXCITING, leaving it and disarming, RETUNE
(R53, R58 to R63, R67, R71). -/

namespace Sys2Proof.Machine

/-- The step timer of `ms` starts now. -/
def State.startStep (ms : Nat) (s : State) : State := { s with seq := { s.seq with step := some (s.timer ms) } }

/-- Changes the transmission context. -/
def State.modTx (f : Tx → Tx) (s : State) : State := { s with seq := { s.seq with tx := s.seq.tx.map f } }

/-- The transmission in SEQ is an ID transmission. -/
def State.identTx (s : State) : Bool :=
  match s.seq.tx with
  | some x => decide (x.kind = .ident)
  | none => false

/-- Entering ARM_RELAY from QUIET: TRR is asserted, IDM too for an ID transmission, and the relay-on wait
starts (R58). SEQ leaves QUIET, so the amplifier's idle timer stops (R106). -/
def State.enterArmRelay (s : State) : State :=
  ({ s with seq := { s.seq with state := .armRelay, trr := true, idm := s.identTx } }.startStep
    s.seq.active.relayOn).stopAmpIdle

/-- A member start is taken (R53). The clock of the last EXCITING entry reads 0 until there has been one (the model's
choice, log 39). -/
def State.takeStart (s : State) : State :=
  match s.turn with
  | none => s
  | some t =>
    let path := s.choosePath (s.uncapped t.holder t.band t.emission t.power)
    let s := { s with seq := { s.seq with
      tx := some ⟨.member t.holder, t.band, t.emission, path, 0, 0, none, none, true⟩ } }
    (s.modTurn fun t => { t with
      txCount := countUp max16 t.txCount, pendingStart := false, idleStart := none }).enterArmRelay

/-- SEQ takes the ID start: IDU captures the callsign, the speed and the power, and the transmission context
carries the current band, CW and the path for the ID power (R71, R158). Without a current band no
identification is attempted (R156). -/
def State.takeIdStart (s : State) : State :=
  match s.seq.currentBand, s.idu.context with
  | some b, some c =>
    let p := s.idu.params
    let c := { c with callsign := s.idu.callsign.getD [], speed := p.speed, power := p.power }
    let s := { s with idu := { s.idu with context := some c, startWaits := false } }
    { s with seq := { s.seq with
      tx := some ⟨.ident, b, .cw, s.choosePath (s.idUncapped b p.power), 0, 0, none, none, false⟩ } }.enterArmRelay
  | _, _ => s

/-- SEQ takes the pending start at the first moment at which it is QUIET, the turn ACTIVE and the station READY
(R57). -/
def State.takePending (s : State) : State :=
  match s.turn with
  | some t =>
    if t.pendingStart = true ∧ t.sub = .active ∧ s.seq.state = .quiet ∧ s.ready = true then s.takeStart else s
  | none => s

/-- Sets the pending-start flag, which stops the idle hang (R34, R57). -/
def State.setPending (s : State) : State := s.modTurn fun t => { t with pendingStart := true, idleStart := none }

/-- Clears the pending-start flag (R57). -/
def State.clearPending (s : State) : State := s.modTurn fun t => { t with pendingStart := false }

/-! ### Morse (R159) -/

/-- The pattern of a character, true for a dah (R159). -/
def morse : Char → List Bool
  | 'A' => [false, true]
  | 'B' => [true, false, false, false]
  | 'C' => [true, false, true, false]
  | 'D' => [true, false, false]
  | 'E' => [false]
  | 'F' => [false, false, true, false]
  | 'G' => [true, true, false]
  | 'H' => [false, false, false, false]
  | 'I' => [false, false]
  | 'J' => [false, true, true, true]
  | 'K' => [true, false, true]
  | 'L' => [false, true, false, false]
  | 'M' => [true, true]
  | 'N' => [true, false]
  | 'O' => [true, true, true]
  | 'P' => [false, true, true, false]
  | 'Q' => [true, true, false, true]
  | 'R' => [false, true, false]
  | 'S' => [false, false, false]
  | 'T' => [true]
  | 'U' => [false, false, true]
  | 'V' => [false, false, false, true]
  | 'W' => [false, true, true]
  | 'X' => [true, false, false, true]
  | 'Y' => [true, false, true, true]
  | 'Z' => [true, true, false, false]
  | '0' => [true, true, true, true, true]
  | '1' => [false, true, true, true, true]
  | '2' => [false, false, true, true, true]
  | '3' => [false, false, false, true, true]
  | '4' => [false, false, false, false, true]
  | '5' => [false, false, false, false, false]
  | '6' => [true, false, false, false, false]
  | '7' => [true, true, false, false, false]
  | '8' => [true, true, true, false, false]
  | '9' => [true, true, true, true, false]
  | '/' => [true, false, false, true, false]
  | _ => []

/-- The elements of a character's pattern, with a gap of 1 unit between them (R159). -/
def patternElements (ix : Nat) : List Bool → List Element
  | [] => []
  | [dah] => [⟨true, if dah then 3 else 1, ix⟩]
  | dah :: rest => ⟨true, if dah then 3 else 1, ix⟩ :: ⟨false, 1, ix⟩ :: patternElements ix rest

/-- The elements of a callsign from the character of index `ix` on, with a gap of 3 units between characters
and none after the last (R159). The gap carries the index of the character before it, so that Query STATION shows that
character until the next one begins (the model's choice, log 38). -/
def messageFrom (ix : Nat) : List Char → List Element
  | [] => []
  | [c] => patternElements ix (morse c)
  | c :: rest => patternElements ix (morse c) ++ ⟨false, 3, ix⟩ :: messageFrom (ix + 1) rest

/-- The elements and gaps of a callsign (R159). -/
def message (c : List Char) : List Element := messageFrom 0 c

/-- The dit, in ms, at a speed in wpm (R159). -/
def ditMs (wpm : Nat) : Nat := 1200 / wpm

/-- The element timer for the element being keyed. -/
def State.startElement (s : State) : State :=
  match s.idu.context with
  | some c =>
    { s with idu := { s.idu with
      element := some (s.timer (((c.todo.head?.map (·.units)).getD 0) * ditMs c.speed)) } }
  | none => s

/-- SEQ enters EXCITING for the ID transmission: IDU enters SENDING and starts keying at that moment (R158). -/
def State.beginSending (s : State) : State :=
  match s.idu.context with
  | some c =>
    { s with idu := { s.idu with
      cycle := .sending, context := some { c with todo := message c.callsign, entered := true } } }.startElement
  | none => s

/-- A MEMBER transmission makes the identification owed; the interval timer starts if the flag was clear
(R153). -/
def State.markOwed (s : State) : State :=
  { s with idu := { s.idu with
    owed := true
    interval := if s.idu.owed then s.idu.interval else some (s.timer (s.idu.params.interval * 1000)) } }

/-- The transmission count TX_STARTED carries: the turn's, or 0 for an ID transmission (R60). -/
def State.startedCount (s : State) : Nat :=
  match s.turn with
  | some t => if s.memberTx then t.txCount else 0
  | none => 0

/-- Entering EXCITING (R60). MSR's over-current count starts afresh with each transmission (R129; log 34). -/
def State.enterExciting (s : State) : State :=
  match s.seq.tx with
  | none => s
  | some x =>
    let member : Bool := decide (x.kind ≠ .ident)
    let s := { s with seq := { s.seq with
      state := .exciting, step := none, exc := true, keyGate := true
      tx := some { x with
        excitedAt := s.clock, airTime := 0, endCause := none, limitStart := if member then some s.clock else none } } }
    let s := { s with msr := { s.msr with peak := 0, reported := false, overcurrentCount := 0 } }
    let s := s.computeDrive
    let s := if member then { s.markOwed with ktl := { s.ktl with gated := none } } else s
    let s := s.raise (.txStarted x.kind x.band x.emission x.path s.startedCount)
    let s := if member then s else s.beginSending
    s.syncKey

/-- PRT clears the condition-present flag of an SWR_TRIP record when SEQ leaves EXCITING (R137). -/
def clearPresent (k : FaultKind) (l : List FaultRec) : List FaultRec :=
  l.map fun r => if r.kind = k then { r with present := false } else r

/-- The condition of a fault kind has gone: its record's flag is cleared (R137). -/
def State.conditionGone (k : FaultKind) (s : State) : State :=
  { s with prt := { s.prt with faults := clearPresent k s.prt.faults } }

/-- The PTT demand is cleared by every end for a cause other than PTT_OFF and LOCAL_RELEASE (R55). -/
def keepsPtt (c : TxEndCause) : Bool := decide (c = .pttOff ∨ c = .localRelease)

/-- A transmission leaves EXCITING: the end cause is written, EXC is deasserted, the KEY gate closes, DRIVE
becomes inactive, the limit timer stops, the PTT demand is cleared, TX_ENDED is raised (R61, steps 1, 2, 4, 5),
and the SWR_TRIP flag is cleared (R137). The state it goes to is the caller's. ID_DONE clears a PTT demand that a PttOn
made during the pause, as step 4 reads, and the pending start of that PttOn stands (R160; log 31). -/
def State.leaveExciting (cause : TxEndCause) (after : SeqState) (s : State) : State :=
  match s.seq.tx with
  | none => s
  | some x =>
    let s := { s with
      seq := { s.seq with
        state := after, exc := false, keyGate := false
        pttDemand := s.seq.pttDemand && keepsPtt cause
        tx := some { x with endCause := some cause, limitStart := none } }
      drv := { s.drv with applied := { s.drv.applied with active := false } }
      idu := { s.idu with element := none } }
    let s := s.raise (.txEnded x.kind cause x.airTime s.msr.peak)
    (s.conditionGone .swrTrip).syncKey

/-- Entering DISARM_AMP: AMPKEY is deasserted; the amp-off wait runs on the AMPLIFIED path and takes no time on
the BAREFOOT path (R63). -/
def State.enterDisarmAmp (s : State) : State :=
  { s with seq := { s.seq with state := .disarmAmp, ampkey := false } }.startStep
    (if s.amplifiedTx then s.seq.active.ampOff else 0)

/-- Entering DISARM_RELAY: TRR and IDM are deasserted and the relay-off wait starts (R63). -/
def State.enterDisarmRelay (s : State) : State :=
  { s with seq := { s.seq with state := .disarmRelay, trr := false, idm := false } }.startStep s.seq.active.relayOff

/-- To the disarm step that the asserted lines call for (R62, R69). -/
def State.disarm (s : State) : State := if s.seq.ampkey then s.enterDisarmAmp else s.enterDisarmRelay

/-- A normal end from EXCITING to DRAIN, whose wait is the tail (R61). -/
def State.normalEnd (cause : TxEndCause) (s : State) : State :=
  if s.seq.state = .exciting then (s.leaveExciting cause .drain).startStep s.seq.active.tail else s

/-- The PTT demand is cleared at an end, unless the cause is PTT_OFF or LOCAL_RELEASE (R55). -/
def State.clearPttFor (cause : TxEndCause) (s : State) : State :=
  { s with seq := { s.seq with pttDemand := s.seq.pttDemand && keepsPtt cause } }

/-- An arming is abandoned (R62); the PTT demand is cleared as at any end (R55, log 26). -/
def State.abandonArming (cause : TxEndCause) (s : State) : State :=
  ((s.modTx fun x => { x with endCause := some cause }).clearPttFor cause).disarm

/-- The sequencer is in ARM_RELAY or ARM_AMP. -/
def State.arming (s : State) : Bool := decide (s.seq.state = .armRelay ∨ s.seq.state = .armAmp)

/-- The holder's transmission is running: in ARM_RELAY, ARM_AMP or EXCITING (R154). -/
def State.running (s : State) : Bool := s.memberTx && (s.arming || decide (s.seq.state = .exciting))

/-- Entering RETUNE for band `b` (R67): SEQ leaves QUIET. -/
def State.enterRetune (b : BandId) (s : State) : State :=
  ({ s with seq := { s.seq with
      state := .retune, bandCode := (s.drv.bands.read b).relayCode, currentBand := some b
      queuedRetune := none, retuneBand := some b, retuneCurrent := true } }.setFactor Config.fullFactor |>.startStep
    (s.seq.active.bandSettle * 10)).stopAmpIdle

/-- A retune asked for at a grant: entered at once in QUIET, queued in any other state (R66). -/
def State.askRetune (b : BandId) (s : State) : State :=
  if s.seq.state = .quiet then s.enterRetune b else { s with seq := { s.seq with queuedRetune := some b } }

end Sys2Proof.Machine
end

