-- ==== Sys2Proof/Machine/Turns.lean ====
section
/-! DEFINITION. Turns and identifications: claims, the grant, arbitration, the turn end, records, the ends of
transmissions, the cut, QUIET entry, and what settles at once (R23 to R38, R53 to R71, R153 to R161, R170). -/

namespace Sys2Proof.Machine

/-! ### Turn records (R170) -/

/-- ACU numbers and appends a record; a full list drops its oldest; at the last number nothing is written. -/
def State.writeRecord (r : TurnRec) (s : State) : State :=
  if s.acu.number = max32 then s
  else { s with acu := { s.acu with
    number := s.acu.number + 1
    records := (if s.acu.records.length < Config.recordCapacity then s.acu.records else s.acu.records.tail) ++
      [{ r with number := s.acu.number + 1 }] } }

/-- The record of a member turn as it ends (R170). -/
def State.memberRecord (s : State) (t : Turn) (cause : TurnEndCause) : TurnRec where
  number := 0
  ident := false
  slot := some t.holder
  callsign := (s.identity t.holder).callsign
  classIx := some (s.identity t.holder).classIx
  band := some t.band
  emission := t.emission
  grantTime := t.grantTime
  duration := s.seconds - t.grantTime
  txCount := t.txCount
  airTime := t.airTime
  cause := cause

/-- The record of an identification (R160, R161, R170). -/
def State.idRecord (s : State) (c : Cycle) (airTime : Nat) (cause : TurnEndCause) : TurnRec where
  number := 0
  ident := true
  slot := none
  callsign := none
  classIx := none
  band := s.seq.currentBand
  emission := .cw
  grantTime := c.startTime
  duration := s.seconds - c.startTime
  txCount := if c.entered then 1 else 0
  airTime := if c.entered then airTime else 0
  cause := cause

/-! ### The identification's claim and cycle (R156 to R158) -/

/-- IDU begins a cycle: it enters STARTING and asks SEQ for an ID start, which SEQ takes in QUIET with the station
READY and which waits otherwise (R71, R158). -/
def State.beginCycle (home : CycleHome) (s : State) : State :=
  let s := { s with idu := { s.idu with
    cycle := .starting, context := some ⟨s.seconds, [], 0, 0, home, [], false⟩, startWaits := true } }
  if s.seq.state = .quiet ∧ s.ready = true then s.takeIdStart else s

/-- The claim takes the turn: it is PAUSED, KTL is flushed, the deadline timer stops, and a cycle begins at once
if the station is READY (R157). -/
def State.claimPause (s : State) : State :=
  let s := (s.modTurn fun t => { t with sub := .paused, idleStart := none }).flushTurnKeys
  let s := { s with idu := { s.idu with claim := .holdingPause, deadlineRuns := false } }
  if s.ready = true ∧ s.idu.cycle = .idle then s.beginCycle .memberTurn else s

/-- The deadline's instant has come (R157). -/
def State.deadlinePast (s : State) : Bool := reached s.clock s.idu.deadlineAt

/-- IDU claims the current member turn (R157): at once when it is ACTIVE with no transmission running, at the
transmission's end when one is running, on entering ACTIVE when the turn is TUNING. A deadline timer started at
or after its instant expires at once and is not left running. -/
def State.claimTurn (s : State) : State :=
  match s.turn with
  | none => s
  | some t =>
    match t.sub with
    | .active =>
      if s.running then
        { s with idu := { s.idu with claim := .atTxEnd, deadlineRuns := !s.deadlinePast } }
      else s.claimPause
    | .tuning => { s with idu := { s.idu with claim := .atActive, deadlineRuns := !s.deadlinePast } }
    | .paused => s

/-- The turn enters ACTIVE: a kept claim makes it PAUSED at once, before ARB offers a set pending-start flag to
SEQ (R32, R57, R157; log 9). -/
def State.enterActive (s : State) : State :=
  let s := (s.modTurn fun t => { t with sub := .active }).syncKey
  if s.idu.due = true ∧ s.idu.claim = .atActive then s.claimPause else s.takePending

/-! ### Arbitration and the grant (R23 to R25, R27, R30) -/

/-- Eligibility of slot `w` (R24). -/
def State.eligible (s : State) (w : SlotId) : Bool :=
  match (s.tenancy w).record with
  | some r => !(s.identity w).heldBack && s.permit w r.band r.emission && !s.exhausted w
  | none => false

/-- The slot carries a seize mark. -/
def State.marked (s : State) (w : SlotId) : Bool := ((s.tenancy w).record.map (·.mark)).getD false

/-- The order of grants: a seize mark first, then the higher class priority, then the higher rank (R25). -/
def State.beats (s : State) (a b : SlotId) : Bool :=
  if s.marked a ≠ s.marked b then s.marked a
  else if (s.classOf a).priority ≠ (s.classOf b).priority then decide ((s.classOf b).priority < (s.classOf a).priority)
  else decide (s.arb.ranks.read b < s.arb.ranks.read a)

/-- The better of the best so far and slot `w`. -/
def State.better (s : State) (best : Option SlotId) (w : SlotId) : Option SlotId :=
  match best with
  | none => some w
  | some v => if s.beats w v then some w else some v

/-- The winner among the eligible slots, or none (R25). -/
def State.winner (s : State) : Option SlotId := ((numbers 32).filter s.eligible).foldl s.better none

/-- The ranks after a grant to slot `w`: those below its rank gain 1, and it takes rank 0 (R23). -/
def rotate (ranks : Table 32 Nat) (w : SlotId) : Table 32 Nat :=
  Table.build fun i =>
    if i = w then 0 else if ranks.read i < ranks.read w then ranks.read i + 1 else ranks.read i

/-- The pending-start flag a grant of slot `w` sets: slot 0 with LOCAL_PTT active for PHONE or DATA, or with
LOCAL_KEY down for CW (R46, R177). A LOCAL_KEY that local suppression keeps out of the key state is down too (log 35). -/
def State.grantPending (s : State) (w : SlotId) (e : Emission) : Bool :=
  decide (w = 0) && s.functionActive (if e = .cw then .localKey else .localPtt)

/-- The turn context of a grant to slot `w` of the request `r` (R30, R31). -/
def State.newTurn (s : State) (w : SlotId) (r : RequestRec) : Turn where
  holder := w
  band := r.band
  emission := r.emission
  power := r.power
  mode := r.mode
  sub := if s.seq.currentBand = some r.band then .active else .tuning
  grantTime := s.seconds
  grantClock := s.clock
  txCount := 0
  airTime := 0
  pendingStart := s.grantPending w r.emission
  idleStart := none

/-- Steps 1 to 5 of a grant of the request `r` to slot `w` (R30), with AMG's part of step 4 (R103). -/
def State.grantSteps (w : SlotId) (r : RequestRec) (s : State) : State :=
  let s := s.setTenancy w .holding
  let s := { s with arb := { s.arb with
    ranks := rotate s.arb.ranks w, arbiter := .turn (s.newTurn w r), gap := none } }
  let s := s.setFactor Config.fullFactor
  let s := s.ampAtGrant (s.uncapped w r.band r.emission r.power)
  s.raise (.turnGranted w r.band r.emission r.power)

/-- Step 6 of a grant: the turn enters TUNING and asks for a retune, or ACTIVE; a due identification claims it
(R30, R66, R92, R157). -/
def State.enterGranted (r : RequestRec) (s : State) : State :=
  if s.seq.currentBand = some r.band then
    if s.idu.due then s.claimTurn else s.enterActive
  else
    let s := s.flushTurnKeys.askRetune r.band
    if s.idu.due then s.claimTurn else s

/-- The grant of a request to slot `w` (R30). -/
def State.grantRequest (w : SlotId) (r : RequestRec) (s : State) : State := (s.grantSteps w r).enterGranted r

/-- The grant of slot `w`, which is WAITING. -/
def State.grant (w : SlotId) (s : State) : State :=
  match (s.tenancy w).record with
  | some r => s.grantRequest w r
  | none => s

/-- Sets the arbiter state. -/
def State.setArbiter (a : Arbiter) (s : State) : State := { s with arb := { s.arb with arbiter := a } }

/-- Stops the gap timer. -/
def State.stopGap (s : State) : State := { s with arb := { s.arb with gap := none } }

/-- An arbitration point (R27): with the station READY the winner is granted; else the arbiter is FREE. -/
def State.arbitrate (s : State) : State :=
  match (if s.ready then s.winner else none) with
  | some w => s.grant w
  | none => s.setArbiter .free

/-! ### The turn end (R35, R36, R38) -/

/-- Whether a cause re-queues a STANDING turn (R36). -/
def requeues (c : TurnEndCause) : Bool :=
  match c with
  | .released | .singleOver | .idle | .turnLimit | .seized | .endedByControl => true
  | _ => false

/-- Whether a turn end starts the gap: every cause but SEIZED and DECOMMISSION (R28). -/
def startsGap (c : TurnEndCause) : Bool := decide (c ≠ .seized ∧ c ≠ .decommission)

/-- Step 1 of R35: a transmission of the turn that is in ARM_RELAY, ARM_AMP or EXCITING ends with TURN_END.
IDU's claim does not take the turn at this end (log 11). -/
def State.endTurnTx (s : State) : State :=
  if s.memberTx then
    if s.seq.state = .exciting then s.normalEnd .turnEnd
    else if s.arming then s.abandonArming .turnEnd
    else s
  else s

/-- What ends with the turn in SEQ: the PTT demand (R55), a queued retune (R66), and the transmission's and the
retune's being of the current turn (R56, R67). -/
def State.forgetTurn (s : State) : State :=
  { s with seq := { s.seq with
    pttDemand := false, queuedRetune := none, retuneCurrent := false
    tx := s.seq.tx.map fun x => { x with current := false } } }

/-- Where a cycle of the ended turn goes on: in an ID turn (R38), or nowhere (R160). -/
def State.moveCycle (toId : Bool) (s : State) : State :=
  let home : CycleHome := if toId then .idTurn else .nowhere
  let s := { s with idu := { s.idu with
    claim := .none, deadlineRuns := false
    context := s.idu.context.map fun c => if c.home = .memberTurn then { c with home := home } else c } }
  if toId = true ∧ s.idu.cycle = .idle then s.beginCycle .idTurn else s

/-- The request record of a re-queued holder (R36). -/
def Turn.requeued (t : Turn) : RequestRec := ⟨t.band, t.emission, t.power, .standing, .frame, false⟩

/-- Step 6 of R35 for the holder: WAITING again, or OPEN with its presence timer stopped. -/
def State.leaveHolding (t : Turn) (again : Bool) (s : State) : State :=
  if again then s.setTenancy t.holder (.waiting t.requeued)
  else (s.setTenancy t.holder .opened).stopPresence t.holder

/-- The arbiter and the gap after a turn end (R28, R38). -/
def State.afterTurn (toId gapStarts : Bool) (s : State) : State :=
  { s with arb := { s.arb with
    arbiter := if toId then .idTurn else if gapStarts then .gap else .free
    gap := if gapStarts then some (s.timer s.arb.turnGap) else none } }

/-- A turn end (R35). With no turn the request is ignored. CloseSlot makes the slot VACANT itself (R10). -/
def State.turnEnd (cause : TurnEndCause) (s : State) : State :=
  match s.turn with
  | none => s
  | some t =>
    let toId : Bool := decide (t.sub = .paused) && s.ready
    let again : Bool := decide (t.mode = .standing) && requeues cause
    let s := s.endTurnTx.forgetTurn.flushKeys
    let s := s.writeRecord (s.memberRecord t cause)
    let s := s.raise (.turnEnded t.holder cause again)
    let s := (s.afterTurn toId (startsGap cause)).moveCycle toId
    s.leaveHolding t again

/-! ### Identification ends (R29, R160, R161) -/

/-- The ID turn is over (R29). -/
def State.idTurnOver (s : State) : State :=
  if s.arb.arbiter ≠ .idTurn then s
  else if s.ready then
    if s.arb.gap = none then s.arbitrate
    else if (numbers 32).any fun w => s.eligible w && s.marked w then s.stopGap.arbitrate
    else s.setArbiter .gap
  else if s.arb.gap = none then s.setArbiter .free
  else s.setArbiter .gap

/-- The air time of the transmission in SEQ. -/
def State.txAirTime (s : State) : Nat := (s.seq.tx.map (·.airTime)).getD 0

/-- A cycle in STARTING or SENDING is abandoned (R161, steps 1 to 4). -/
def State.abandonCycle (s : State) : State :=
  match s.idu.context with
  | some c =>
    let s := s.writeRecord (s.idRecord c s.txAirTime .aborted)
    { s with idu := { s.idu with cycle := .idle, context := none, element := none, startWaits := false } }
  | none => s

/-- A cycle is in STARTING or SENDING. -/
def State.cycleRuns (s : State) : Bool := decide (s.idu.cycle = .starting ∨ s.idu.cycle = .sending)

/-- Where the cycle runs. -/
def State.cycleHome (s : State) : Option CycleHome := s.idu.context.map (·.home)

/-- PRT tells IDU that the station entered HELD, TRIPPED or KILLED: a running cycle is abandoned, and an ID turn
is reported over (R161). -/
def State.stationAbandons (s : State) : State :=
  if s.cycleRuns then
    if s.cycleHome = some .idTurn then s.abandonCycle.idTurnOver else s.abandonCycle
  else s

/-- SEQ reports AMP_DROP for the ID transmission: the cycle is abandoned and a fresh one begins at once in the same
turn (R161). -/
def State.dropAbandons (s : State) : State :=
  if s.cycleRuns then
    match s.cycleHome with
    | some h => s.abandonCycle.beginCycle h
    | none => s
  else s

/-- An identification completes: IDU enters CLOSING, clears owed and due, stops the interval and deadline timers
and raises ID_SENT (R160). -/
def State.completeId (s : State) : State :=
  match s.idu.context, s.seq.tx with
  | some c, some x =>
    let s := { s with idu := { s.idu with
      cycle := .closing, owed := false, due := false, dueTime := none, interval := none, deadlineRuns := false } }
    s.raise (.idSent c.callsign x.band x.path c.speed (sinceMs s.clock x.excitedAt)
      (if c.home = .memberTurn then s.holder else none))
  | _, _ => s

/-! ### Ends of transmissions (R37, R61, R62) and the cut (R69) -/

/-- The causes of a complete over (R37). -/
def completesOver (c : TxEndCause) : Bool :=
  match c with
  | .pttOff | .cwHang | .localRelease | .txLimit => true
  | _ => false

/-- The holder's class has SINGLE_OVER (R37). -/
def State.singleOver (s : State) : Bool :=
  match s.holder with
  | some w => (s.classOf w).singleOver
  | none => false

/-- ARB and IDU are told that the transmission left EXCITING (`left`) or abandoned its arming, with its cause
(R61, step 6; R62): a complete over of a SINGLE_OVER class ends the turn, else a waiting claim takes it; an ID
transmission that left with AMP_DROP is attempted afresh. -/
def State.tellExit (cause : TxEndCause) (left : Bool) (s : State) : State :=
  if s.memberTx then
    if left && completesOver cause && s.singleOver then s.turnEnd .singleOver
    else if s.idu.claim = .atTxEnd then s.claimPause
    else s
  else if s.identTx = true ∧ cause = .ampDrop then s.dropAbandons
  else s

/-- An end request for the transmission in SEQ: from EXCITING a normal end (R61), in ARM_RELAY or ARM_AMP an
abandoned arming (R62), otherwise ignored. -/
def State.endTx (cause : TxEndCause) (s : State) : State :=
  if s.seq.state = .exciting then (s.normalEnd cause).tellExit cause true
  else if s.arming then (s.abandonArming cause).tellExit cause false
  else s

/-- An end request for the holder's transmission; one for a transmission that has ended is ignored (R62). -/
def State.endMemberTx (cause : TxEndCause) (s : State) : State := if s.memberTx then s.endTx cause else s

/-- The end cause a cut writes: DECOMMISSION writes TURN_END (R69). -/
def cutEnd : CutCause → TxEndCause
  | .fault => .fault
  | .held => .held
  | .kill => .kill
  | .ampDrop => .ampDrop
  | .decommission => .turnEnd

/-- A cut with cause HELD or AMP_DROP flushes the timeline of a CW turn, in any sequencer state (R92). -/
def State.cutFlush (cause : CutCause) (s : State) : State :=
  match s.turn with
  | some t =>
    if t.emission = .cw ∧ (cause = .held ∨ cause = .ampDrop) then s.flushTurnKeys else s
  | none => s

/-- The cut (R69). -/
def State.cut (cause : CutCause) (s : State) : State :=
  let s := { s.clearPending with seq := { s.clearPending.seq with pttDemand := false } }
  let s := s.cutFlush cause
  match s.seq.state with
  | .quiet | .retune | .disarmAmp | .disarmRelay => s
  | .armRelay | .armAmp => (s.abandonArming (cutEnd cause)).tellExit (cutEnd cause) false
  | .exciting => ((s.leaveExciting (cutEnd cause) .disarmRelay).disarm).tellExit (cutEnd cause) true
  | .drain => s.disarm

/-! ### Member starts (R56) -/

/-- The draining transmission can return to EXCITING: it is of the current turn, the station is READY and, on the
AMPLIFIED path, the amplifier is ON (R56). -/
def State.canReturn (s : State) : Bool :=
  s.memberTx && s.ready && (!s.amplifiedTx || decide (s.amg.state = .on))

/-- The return from DRAIN to EXCITING as a new transmission (R56). -/
def State.returnToExciting (s : State) : State :=
  (s.modTurn fun t => { t with txCount := countUp max16 t.txCount }).enterExciting

/-- A member start by its sequencer state and the turn's sub-state (R53, R56), with the outcome PttOn carries
(R54). -/
def State.memberStart (s : State) : State × PttOutcome :=
  match s.turn with
  | none => (s, .already)
  | some t =>
    match s.seq.state with
    | .quiet => if t.sub = .active ∧ s.ready = true then (s.takeStart, .started) else (s.setPending, .pending)
    | .armRelay | .armAmp | .exciting => if s.memberTx then (s, .already) else (s.setPending, .pending)
    | .drain =>
      if t.sub = .active ∧ s.canReturn = true then (s.returnToExciting, .started) else (s.setPending, .pending)
    | .retune | .disarmAmp | .disarmRelay => (s.setPending, .pending)

/-- The holder's PTT demand becomes inactive (R55): its transmission ends or its arming is abandoned, and a set
pending-start flag is cleared. -/
def State.demandInactive (cause : TxEndCause) (s : State) : State := (s.endMemberTx cause).clearPending

/-! ### QUIET entry and the waits' ends (R58, R59, R63, R67) -/

/-- IDU ends a cycle in CLOSING at QUIET entry (R160): the record is written COMPLETE, and the turn becomes ACTIVE
or the ID turn is over. -/
def State.closeCycle (airTime : Nat) (s : State) : State :=
  match s.idu.cycle, s.idu.context with
  | .closing, some c =>
    let s := s.writeRecord (s.idRecord c airTime .complete)
    let s := { s with idu := { s.idu with cycle := .idle, context := none, claim := .none } }
    match c.home with
    | .memberTurn => s.enterActive
    | .idTurn => s.idTurnOver
    | .nowhere => s
  | _, _ => s

/-- The staged profile becomes active on entering QUIET (R52). -/
def State.swapProfile (s : State) : State :=
  if s.seq.changePending then { s with seq := { s.seq with active := s.seq.staged, changePending := false } } else s

/-- ARB is told that a transmission is over, which restarts the idle hang of an ACTIVE turn that has no pending start
(R63, step 1), whoever's transmission it was (DEDUCED, log 42). -/
def State.restartIdle (s : State) : State :=
  s.modTurn fun t => if t.sub = .active ∧ t.pendingStart = false then { t with idleStart := some s.clock } else t

/-- Entering QUIET (R63). During step 1 the sequencer is not yet QUIET, so a retune or an ID start that arises
there waits for steps 3 to 5. -/
def State.enterQuiet (s : State) : State :=
  let air := s.txAirTime
  let s := { s with seq := { s.seq with tx := none, step := none } }
  let s := (s.closeCycle air).swapProfile
  let s := { s with seq := { s.seq with state := .quiet } }.startAmpIdle
  match s.seq.queuedRetune with
  | some b => s.enterRetune b
  | none => if s.idu.startWaits = true ∧ s.ready = true then s.takeIdStart else s.takePending

/-- Entering ARM_AMP (R59): on the AMPLIFIED path with the amplifier ON, AMPKEY is asserted and the amp-on wait
starts; with the amplifier in another state a cut with cause AMP_DROP is applied; on the BAREFOOT path the wait
takes no time. -/
def State.enterArmAmp (s : State) : State :=
  let s := { s with seq := { s.seq with state := .armAmp } }
  if s.amplifiedTx then
    if s.amg.state = .on then { s with seq := { s.seq with ampkey := true } }.startStep s.seq.active.ampOn
    else s.cut .ampDrop
  else s.startStep 0

/-- The band settle ends (R67): SEQ enters QUIET, BAND_SET is raised with the band of the retune, whatever a SetBand has
made of the current band meanwhile (R96), and a turn that is still current moves from TUNING to ACTIVE. -/
def State.settleBand (s : State) : State :=
  let code := s.seq.bandCode.val
  let band := s.seq.retuneBand
  let current := s.seq.retuneCurrent
  let s := { s with seq := { s.seq with retuneBand := none, retuneCurrent := false } }.enterQuiet
  let s := match band with
    | some b => s.raise (.bandSet b code)
    | none => s
  if current then s.enterActive else s

/-- The wait of the current sequencer state ends (R58, R59, R63, R67). A transmission is over at QUIET when SEQ comes from
DISARM_RELAY; a band settle ends none. -/
def State.advance (s : State) : State :=
  match s.seq.state with
  | .retune => s.settleBand
  | .armRelay => s.enterArmAmp
  | .armAmp => s.enterExciting
  | .drain => s.enterDisarmAmp
  | .disarmAmp => s.enterDisarmRelay
  | .disarmRelay => s.restartIdle.enterQuiet
  | .quiet | .exciting => s

/-! ### What settles at once -/

/-- The conditions under which IDU may ask for an ID turn, besides the due flag or the quiet timer's expiry
(R156). -/
def State.idTurnOpen (s : State) : Bool :=
  decide (s.arb.arbiter = .free ∨ s.arb.arbiter = .gap) && s.ready && s.seq.currentBand.isSome &&
    decide (s.idu.cycle = .idle)

/-- ARB enters ID_TURN at IDU's request and IDU begins a cycle (R29, R156). -/
def State.enterIdTurn (s : State) : State := (s.setArbiter .idTurn).beginCycle .idTurn

/-- The gap timer expires (R28): in GAP an arbitration point, in ID_TURN the timer only stops. -/
def State.gapExpires (s : State) : State :=
  if s.arb.arbiter = .gap then s.stopGap.arbitrate else s.stopGap

/-- A timer of length 0. -/
def zeroLength (t : Option Timer) : Bool := (t.map fun t => decide (t.len = 0)).getD false

/-- The idle hang's conditions (R34). -/
def State.idleMayRun (s : State) (t : Turn) : Bool :=
  decide (t.sub = .active) && !s.memberTx && !t.pendingStart

/-- The idle hang starts when its three conditions become true and stops when one fails (R34). -/
def State.syncIdle (s : State) : State :=
  s.modTurn fun t => { t with idleStart := if s.idleMayRun t then some (t.idleStart.getD s.clock) else none }

/-- The quiet timer's conditions (R155). -/
def State.quietMayRun (s : State) : Bool :=
  s.idu.owed && !s.idu.due && decide (s.arb.arbiter = .free) && s.ready && s.seq.currentBand.isSome &&
    decide (s.idu.cycle = .idle)

/-- The quiet timer starts when its conditions become true together and stops when one fails (R155). -/
def State.syncQuiet (s : State) : State :=
  { s with idu := { s.idu with
    quiet := if s.quietMayRun then some (s.idu.quiet.getD (s.timer (s.idu.params.quietDelay * 1000))) else none } }

/-- What comes about at once, one thing at a time: IDU asks for an ID turn at the moment its conditions are true
together (R156), a gap of 0 ms expires (R28), a wait of 0 ms ends (R51). -/
def State.settleStep (s : State) : Option State :=
  if s.idu.due = true ∧ s.idTurnOpen = true then some s.enterIdTurn
  else if zeroLength s.arb.gap then some s.gapExpires
  else if zeroLength s.seq.step then some { s with seq := { s.seq with step := none } }.advance
  else none

/-- Settles what comes about at once, at most `n` things; the chains the spec describes are shorter than the fuel
`settle` gives (log 10). -/
def State.settleFor : Nat → State → State
  | 0, s => s
  | n + 1, s =>
    match s.settleStep with
    | some s' => s'.settleFor n
    | none => s

/-- The end of a step: everything that takes no time has come about, and the idle hang and the quiet timer run
exactly while their conditions hold (R34, R51, R155). -/
def State.settle (s : State) : State := (s.settleFor Config.settleFuel).syncIdle.syncQuiet

end Sys2Proof.Machine
end

