-- ==== Sys2Proof/Machine/Protect.lean ====
section
/-! DEFINITION. PRT: the test of presence, occurrences, the derivation of the station state with the effects of
each entry, and the amplifier's drop (R105, R134 to R146, R178). -/

namespace Sys2Proof.Machine

/-- The latched-trip kinds (R135). -/
def tripKind : FaultKind → Bool
  | .swrTrip | .paOvercurrent | .extFault => true
  | _ => false

/-- The hold kinds (R135). -/
def holdKind : FaultKind → Bool
  | .paOvertemp | .supplyWindow => true
  | _ => false

/-- Whether the condition of a fault kind is present now (R133, R135). -/
def State.present (s : State) : FaultKind → Bool
  | .swrTrip => decide (s.seq.state = .exciting)
  | .paOvercurrent => decide (s.msr.limits.current < s.msr.scan.pai.val)
  | .extFault => s.functionActive .extFault
  | .paOvertemp => s.msr.overtemp
  | .supplyWindow => s.msr.supply
  | .stuckKey => false
  | .ampNoReady | .ampDrop => decide (s.amg.state = .failed)

/-- The station state as derived from the kill latch, the commissioned item, the fault list and the two hold
conditions (R142). -/
def State.derived (s : State) : StationState :=
  if s.prt.killLatch = true then .killed
  else if s.prt.commissioned = false then .uncommissioned
  else if (s.prt.faults.any fun r => tripKind r.kind) = true then .tripped
  else if (s.msr.overtemp || s.msr.supply) = true then .held
  else .ready

/-! ### The entries (R143 to R146) -/

/-- A WAITING request is dropped: the slot becomes OPEN and REQUEST_DROPPED is raised (R17, R22). -/
def State.dropRequest (cause : DropCause) (w : SlotId) (s : State) : State :=
  match s.tenancy w with
  | .waiting _ => ((s.setTenancy w .opened).stopPresence w).raise (.requestDropped w cause none)
  | _ => s

/-- The kill flush, in increasing slot number (R44). -/
def State.killFlush (s : State) : State := (numbers 32).foldl (fun s w => s.dropRequest .kill w) s

/-- On entering KILLED (R143). -/
def State.enterKilled (s : State) : State := (((s.cut .kill).stationAbandons).turnEnd .kill).killFlush

/-- On entering TRIPPED (R144). -/
def State.enterTripped (s : State) : State := ((s.cut .fault).stationAbandons).turnEnd .fault

/-- On entering HELD (R145). -/
def State.enterHeld (s : State) : State := (s.cut .held).stationAbandons

/-- A PAUSED turn whose claim waits for READY begins its cycle (R157, R161). -/
def State.resumeClaim (s : State) : State :=
  match s.turn with
  | some t =>
    if t.sub = .paused ∧ s.idu.claim = .holdingPause ∧ s.idu.cycle = .idle then s.beginCycle .memberTurn else s
  | none => s

/-- On entering READY: an arbitration point while FREE, then IDU is told (R146; the order is log 11). -/
def State.enterReady (s : State) : State :=
  (if s.arb.arbiter = .free then s.arbitrate else s).resumeClaim

/-- The effects of entering a station state (R143 to R146). -/
def State.enterStation (s : State) : StationState → State
  | .killed => s.enterKilled
  | .uncommissioned => s
  | .tripped => s.enterTripped
  | .held => s.enterHeld
  | .ready => s.enterReady

/-- PRT derives the station state; a different one is written, STATION_CHANGED is raised and the entry's effects
follow (R142). -/
def State.derive (cause : StationCause) (fault : Option FaultKind) (s : State) : State :=
  if s.derived = s.prt.station then s
  else
    (State.raise (.stationChanged s.prt.station s.derived cause fault)
      { s with prt := { s.prt with station := s.derived } }).enterStation s.derived

/-! ### Occurrences (R136, R137) -/

/-- A record after a further occurrence of its kind (R136, step 2). -/
def FaultRec.again (code : Option Code) (now : Clock) (r : FaultRec) : FaultRec :=
  { r with last := now, count := countUp max16 r.count, code := code, present := decide (r.kind ≠ .stuckKey) }

/-- The record of a kind. -/
def State.faultOf? (s : State) (k : FaultKind) : Option FaultRec := s.prt.faults.find? fun r => decide (r.kind = k)

/-- The fault list after an occurrence (R136, steps 1 and 2). -/
def State.listAfter (s : State) (k : FaultKind) (slot : Option SlotId) (code : Option Code) : List FaultRec :=
  match s.faultOf? k with
  | some _ => s.prt.faults.map fun r => if r.kind = k then r.again code s.seconds else r
  | none =>
    s.prt.faults ++ [⟨k, s.seconds, s.seconds, 1, slot, s.seq.currentBand, code, decide (k ≠ .stuckKey)⟩]

/-- The occurrence count after an occurrence. -/
def State.countAfter (s : State) (k : FaultKind) : Nat :=
  match s.faultOf? k with
  | some r => countUp max16 r.count
  | none => 1

/-- PRT takes an occurrence (R136): the record, FAULT_RAISED, and the derivation. -/
def State.occur (k : FaultKind) (slot : Option SlotId) (code : Option Code) (s : State) : State :=
  (State.raise (.faultRaised k (s.countAfter k) slot s.seq.currentBand code (s.faultOf? k).isNone)
    { s with prt := { s.prt with faults := s.listAfter k slot code } }).derive
    (if holdKind k then .hold else .trip) (some k)

/-- AMP_READY is lost while the amplifier is ON (R105): AMP_CHANGED, then the cut of an AMPLIFIED transmission,
which ARM_RELAY lets go on (R70), then the fault. -/
def State.ampDrop (s : State) : State :=
  let s := s.ampTo .failed .drop
  let s := if s.amplifiedTx = true ∧ s.seq.state ≠ .armRelay then s.cut .ampDrop else s
  s.occur .ampDrop s.holder none

/-- KILL becomes asserted: the latch is set and, if it was clear, the station state is derived (R140). -/
def State.killAsserted (s : State) : State :=
  if s.prt.killLatch then s
  else State.derive .killInput none { s with prt := { s.prt with killLatch := true } }

/-- The holder's budget has run out (R15, R166): a transmission in EXCITING ends with ALLOWANCE, the turn ends with
ALLOWANCE, then ALLOWANCE_EXHAUSTED is raised. -/
def State.exhaustionEffects (w : SlotId) (s : State) : State :=
  let s :=
    if s.holdsTurn w then
      (if s.memberExciting then s.endMemberTx .allowance else s).turnEnd .allowance
    else s
  s.raise (.allowanceExhausted w ((s.identity w).allowance.getD 0) (s.acu.used.read w) (s.tenancy w).shown)

end Sys2Proof.Machine
end

