-- ==== Sys2Proof/Machine/AirTime.lean ====
section
/-! DEFINITION. Air time (R165, R166): each tenth of a second of EXCITING is counted at the millisecond at which it is
complete, before anything else that comes at that millisecond (R172). -/

namespace Sys2Proof.Machine

/-- The instant of the next tenth of the transmission in EXCITING (R165). -/
def State.tenthDue (s : State) : Option Clock :=
  match s.seq.tx with
  | some x =>
    if s.seq.state = .exciting then some (x.excitedAt + BitVec.ofNat 32 (100 * (x.airTime + 1))) else none
  | none => none

/-- How many tenths of the transmission in EXCITING are complete and not counted yet. -/
def State.tenthsDue (s : State) : Nat :=
  match s.seq.tx with
  | some x => if s.seq.state = .exciting then sinceMs s.clock x.excitedAt / 100 - x.airTime else 0
  | none => 0

/-- Of `k` complete tenths, those that a slot whose budget has not run out can still use: the exhausting one is the
last, for it ends the transmission (R166). -/
def State.usable (s : State) (w : SlotId) (k : Nat) : Nat :=
  match (s.identity w).allowance with
  | some a => if s.exhausted w then k else min k (10 * a - s.acu.used.read w)
  | none => k

/-- `k` tenths are added to the air time of the transmission in SEQ. -/
def State.addAir (k : Nat) (s : State) : State := s.modTx fun x => { x with airTime := x.airTime + k }

/-- `k` tenths of a MEMBER transmission: the transmission, the turn and the holder's slot gain them together (R165), and
the exhausting tenth ends the transmission and the turn (R166). -/
def State.memberTenths (w : SlotId) (k : Nat) (s : State) : State :=
  let n := s.usable w k
  let before := s.exhausted w
  let s := (s.addAir n).modTurn fun t => { t with airTime := t.airTime + n }
  let s := { s with acu := { s.acu with used := s.acu.used.write w (min max32 (s.acu.used.read w + n)) } }
  if !before && s.exhausted w then s.exhaustionEffects w else s

/-- `k` further tenths of EXCITING; those of an ID transmission are its own alone (R165). -/
def State.airTenths (k : Nat) (s : State) : State :=
  match s.turn with
  | some t => if s.memberTx then s.memberTenths t.holder k else s.addAir k
  | none => s.addAir k

/-- The tenths that are complete have been counted, with what follows from them. -/
def State.onTime (s : State) : State := if s.tenthsDue = 0 then s else (s.airTenths s.tenthsDue).settle

end Sys2Proof.Machine
end

