-- ==== Sys2Proof/Machine/Inputs.lean ====
section
/-! DEFINITION. What the wired functions do (R45, R46, R55, R91, R104, R105, R173 to R178). -/

namespace Sys2Proof.Machine

/-! ### Slot 0's wired requests (R45, R46) -/

/-- A wired request with slot 0's local defaults (R45). -/
def State.wiredRequest (origin : Origin) (s : State) : State :=
  let b := s.arb.defaultBand
  let e := s.arb.defaultEmission
  if s.permit 0 b e = false then s.raise (.requestDropped 0 .localRefused (some .notPermitted))
  else if s.exhausted 0 then s.raise (.requestDropped 0 .localRefused (some .noAllowance))
  else
    let s := s.setTenancy 0 (.waiting ⟨b, e, s.arb.defaultPower, .once, origin, false⟩)
    if s.arb.arbiter = .free then s.arbitrate else s

/-- A wired request acts while slot 0 is OPEN (R45). -/
def State.wiredActive (origin : Origin) (s : State) : State :=
  match s.tenancy 0 with
  | .opened => s.wiredRequest origin
  | _ => s

/-- The function of the request's origin becomes inactive while slot 0 is WAITING (R46). -/
def State.wiredInactive (origin : Origin) (s : State) : State :=
  match s.tenancy 0 with
  | .waiting r => if r.origin = origin then (s.setTenancy 0 .opened).raise (.spuriousLocal origin) else s
  | _ => s

/-! ### LOCAL_PTT and LOCAL_KEY of the holder (R55, R91) -/

/-- Slot 0 holds a turn of emission PHONE or DATA. -/
def State.localPhone (s : State) : Bool :=
  match s.turn with
  | some t => decide (t.holder = 0) && decide (t.emission ≠ .cw)
  | none => false

/-- Slot 0 holds a CW turn (R91). -/
def State.localCw (s : State) : Bool :=
  match s.turn with
  | some t => decide (t.holder = 0) && decide (t.emission = .cw)
  | none => false

/-- LOCAL_PTT becomes active: a request, or a start that is ignored while the station is not READY (R45, R55). -/
def State.pttPressed (s : State) : State :=
  if s.localPhone then (if s.ready then s.memberStart.1 else s) else s.wiredActive .localPtt

/-- LOCAL_PTT becomes inactive: the demand becomes inactive unless the flag is set (R46, R55). -/
def State.pttReleased (s : State) : State :=
  if s.localPhone then (if s.seq.pttDemand then s else s.demandInactive .localRelease) else s.wiredInactive .localPtt

/-- LOCAL_KEY becomes active (R91). -/
def State.keyPressed (s : State) : State :=
  if s.localCw = true ∧ s.ktl.suppression = false then
    (if s.ready then s.syncKey.memberStart.1 else s.syncKey)
  else s

/-- LOCAL_KEY becomes inactive (R91). A set suppression is cleared, whoever holds (log 13). -/
def State.keyReleased (s : State) : State :=
  if s.ktl.suppression then { s with ktl := { s.ktl with suppression := false } }
  else if s.localCw then (if s.keyAtRest then s.keyUpAtRest else s.syncKey)
  else s

/-! ### Delivery (R174, R176) -/

/-- A function's state, with whether an input is routed to it. -/
structure Reading where
  active : Bool
  routed : Bool
  deriving DecidableEq, Repr

/-- The reading of a function. -/
def State.reading (s : State) (f : InputFunction) : Reading := ⟨s.functionActive f, s.isRouted f⟩

/-- AMP_READY's changes (R104, R105, R178): an activation in WARMING, a drop in ON with an input routed that reads
inactive. -/
def State.ampReadyChange (before after : Reading) (s : State) : State :=
  match s.amg.state with
  | .warming => if after.active = true ∧ before.active = false then s.ampTo .on .ready else s
  | .on =>
    if after.routed = true ∧ after.active = false ∧ (before.active = true ∨ before.routed = false) then s.ampDrop
    else s
  | _ => s

/-- EXT_FAULT's changes (R178). -/
def State.extFaultChange (now : Bool) (s : State) : State :=
  if now then s.occur .extFault s.holder none else s.conditionGone .extFault

/-- INR delivers a function whose reading was `before` to the blocks that own its consequences (R176). -/
def State.deliver (f : InputFunction) (before : Reading) (s : State) : State :=
  let after := s.reading f
  match f with
  | .none => s
  | .ampReady => s.ampReadyChange before after
  | .localPtt =>
    if after.active = before.active then s else if after.active then s.pttPressed else s.pttReleased
  | .localKey =>
    if after.active = before.active then s else if after.active then s.keyPressed else s.keyReleased
  | .localRequest =>
    if after.active = before.active then s
    else if after.active then s.wiredActive .localRequestLevel
    else s.wiredInactive .localRequestLevel
  | .extFault => if after.active = before.active then s else s.extFaultChange after.active

/-- Writes input `i`. -/
def State.setInputOf (i : InputId) (x : Input) (s : State) : State :=
  { s with inr := { s.inr with inputs := s.inr.inputs.write i x } }

/-- An EDGE input of LOCAL_REQUEST that becomes active gives an edge (R45, R176). -/
def State.edge (x : Input) (s : State) : State :=
  if x.function = .localRequest ∧ x.trigger = .edge ∧ x.active = true then s.wiredActive .localRequestEdge else s

/-- Input `i`'s debounced level takes its raw level, and its function is worked out (R175, R176). -/
def State.debounced (i : InputId) (s : State) : State :=
  let x := s.inr.inputs.read i
  let y := { x with debounced := x.raw, since := none }
  ((s.setInputOf i y).edge y).deliver x.function (s.reading x.function)

/-- Input `i`'s stability measure has reached its debounce (R175). -/
def State.stable (s : State) (i : InputId) : Bool :=
  match (s.inr.inputs.read i).since with
  | some t => decide ((s.inr.inputs.read i).debounce ≤ sinceMs s.clock t)
  | none => false

/-- The raw level of input `i` becomes `high` (R175). A return to the debounced level sets the measure back to 0, also when
the measure has reached the debounce and DEBOUNCE_EXPIRY has not been commanded: the overdue change is not made (DESIGN
CHOICE, log 51). -/
def State.inputLevel (i : InputId) (high : Bool) (s : State) : State :=
  let x := s.inr.inputs.read i
  let s := s.setInputOf i { x with
    raw := high, since := if high = x.debounced then none else some (x.since.getD s.clock) }
  if s.stable i then s.debounced i else s

/-- KILL's raw level becomes asserted or deasserted (R179); a return to the debounced level cancels an overdue change, as
for an input (DESIGN CHOICE, log 51). -/
def State.killLevel (asserted : Bool) (s : State) : State :=
  let k := s.inr.kill
  { s with inr := { s.inr with kill := { k with
    raw := asserted, since := if asserted = k.debounced then none else some (k.since.getD s.clock) } } }

/-- KILL's debounced level takes its raw level; an assertion reaches PRT (R140, R179). -/
def State.killDebounced (s : State) : State :=
  let k := s.inr.kill
  let s := { s with inr := { s.inr with kill := { k with debounced := k.raw, since := none } } }
  if k.raw = true ∧ k.debounced = false then s.killAsserted else s

/-- A routing entry is stored and the functions it changes are delivered, the old one first; then a measure that is
already at or past the new debounce changes the level (R174; that the deliveries, with the old debounced level, come
before that change is the model's choice, log 36). -/
def State.route (i : InputId) (y : Input) (s : State) : State :=
  let x := s.inr.inputs.read i
  let old := s.reading x.function
  let new := s.reading y.function
  let s := (s.setInputOf i y).deliver x.function old
  let s := if y.function = x.function then s else s.deliver y.function new
  if s.stable i then s.debounced i else s

end Sys2Proof.Machine
end

