-- ==== Sys2Proof/Machine/Operands.lean ====
section
/-! DEFINITION. Reading a request's operands: actors, indices, enumeration codes (R192, counted from 0 in
the order listed), sets and callsigns. An index or a code outside its set reads as none, which the part
answers BAD_ARGUMENT (00, Values and frames). -/

namespace Sys2Proof.Machine

/-! ### Actors (R181, R183, R184) -/

/-- The party a request frame claims to act for. -/
inductive Actor where
  | slot (w : SlotId)
  | station
  deriving DecidableEq, Repr

/-- Which actors the catalogue allows for a kind (R184). -/
inductive Allowed where
  | stationOnly | anyActor | controlSlot | ownSlot
  deriving DecidableEq, Repr

/-- The index below `n` that a number names. -/
def indexOf (n : Nat) (x : Nat) : Option (Fin n) := if h : x < n then some ⟨x, h⟩ else none

/-- The actor a byte names: 0x00 to 0x1F a slot, 0xFF STATION (R181). -/
def actorOf (b : Nat) : Option Actor :=
  match indexOf 32 b with
  | some w => some (.slot w)
  | none => if b = 0xFF then some .station else none

/-- Whether the actor may send a kind: the catalogue allows it and, for a slot, the slot is not VACANT (R183,
step 3). -/
def State.permitsActor (s : State) (who : Allowed) : Actor → Bool
  | .station =>
    match who with
    | .stationOnly | .anyActor | .controlSlot => true
    | .ownSlot => false
  | .slot w =>
    !s.vacant w &&
      match who with
      | .stationOnly => false
      | .anyActor | .ownSlot => true
      | .controlSlot => (s.classOf w).control

/-! ### Enumeration codes (R192) -/

/-- Emissions: CW, PHONE, DATA. -/
def emissionOf : Nat → Option Emission
  | 0 => some .cw
  | 1 => some .phone
  | 2 => some .data
  | _ => none

/-- Paths: BAREFOOT, AMPLIFIED. -/
def pathOf : Nat → Option Path
  | 0 => some .barefoot
  | 1 => some .amplified
  | _ => none

/-- Request modes: ONCE, STANDING. -/
def modeOf : Nat → Option Mode
  | 0 => some .once
  | 1 => some .standing
  | _ => none

/-- Two-valued codes: NO, YES; DISABLED, ENABLED; ABSENT, PRESENT. -/
def flagOf : Nat → Option Bool
  | 0 => some false
  | 1 => some true
  | _ => none

/-- Line polarities: HIGH, LOW. -/
def linePolarityOf : Nat → Option LinePolarity
  | 0 => some .high
  | 1 => some .low
  | _ => none

/-- Input functions. -/
def functionOf : Nat → Option InputFunction
  | 0 => some .none
  | 1 => some .localPtt
  | 2 => some .localKey
  | 3 => some .localRequest
  | 4 => some .ampReady
  | 5 => some .extFault
  | _ => none

/-- Triggers: EDGE, LEVEL. -/
def triggerOf : Nat → Option Trigger
  | 0 => some .edge
  | 1 => some .level
  | _ => none

/-- Input polarities: ACTIVE_HIGH, ACTIVE_LOW. -/
def inputPolarityOf : Nat → Option InputPolarity
  | 0 => some .activeHigh
  | 1 => some .activeLow
  | _ => none

/-- Key directions: 0x00 UP, 0x01 DOWN. -/
def keyOf : Nat → Option Key
  | 0 => some .up
  | 1 => some .down
  | _ => none

/-- Fault kinds. -/
def faultOf : Nat → Option FaultKind
  | 0 => some .swrTrip
  | 1 => some .paOvercurrent
  | 2 => some .extFault
  | 3 => some .paOvertemp
  | 4 => some .supplyWindow
  | 5 => some .stuckKey
  | 6 => some .ampNoReady
  | 7 => some .ampDrop
  | _ => none

/-! ### Callsigns and sets -/

/-- The characters of a callsign: A to Z, 0 to 9 and '/' (R4, R5). -/
def callsignChar (c : Char) : Bool :=
  decide ('A' ≤ c ∧ c ≤ 'Z') || decide ('0' ≤ c ∧ c ≤ '9') || decide (c = '/')

/-- A callsign payload: length 0 makes the callsign absent; a length above 10 or another character is invalid
(R5, R152). The outer none is the invalid one. -/
def callsignOf (c : List Char) : Option (Option (List Char)) :=
  if c.length ≤ 10 ∧ c.all callsignChar = true then some (if c = [] then none else some c) else none

/-- A set of indices below `n`, each at most once (R3, R169; of the emissions and capabilities of SetClass the model's
choice, log 32). -/
def validSet (n : Nat) (l : List Nat) : Bool := l.all (fun x => decide (x < n)) && decide l.Nodup

/-- Whether clamping `x` to the range moved it, which makes the status OK_CLAMPED. -/
def outside (lo hi x : Nat) : Bool := decide (clamp lo hi x ≠ x)

/-- OK, or OK_CLAMPED if any setting was clamped. -/
def okStatus (clamped : Bool) : Status := if clamped then .okClamped else .ok

/-- Limits of watts (00, Power and codes). -/
def clampWatts (p : Nat) : Nat := clamp 1 4000 p

end Sys2Proof.Machine
end

