-- ==== Sys2Proof/WellFormed.lean ====
section
/-! DEFINITION. When a command's operands fit the frame fields that carry them (R181, R183, R193): one-,
two- and four-byte fields, and counts that fit LENGTH's 3 to 250. Operands outside a setting's range, and
codes outside their set, are well formed: the part itself answers them. -/

namespace Sys2Proof

/-- A one-byte field (R193). -/
def fitsByte (n : Nat) : Bool := decide (n < 256)

/-- A two-byte field (R193). -/
def fitsHalf (n : Nat) : Bool := decide (n < 65536)

/-- A four-byte field (R193). -/
def fitsWord (n : Nat) : Bool := decide (n < 4294967296)

/-- A payload of `n` bytes fits a request frame, whose LENGTH is at most 250 (R181). -/
def fitsPayload (n : Nat) : Bool := decide (n + 3 ≤ 250)

/-- A callsign is carried one byte a character after a one-byte length (R193). -/
def fitsCallsign (c : List Char) : Bool := c.all fun ch => fitsByte ch.toNat

/-- A set is a one-byte count and that many one-byte codes (R193). -/
def fitsSet (l : List Nat) : Bool := l.all fitsByte

/-- The payload's fields fit. -/
def StationArgs.wf (a : StationArgs) : Bool :=
  [a.turnGap, a.presenceTimeout, a.defaultPower, a.playoutDelay, a.lateAllowance, a.cwHang, a.burstGap,
    a.stuckLimit, a.barefootCeiling, a.warmUpTime, a.idInterval, a.idGrace, a.quietDelay, a.idPower].all fitsHalf
  && [a.defaultBand, a.defaultEmission, a.polTrr, a.polAmpkey, a.polExc, a.polKey, a.polIdm, a.polAmppwr,
    a.autoAmp, a.ampIdleTime, a.idSpeed].all fitsByte
  && fitsCallsign a.callsign && fitsPayload (40 + a.callsign.length)

/-- The payload's fields fit. -/
def ClassArgs.wf (a : ClassArgs) : Bool :=
  [a.classIx, a.priority, a.turnLimit].all fitsByte && [a.idleHang, a.txLimit].all fitsHalf
  && fitsSet a.bands && fitsSet a.emissions && fitsSet a.capabilities && a.ceilings.toList.all fitsHalf
  && fitsPayload (34 + a.bands.length + a.emissions.length + a.capabilities.length)

/-- The payload's fields fit. -/
def BandArgs.wf (a : BandArgs) : Bool :=
  [a.band, a.enabled, a.relayCode].all fitsByte && [a.stationCeiling, a.dutyCeiling, a.fullScale].all fitsHalf

/-- The payload's fields fit. -/
def CalArgs.wf (a : CalArgs) : Bool :=
  [a.band, a.path].all fitsByte && a.points.all (fun p => fitsHalf p.1 && fitsByte p.2)
  && fitsPayload (3 + 3 * a.points.length)

/-- The payload's fields fit: all six delays are two-byte fields (R193). -/
def ProfileArgs.wf (a : ProfileArgs) : Bool :=
  [a.relayOn, a.ampOn, a.tail, a.ampOff, a.relayOff, a.bandSettle].all fitsHalf

/-- The payload's fields fit. -/
def InputArgs.wf (a : InputArgs) : Bool :=
  [a.input, a.function, a.trigger, a.polarity].all fitsByte && fitsHalf a.debounce

/-- The payload's fields fit: the recovery step and N are one byte each (R193). -/
def LimitsArgs.wf (a : LimitsArgs) : Bool :=
  [a.step, a.scans].all fitsByte
  && [a.rStart, a.rTrip, a.fMin, a.floor, a.current, a.temperature, a.hysteresis, a.supplyLow, a.supplyHigh].all
    fitsHalf

/-- The payload's fields fit. -/
def OpenArgs.wf (a : OpenArgs) : Bool :=
  [a.slot, a.classIx, a.allowancePresent].all fitsByte && fitsWord a.allowance && fitsCallsign a.callsign
  && fitsPayload (8 + a.callsign.length)

/-- A completed frame has LENGTH 3 to 250 (R181). -/
def RawFrame.wf (f : RawFrame) : Bool := fitsPayload f.payload.length

/-- The kinds of the catalogue of R184. -/
def catalogueKind (k : Nat) : Bool :=
  decide ((0x01 ≤ k ∧ k ≤ 0x15) ∨ (0x20 ≤ k ∧ k ≤ 0x28) ∨ (0x30 ≤ k ∧ k ≤ 0x36))

/-- The operands fit the fields that carry them. -/
def Instr.wf : Instr → Bool
  | .restart t a | .decommission t a | .commission t a | .queryStation t a | .queryMeasure t a
  | .queryFaults t a | .queryCounters t a | .queryEvents t a | .queryProfile t a | .queryInputs t a
  | .resume t a | .withdraw t a | .release t a | .presence t a | .pttOn t a | .pttOff t a
  | .ampOn t a | .ampOff t a | .ampReset t a | .setEvents t a _ _ | .clearEvents t a _ => fitsByte t && fitsByte a
  | .setStation t a p => fitsByte t && fitsByte a && p.wf
  | .setClass t a p => fitsByte t && fitsByte a && p.wf
  | .setBand t a p => fitsByte t && fitsByte a && p.wf
  | .setCalibration t a p => fitsByte t && fitsByte a && p.wf
  | .stageProfile t a p => fitsByte t && fitsByte a && p.wf
  | .setInput t a p => fitsByte t && fitsByte a && p.wf
  | .setLimits t a p => fitsByte t && fitsByte a && p.wf
  | .clearCounters t a l => fitsByte t && fitsByte a && fitsSet l && fitsPayload (1 + l.length)
  | .querySlot t a x | .queryClass t a x | .queryBand t a x | .queryQueue t a x | .clearFault t a x
  | .closeSlot t a x | .clearAirtime t a x | .endTurn t a x | .holdSlot t a x | .unholdSlot t a x =>
    fitsByte t && fitsByte a && fitsByte x
  | .queryCal t a x y | .reclass t a x y | .retune t a x y => fitsByte t && fitsByte a && fitsByte x && fitsByte y
  | .queryRecords t a x => fitsByte t && fitsByte a && fitsWord x
  | .openSlot t a p => fitsByte t && fitsByte a && p.wf
  | .setAllowance t a s p w => fitsByte t && fitsByte a && fitsByte s && fitsByte p && fitsWord w
  | .request t a b e p m =>
    fitsByte t && fitsByte a && fitsByte b && fitsByte e && fitsHalf p && fitsByte m
  | .keyEvents t a l => fitsByte t && fitsByte a && l.all (fun e => fitsByte e.1) && fitsPayload (1 + 3 * l.length)
  | .setPower t a p => fitsByte t && fitsByte a && fitsHalf p
  | .seize t a s b e p => fitsByte t && fitsByte a && fitsByte s && fitsByte b && fitsByte e && fitsHalf p
  | .unknownKindRequest k t a => fitsByte k && !catalogueKind k && fitsByte t && fitsByte a
  | .frameReceived f => f.wf
  | .interByteGap | .replySent | .reportSent | .rstAsserted | .rstDeasserted | .stationSecondTick
  | .presenceExpiry _ | .gapExpiry | .turnLimitExpiry | .idleHangExpiry | .relayOnExpiry | .ampOnExpiry
  | .tailExpiry | .ampOffExpiry | .relayOffExpiry | .bandSettleExpiry | .txLimitExpiry | .playout
  | .hangExpiry | .burstGapExpiry | .stuckKeyExpiry | .warmUpExpiry | .ampIdleExpiry | .scanCompletion ..
  | .intervalExpiry | .deadlineExpiry | .quietExpiry | .idElementTimer | .airTimeTenth | .residencyTenth _
  | .inputLevelChange _ | .debounceExpiry _ | .killDebounceExpiry | .byteReceived .. => true

end Sys2Proof
end

