-- ==== Sys2Proof/Machine/Link.lean ====
section
/-! DEFINITION. Taking a request and making its reply ready (R22, R183 to R185, R189, R190), and the receiver
(R182). -/

namespace Sys2Proof.Machine

/-! ### Replies -/

/-- What the owning block answers: the state after its effects, the status and the fields. -/
structure Handled where
  state : State
  status : Status
  body : Body

/-- Answered OK with an empty payload. -/
def done (s : State) : Handled := ⟨s, .ok, .empty⟩

/-- Refused: nothing changes and the payload is empty (R185). -/
def refuse (x : Status) (s : State) : Handled := ⟨s, x, .empty⟩

/-- The KIND byte of a reply (R181). -/
def replyKind (kind : Nat) (x : Status) : Nat := if x = .unknownKind then 0xFF else kind + 0x80

/-- A reply becomes ready behind the reports queued so far (R189). -/
def State.answer (kind tag : Nat) (x : Status) (body : Body) (s : State) : State :=
  { s with lnk := { s.lnk with reply := some ⟨replyKind kind x, tag, x, body, s.lnk.reports.length⟩ } }

/-- The last byte of the owed reply has been sent, and so have the reports queued ahead of it (R189). -/
def Lnk.replyOut (l : Lnk) : Lnk :=
  match l.reply with
  | some r => { l with reports := l.reports.drop r.ahead, reply := none }
  | none => l

/-- LNK takes nothing: RST is asserted, or a Restart has been taken (R150, R190). -/
def State.closed (s : State) : Bool := s.rst || s.lnk.restarting

/-- LNK is ready to take a request: a reply still owed for an earlier one has been sent (R183, log 4). -/
def State.readyToTake (s : State) : State := { s with lnk := s.lnk.replyOut }

/-- A slot actor's presence timer is restarted by a frame that passes R183's checks (R22). -/
def Actor.presence (a : Actor) (s : State) : State :=
  match a with
  | .slot w => s.restartPresence w
  | .station => s

/-- The reply to what the owning block answered. -/
def Handled.reply (kind tag : Nat) (h : Handled) : State := h.state.answer kind tag h.status h.body

/-- LNK takes a request of a kind of the catalogue: the tenths of air time that are complete have been counted (R165),
the actor is checked, its presence timer is restarted, the owning block handles it, and the reply is ready (R183). -/
def State.takeRequest (kind tag actor : Nat) (who : Allowed) (h : Actor → State → Handled) (s : State) : State :=
  if s.closed then s
  else
    let s := s.onTime.readyToTake
    match actorOf actor with
    | none => s.answer kind tag .badActor .empty
    | some a =>
      if s.permitsActor who a then (h a (a.presence s)).reply kind tag
      else s.answer kind tag .badActor .empty

/-- A member kind: the handler is given the slot that acts for itself (R184). -/
def State.takeOwn (kind tag actor : Nat) (h : SlotId → State → Handled) (s : State) : State :=
  s.takeRequest kind tag actor .ownSlot fun a s =>
    match a with
    | .slot w => h w s
    | .station => refuse .badActor s

/-- A kind of STATION alone, whose handler needs no actor. -/
def State.takeStation (kind tag actor : Nat) (h : State → Handled) (s : State) : State :=
  s.takeRequest kind tag actor .stationOnly fun _ s => h s

/-- A control operation, whose handler needs no actor (R184). -/
def State.takeControl (kind tag actor : Nat) (h : State → Handled) (s : State) : State :=
  s.takeRequest kind tag actor .controlSlot fun _ s => h s

/-- A Query (R187). -/
def State.takeQuery (tag actor : Nat) (h : State → Handled) (s : State) : State :=
  s.takeRequest 0x0E tag actor .anyActor fun _ s => h s

/-- A frame refused before its block sees it, without a check of its actor (R183, steps 1 and 2). -/
def State.turnAway (kind tag : Nat) (x : Status) (s : State) : State :=
  if s.closed then s else s.readyToTake.answer kind tag x .empty

/-! ### The full reset (R150, R190) -/

/-- The reset completes: every block takes its full-reset values, with the contacts and KILL read as they stand. -/
def State.fullReset (s : State) : State :=
  State.afterReset (fun i => (s.inr.inputs.read i).raw) s.inr.kill.raw s.pending

/-! ### The receiver (R182) -/

/-- The error count of a reason. -/
def LinkErrors.count (e : LinkErrors) : LinkReason → Nat
  | .length => e.length
  | .framing => e.framing
  | .gap => e.gap
  | .check => e.check
  | .overflow => e.overflow

/-- One more error of a reason; the count stops at 65,535. -/
def LinkErrors.bump (e : LinkErrors) : LinkReason → LinkErrors
  | .length => { e with length := countUp max16 e.length }
  | .framing => { e with framing := countUp max16 e.framing }
  | .gap => { e with gap := countUp max16 e.gap }
  | .check => { e with check := countUp max16 e.check }
  | .overflow => { e with overflow := countUp max16 e.overflow }

/-- A frame is abandoned with a reason: the receiver hunts, the reason is counted and LINK_ERROR is raised. -/
def State.abandonFrame (r : LinkReason) (s : State) : State :=
  let e := s.lnk.errors.bump r
  State.raise (.linkError r (e.count r)) { s with lnk := { s.lnk with receiver := .hunting, errors := e } }

/-- The sum of some bytes modulo 256. -/
def byteSum (l : List Byte) : Byte := l.foldl (· + ·) 0

/-- LENGTH of a completed frame: the bytes from KIND to the end of PAYLOAD (R181). -/
def frameLength (f : RawFrame) : Nat := 3 + f.payload.length

/-- The sum of every byte from LENGTH to CHECK (R181). -/
def frameSum (f : RawFrame) : Byte :=
  byteSum (BitVec.ofNat 8 (frameLength f) :: f.kind :: f.tag :: f.actor :: f.check :: f.payload)

/-- A frame completes: it is checked, and joins the receive buffer or is abandoned. -/
def State.completeFrame (f : RawFrame) (s : State) : State :=
  if frameSum f ≠ 0 then s.abandonFrame .check
  else if Config.rxCapacity ≤ s.lnk.buffer.length then s.abandonFrame .overflow
  else { s with lnk := { s.lnk with receiver := .hunting, buffer := s.lnk.buffer ++ [f] } }

/-- SYNC (R181). -/
def sync : Byte := 0xA5

/-- A byte examined in hunting: SYNC puts the receiver in a frame, another is discarded. -/
def State.hunt (b : Byte) (s : State) : State :=
  { s with lnk := { s.lnk with receiver := if b = sync then .inFrame [] s.clock else .hunting } }

/-- The frame whose bytes from LENGTH to CHECK are these, when they are complete. -/
def frameOf (bytes : List Byte) : Option RawFrame :=
  match bytes with
  | len :: kind :: tag :: actor :: rest =>
    if rest.length + 2 = len.toNat then some ⟨kind, tag, actor, rest.dropLast, rest.getLast?.getD 0⟩ else none
  | _ => none

/-- A byte taken in a frame whose bytes so far are `bytes`: the byte after SYNC is LENGTH, and one outside 3 to 250
is examined again in hunting; the next LENGTH + 1 bytes complete the frame. R182 adds that a LENGTH of 0xA5 starts a new
frame, while 0xA5 = 165 lies within 3 to 250, where its table abandons nothing: the model follows the table and takes
0xA5 as a length of 165 bytes (DESIGN CHOICE, log 46). -/
def State.takeByte (bytes : List Byte) (b : Byte) (s : State) : State :=
  if bytes = [] ∧ (b.toNat < 3 ∨ 250 < b.toNat) then (s.abandonFrame .length).hunt b
  else
    match frameOf (bytes ++ [b]) with
    | some f => s.completeFrame f
    | none => { s with lnk := { s.lnk with receiver := .inFrame (bytes ++ [b]) s.clock } }

/-- A byte arrives, with or without a framing error. A byte that comes more than 20 ms after the one before ends the
frame with GAP and is examined in hunting, unless it has a framing error, with which hunting discards it. A byte with a
framing error that stands at LENGTH and lies outside 3 to 250 meets two rows of R182's table: the model records FRAMING
and discards it (DESIGN CHOICE, log 52). -/
def State.byteArrives (b : Byte) (framingError : Bool) (s : State) : State :=
  match s.lnk.receiver with
  | .hunting => if framingError then s else s.hunt b
  | .inFrame bytes last =>
    if Config.interByteGap < sinceMs s.clock last then
      (if framingError then s.abandonFrame .gap else (s.abandonFrame .gap).hunt b)
    else if framingError then s.abandonFrame .framing
    else s.takeByte bytes b

end Sys2Proof.Machine
end

