-- ==== Sys2Proof/Machine/Setup.lean ====
section
/-! DEFINITION. The meanings of Restart, Commission, Decommission and the configuration requests. -/

namespace Sys2Proof.Machine

/-! ### Restart, Decommission, Commission (R148 to R150, R190) -/

/-- RESTART: the reply OK is made ready and LNK takes no further request; the reset follows the reply's last byte. -/
def execRestart (tag actor : Nat) (s : State) : Host.Outcome State Fault Refusal :=
  .next (s.takeStation 0x01 tag actor fun s => done { s with lnk := { s.lnk with restarting := true } })

/-- WAITING slots become OPEN without REQUEST_DROPPED (R44). -/
def State.quietFlush (s : State) : State :=
  (numbers 32).foldl (fun s w =>
    match s.tenancy w with
    | .waiting _ => (s.setTenancy w .opened).stopPresence w
    | _ => s) s

/-- How many slots are WAITING. -/
def State.waitingCount (s : State) : Nat := ((numbers 32).filter fun w => (s.tenancy w).record.isSome).length

/-- Step 5 of R149 after the member turn's end: no cycle runs in a turn any more, WAITING slots are flushed, the
gap stops and the arbiter is FREE. -/
def State.emptyArbiter (s : State) : State :=
  let s := { s with
    idu := { s.idu with
      claim := .none, deadlineRuns := false, context := s.idu.context.map fun c : Cycle => { c with home := .nowhere } }
    seq := { s.seq with queuedRetune := none } }
  (s.quietFlush.stopGap).setArbiter .free

/-- The cycle is abandoned if it is in STARTING or SENDING (R161). -/
def State.dropCycle (s : State) : State := if s.cycleRuns then s.abandonCycle else s

/-- MSR at Decommission: f is 256, and the foldback-reported mark is clear (R117, R125). -/
def State.restFoldback (s : State) : State :=
  { s with msr := { s.msr with factor := Config.fullFactor, reported := false } }

/-- Steps 1 and 2 of R149: the part is out of service, and STATION_CHANGED is raised when the state changes. -/
def State.outOfService (s : State) : State :=
  let s := { s with prt := { s.prt with commissioned := false } }
  if s.derived = s.prt.station then s
  else State.raise (.stationChanged s.prt.station s.derived .decommission none)
    { s with prt := { s.prt with station := s.derived } }

/-- Decommission (R149): the six steps, and the four fields of the reply. -/
def State.decommission (s : State) : Handled :=
  if s.prt.commissioned = false then refuse .wrongState s
  else
    let flushed := s.waitingCount
    let ended := s.holder
    let abandoned := s.cycleRuns
    let s := (s.outOfService.cut .decommission).dropCycle
    let s := ((s.turnEnd .decommission).emptyArbiter.flushKeys).restFoldback
    ⟨s.settle, .ok, .decommission flushed ended abandoned s.prt.station⟩

/-- DECOMMISSION (R149). -/
def execDecommission (tag actor : Nat) (s : State) : Host.Outcome State Fault Refusal :=
  .next (s.takeStation 0x02 tag actor State.decommission)

/-- The commission checks in order (R148). -/
def State.commissionFault (s : State) : Option (ConfigReason × Option BandId) :=
  match s.drv.fault with
  | some f => some f
  | none => if s.idu.callsign = none then some (.noCallsign, none) else none

/-- A refusal with CONFIG_INVALID carries the reason and the band (R185). -/
def configInvalid (f : ConfigReason × Option BandId) (s : State) : Handled :=
  ⟨s, .configInvalid, .configInvalid f.1 f.2⟩

/-- Commission (R148). -/
def State.commission (s : State) : Handled :=
  if s.prt.station ≠ .uncommissioned then refuse .wrongState s
  else if s.seq.state ≠ .quiet then refuse .busy s
  else
    match s.commissionFault with
    | some f => configInvalid f s
    | none =>
      let s := { s with prt := { s.prt with commissioned := true }, seq := { s.seq with currentBand := none } }
      let s := (s.derive .commission none).settle
      ⟨s, .ok, .station s.prt.station⟩

/-- COMMISSION (R148). -/
def execCommission (tag actor : Nat) (s : State) : Host.Outcome State Fault Refusal :=
  .next (s.takeStation 0x03 tag actor State.commission)

/-! ### SetStation (R17, R50, R73, R100, R152, R186) -/

/-- The six polarities a SetStation carries, unless a code is invalid (R50). -/
def polaritiesOf (a : StationArgs) : Option Polarities := do
  let trr ← linePolarityOf a.polTrr
  let ampkey ← linePolarityOf a.polAmpkey
  let exc ← linePolarityOf a.polExc
  let key ← linePolarityOf a.polKey
  let idm ← linePolarityOf a.polIdm
  let amppwr ← linePolarityOf a.polAmppwr
  return ⟨trr, ampkey, exc, key, idm, amppwr⟩

/-- The settings a SetStation would store, every numeric one clamped and the burst gap raised to the CW hang, unless
an index, a code or the callsign is invalid (R186, checks 1 and 3). -/
def stationSettings? (a : StationArgs) : Option Settings := do
  let band ← indexOf 12 a.defaultBand
  let emission ← emissionOf a.defaultEmission
  let polarities ← polaritiesOf a
  let auto ← flagOf a.autoAmp
  let callsign ← callsignOf a.callsign
  let hang := clamp 50 2000 a.cwHang
  return {
    turnGap := clamp 0 10000 a.turnGap
    presenceTimeout := clamp 2 60 a.presenceTimeout
    defaultBand := band
    defaultEmission := emission
    defaultPower := clampWatts a.defaultPower
    polarities := polarities
    keying := ⟨clamp 20 500 a.playoutDelay, clamp 0 200 a.lateAllowance, hang,
      max hang (clamp 500 10000 a.burstGap), clamp 1 30 a.stuckLimit⟩
    barefootCeiling := clamp 1 200 a.barefootCeiling
    autoAmp := auto
    warmUpTime := clamp 10 600 a.warmUpTime
    ampIdleTime := clamp 1 240 a.ampIdleTime
    callsign := callsign
    ids := ⟨clamp 60 900 a.idInterval, clamp 0 120 a.idGrace, clamp 5 600 a.quietDelay, clamp 10 40 a.idSpeed,
      clampWatts a.idPower⟩ }

/-- Whether the stored numbers differ from those the payload carries: a field was clamped or raised. -/
def stationClamped (a : StationArgs) (x : Settings) : Bool :=
  decide ([a.turnGap, a.presenceTimeout, a.defaultPower, a.playoutDelay, a.lateAllowance, a.cwHang, a.burstGap,
      a.stuckLimit, a.barefootCeiling, a.warmUpTime, a.ampIdleTime, a.idInterval, a.idGrace, a.quietDelay, a.idSpeed,
      a.idPower]
    ≠ [x.turnGap, x.presenceTimeout, x.defaultPower, x.keying.playoutDelay, x.keying.lateAllowance, x.keying.cwHang,
      x.keying.burstGap, x.keying.stuckLimit, x.barefootCeiling, x.warmUpTime, x.ampIdleTime, x.ids.interval,
      x.ids.grace, x.ids.quietDelay, x.ids.speed, x.ids.power])

/-- Why a change of polarity is refused, if it is (R50). -/
def State.polarityRefusal (s : State) (p : Polarities) : Option Status :=
  if p = s.seq.polarities then none
  else if s.inService then some .wrongState
  else if s.seq.state ≠ .quiet then some .busy
  else none

/-- The commission checks a SetStation would break: the barefoot ceiling's, then the callsign's (R100, R152, R186). -/
def State.settingsFault (s : State) (x : Settings) : Option (ConfigReason × Option BandId) :=
  if s.inService = false then none
  else
    match (if x.barefootCeiling = s.drv.barefootCeiling then none
      else configFault s.drv.bands s.drv.barefootCal s.drv.amplifiedCal x.barefootCeiling) with
    | some f => some f
    | none => if x.callsign = none then some (.noCallsign, none) else none

/-- The settings are stored. -/
def State.storeSettings (x : Settings) (s : State) : State :=
  { s with
    arb := { s.arb with
      turnGap := x.turnGap, presenceTimeout := x.presenceTimeout, defaultBand := x.defaultBand
      defaultEmission := x.defaultEmission, defaultPower := x.defaultPower }
    seq := { s.seq with polarities := x.polarities }
    ktl := { s.ktl with params := x.keying }
    drv := { s.drv with barefootCeiling := x.barefootCeiling }
    amg := { s.amg with autoAmp := x.autoAmp, warmUpTime := x.warmUpTime, ampIdleTime := x.ampIdleTime }
    idu := { s.idu with callsign := x.callsign, params := x.ids } }

/-- SetStation (R186); a change of the barefoot ceiling is an occasion of R112. -/
def State.setStation (a : StationArgs) (s : State) : Handled :=
  match stationSettings? a with
  | none => refuse .badArgument s
  | some x =>
    match s.polarityRefusal x.polarities with
    | some r => refuse r s
    | none =>
      match s.settingsFault x with
      | some f => configInvalid f s
      | none =>
        let moved := decide (x.barefootCeiling ≠ s.drv.barefootCeiling)
        let s := s.storeSettings x
        ⟨if moved then s.recompute else s, okStatus (stationClamped a x), .empty⟩

/-- SET_STATION (R186). -/
def execSetStation (tag actor : Nat) (a : StationArgs) (s : State) : Host.Outcome State Fault Refusal :=
  .next (s.takeStation 0x04 tag actor (State.setStation a))

/-! ### The effects of a changed class on waiting and holding slots (R12 to R14) -/

/-- The re-check of a WAITING slot (R12). -/
def State.recheckSlot (w : SlotId) (s : State) : State :=
  match s.tenancy w with
  | .waiting r => if s.permit w r.band r.emission then s else s.dropRequest .privilege w
  | _ => s

/-- The re-check of the holder, when it is one of the slots concerned (R12). -/
def State.recheckHolder (concerns : SlotId → Bool) (s : State) : State :=
  match s.turn with
  | some t => if concerns t.holder && !s.permit t.holder t.band t.emission then s.turnEnd .privilege else s
  | none => s

/-- The privilege re-check of the slots concerned: the drops in increasing slot number, then the holder (R12). -/
def State.recheck (concerns : SlotId → Bool) (s : State) : State :=
  (((numbers 32).filter concerns).foldl (fun s w => s.recheckSlot w) s).recheckHolder concerns

/-- The seize mark of a slot whose class lacks CONTROL is removed (R14). -/
def State.unmark (w : SlotId) (s : State) : State :=
  match s.tenancy w with
  | .waiting r => if (s.classOf w).control then s else s.setTenancy w (.waiting { r with mark := false })
  | _ => s

/-- The seize marks of the slots concerned whose class lacks CONTROL (R14). -/
def State.unmarkAll (concerns : SlotId → Bool) (s : State) : State :=
  ((numbers 32).filter concerns).foldl (fun s w => s.unmark w) s

/-- Changed limits are compared at once with the running turn limit, idle hang and transmission limit (R13; the
order of the three is log 27). -/
def State.compareLimits (old new : ClassRec) (s : State) : State :=
  match s.turn with
  | none => s
  | some t =>
    let idle := match t.idleStart with
      | some i => decide (new.idleHang * 1000 ≤ sinceMs s.clock i)
      | none => false
    let late := match s.seq.tx with
      | some x => match x.limitStart with
        | some l => decide (new.txLimit * 1000 ≤ sinceMs s.clock l)
        | none => false
      | none => false
    if new.turnLimit ≠ old.turnLimit ∧ new.turnLimit * 60000 ≤ sinceMs s.clock t.grantClock then s.turnEnd .turnLimit
    else if new.idleHang ≠ old.idleHang ∧ idle = true then s.turnEnd .idle
    else if new.txLimit ≠ old.txLimit ∧ s.memberExciting = true ∧ late = true then s.endMemberTx .txLimit
    else s

/-- What follows at once when the class that governs some slots changes from `old` to `new`: the re-check, the marks,
the drive of a running transmission whose class ceiling changed, the limits (R7, R12 to R14, R16). -/
def State.classEffects (concerns : SlotId → Bool) (old new : ClassRec) (s : State) : State :=
  let s := (s.recheck concerns).unmarkAll concerns
  match s.turn with
  | some t =>
    if concerns t.holder then
      (if old.ceilings.read t.band = new.ceilings.read t.band then s else s.recomputeMember).compareLimits old new
    else s
  | none => s

/-! ### SetClass (R3) -/

/-- The record a SetClass would store, unless an index or a code is invalid (R3). A code listed twice is invalid in
each of the three sets: R3 says so of a band, and for an emission or a capability it is the model's choice (log 32). -/
def classRecord? (a : ClassArgs) : Option ClassRec :=
  if validSet 12 a.bands && validSet 3 a.emissions && validSet 2 a.capabilities then
    some {
      bands := Table.build fun b => decide (b.val ∈ a.bands)
      ceilings := Table.build fun b => clampWatts (a.ceilings.read b)
      cw := decide (0 ∈ a.emissions)
      phone := decide (1 ∈ a.emissions)
      data := decide (2 ∈ a.emissions)
      priority := clamp 0 3 a.priority
      control := decide (0 ∈ a.capabilities)
      singleOver := decide (1 ∈ a.capabilities)
      turnLimit := clamp 1 120 a.turnLimit
      idleHang := clamp 10 900 a.idleHang
      txLimit := clamp 30 600 a.txLimit }
  else none

/-- Whether a numeric field of a SetClass is outside its range. -/
def classClamped (a : ClassArgs) : Bool :=
  a.ceilings.toList.any (outside 1 4000) || outside 0 3 a.priority || outside 1 120 a.turnLimit ||
    outside 10 900 a.idleHang || outside 30 600 a.txLimit

/-- SetClass (R3). -/
def State.setClass (a : ClassArgs) (s : State) : Handled :=
  match indexOf 8 a.classIx, classRecord? a with
  | some c, some r =>
    let old := s.clt.classes.read c
    let s := { s with clt := { s.clt with classes := s.clt.classes.write c r } }
    let s := s.classEffects (fun w => !s.vacant w && decide ((s.identity w).classIx = c)) old r
    ⟨s.settle, okStatus (classClamped a), .empty⟩
  | _, _ => refuse .badArgument s

/-- SET_CLASS (R3). -/
def execSetClass (tag actor : Nat) (a : ClassArgs) (s : State) : Host.Outcome State Fault Refusal :=
  .next (s.takeStation 0x05 tag actor (State.setClass a))

/-! ### SetBand and SetCalibration (R95 to R99) -/

/-- The record a SetBand would store, with its band, unless an index or a code is invalid (R95). -/
def bandRecord? (a : BandArgs) : Option (BandId × BandRec) := do
  let b ← indexOf 12 a.band
  let e ← flagOf a.enabled
  let c ← indexOf 16 a.relayCode
  return (b, ⟨e, c, clampWatts a.stationCeiling, clampWatts a.dutyCeiling, clamp 10 4000 a.fullScale⟩)

/-- Whether a numeric field of a SetBand is outside its range. -/
def bandClamped (a : BandArgs) : Bool :=
  outside 1 4000 a.stationCeiling || outside 1 4000 a.dutyCeiling || outside 10 4000 a.fullScale

/-- The band map is in use for band `b` (R95, check 2). -/
def State.bandBusy (s : State) (b : BandId) : Bool :=
  decide (s.seq.state ≠ .quiet) || decide (s.turn.map (·.band) = some b)

/-- The effects of a stored SetBand (R96). -/
def State.bandEffects (b : BandId) (old new : BandRec) (s : State) : State :=
  let s := if old.enabled = true ∧ new.enabled = false then s.recheck fun _ => true else s
  if old.relayCode ≠ new.relayCode ∧ s.seq.currentBand = some b then
    { s with seq := { s.seq with currentBand := none } }
  else s

/-- SetBand (R95). -/
def State.setBand (a : BandArgs) (s : State) : Handled :=
  match bandRecord? a with
  | none => refuse .badArgument s
  | some (b, r) =>
    if s.inService && s.bandBusy b then refuse .busy s
    else
      let bands := s.drv.bands.write b r
      match (if s.inService then configFault bands s.drv.barefootCal s.drv.amplifiedCal s.drv.barefootCeiling
        else none) with
      | some f => configInvalid f s
      | none =>
        let old := s.drv.bands.read b
        let s := { s with drv := { s.drv with bands := bands } }
        ⟨(s.bandEffects b old r).settle, okStatus (bandClamped a), .empty⟩

/-- SET_BAND (R95). -/
def execSetBand (tag actor : Nat) (a : BandArgs) (s : State) : Host.Outcome State Fault Refusal :=
  .next (s.takeStation 0x06 tag actor (State.setBand a))

/-- The points of a SetCalibration after clamping (R98, check 2); a drive code is one byte. -/
def calPoints (a : CalArgs) : List Point := a.points.map fun p => ⟨clampWatts p.1, p.2 % 256⟩

/-- The index of the first point out of order, where `p` is point `k` (R98, check 3). -/
def outOfOrder (k : Nat) (p : Point) : List Point → Option Nat
  | [] => none
  | q :: rest => if p.power < q.power ∧ p.code ≤ q.code then outOfOrder (k + 1) q rest else some (k + 1)

/-- The first point out of order among some points. -/
def firstOutOfOrder : List Point → Option Nat
  | [] => none
  | p :: rest => outOfOrder 0 p rest

/-- The context that eight points make; any other number of points makes an empty one. -/
def contextOf (l : List Point) : Context := if h : l.toArray.size = 8 then some ⟨l.toArray, h⟩ else none

/-- The band and path are those of the transmission context (R99). -/
def State.live (s : State) (b : BandId) (p : Path) : Bool :=
  match s.seq.tx with
  | some x => decide (x.band = b) && decide (x.path = p)
  | none => false

/-- DRV with a calibration context replaced. -/
def Drv.setContext (b : BandId) (p : Path) (c : Context) (d : Drv) : Drv :=
  match p with
  | .barefoot => { d with barefootCal := d.barefootCal.write b c }
  | .amplified => { d with amplifiedCal := d.amplifiedCal.write b c }

/-- SetCalibration (R98, R99). -/
def State.setCalibration (a : CalArgs) (s : State) : Handled :=
  match indexOf 12 a.band, pathOf a.path with
  | some b, some p =>
    if a.points.length ≠ 0 ∧ a.points.length ≠ 8 then ⟨s, .badArgument, .calibrationPoint none⟩
    else
      match firstOutOfOrder (calPoints a) with
      | some k => ⟨s, .badArgument, .calibrationPoint (some k)⟩
      | none =>
        if s.live b p then refuse .busy s
        else
          let d := s.drv.setContext b p (contextOf (calPoints a))
          match (if s.inService then d.fault else none) with
          | some f => configInvalid f s
          | none => ⟨{ s with drv := d }, okStatus (a.points.any fun q => outside 1 4000 q.1), .empty⟩
  | _, _ => ⟨s, .badArgument, .calibrationPoint none⟩

/-- SET_CALIBRATION (R98). -/
def execSetCalibration (tag actor : Nat) (a : CalArgs) (s : State) : Host.Outcome State Fault Refusal :=
  .next (s.takeStation 0x07 tag actor (State.setCalibration a))

/-! ### StageProfile, SetInput, SetLimits (R51, R132, R174) -/

/-- The profile a StageProfile stores, clamped (R51). -/
def profileOf (a : ProfileArgs) : Profile :=
  ⟨min a.relayOn 255, min a.ampOn 255, min a.tail 255, min a.ampOff 255, min a.relayOff 255, min a.bandSettle 500⟩

/-- Whether a delay is above its range. -/
def profileClamped (a : ProfileArgs) : Bool :=
  decide (255 < a.relayOn ∨ 255 < a.ampOn ∨ 255 < a.tail ∨ 255 < a.ampOff ∨ 255 < a.relayOff ∨ 500 < a.bandSettle)

/-- StageProfile: active at once in QUIET, else the change is pending (R51). -/
def State.stageProfile (a : ProfileArgs) (s : State) : Handled :=
  let p := profileOf a
  let q := decide (s.seq.state = .quiet)
  ⟨{ s with seq := { s.seq with
      staged := p, active := if q then p else s.seq.active, changePending := !q } },
    okStatus (profileClamped a), .empty⟩

/-- STAGE_PROFILE (R51). -/
def execStageProfile (tag actor : Nat) (a : ProfileArgs) (s : State) : Host.Outcome State Fault Refusal :=
  .next (s.takeStation 0x08 tag actor (State.stageProfile a))

/-- EDGE is for LOCAL_REQUEST and NONE (R174, check 2). -/
def edgeAllowed (f : InputFunction) (t : Trigger) : Bool :=
  decide (t = .level) || decide (f = .localRequest) || decide (f = .none)

/-- SetInput (R174). -/
def State.setInput (a : InputArgs) (s : State) : Handled :=
  match indexOf 4 a.input, functionOf a.function, triggerOf a.trigger, inputPolarityOf a.polarity with
  | some i, some f, some t, some p =>
    if edgeAllowed f t = false then refuse .badArgument s
    else
      let y := { s.inr.inputs.read i with function := f, trigger := t, polarity := p, debounce := min a.debounce 50 }
      let s := (s.route i y).settle
      ⟨s, okStatus (decide (50 < a.debounce)), .input i (s.inr.inputs.read i)⟩
  | _, _, _, _ => refuse .badArgument s

/-- SET_INPUT (R174). -/
def execSetInput (tag actor : Nat) (a : InputArgs) (s : State) : Host.Outcome State Fault Refusal :=
  .next (s.takeStation 0x09 tag actor (State.setInput a))

/-- The limits a SetLimits stores (R132, steps 1 to 4). -/
def limitsOf (a : LimitsArgs) : Limits :=
  let start := clamp 20 500 a.rStart
  let temp := clamp 0 1023 a.temperature
  let low := clamp 0 1023 a.supplyLow
  { rStart := start
    rTrip := max (start + 10) (clamp 30 900 a.rTrip)
    fMin := clamp 16 256 a.fMin
    step := clamp 1 64 a.step
    floor := clamp 1 255 a.floor
    scans := clamp 1 16 a.scans
    current := clamp 0 1023 a.current
    temperature := temp
    hysteresis := min temp (clamp 0 255 a.hysteresis)
    supplyLow := low
    supplyHigh := max low (clamp 0 1023 a.supplyHigh) }

/-- The payload's fields as limits, unclamped. -/
def rawLimits (a : LimitsArgs) : Limits :=
  ⟨a.rStart, a.rTrip, a.fMin, a.step, a.floor, a.scans, a.current, a.temperature, a.hysteresis, a.supplyLow,
    a.supplyHigh⟩

/-- SetLimits: the values, the counts at 0, and the factor raised to a higher f_min (R125, R132). -/
def State.setLimits (a : LimitsArgs) (s : State) : Handled :=
  let l := limitsOf a
  let s := { s with msr := { s.msr with
    limits := l, overcurrentCount := 0, overtempCount := 0, supplyCount := 0 } }
  let s := if s.msr.factor < l.fMin then (s.setFactor l.fMin).recompute else s
  ⟨s, okStatus (decide (l ≠ rawLimits a)), .limits l⟩

/-- SET_LIMITS (R132). -/
def execSetLimits (tag actor : Nat) (a : LimitsArgs) (s : State) : Host.Outcome State Fault Refusal :=
  .next (s.takeStation 0x0A tag actor (State.setLimits a))

/-! ### SetEvents, ClearEvents, ClearCounters (R169, R188) -/

/-- SET_EVENTS: the two sets replace the stored enables (R188). -/
def execSetEvents (tag actor : Nat) (reports attention : BitVec 16) (s : State) : Host.Outcome State Fault Refusal :=
  .next (s.takeStation 0x0B tag actor fun s =>
    done { s with lnk := { s.lnk with reportEnable := reports, attnEnable := attention } })

/-- CLEAR_EVENTS: the flags of the named kinds are cleared; the reply carries the flags as they stood (R188). -/
def execClearEvents (tag actor : Nat) (kinds : BitVec 16) (s : State) : Host.Outcome State Fault Refusal :=
  .next (s.takeStation 0x0C tag actor fun s =>
    ⟨{ s with lnk := { s.lnk with flags := s.lnk.flags &&& ~~~kinds } }, .ok, .flags s.lnk.flags⟩)

/-- A cleared counter: the value and the remainder become 0 (R169). A complete tenth that its RESIDENCY_TENTH has not
added yet comes after the clearing: the counter reads 0, then 1 (R172). -/
def Counter.cleared (c : Counter) : Counter := { c with value := 0, remainder := 0 }

/-- ClearCounters (R169). -/
def State.clearCounters (names : List Nat) (s : State) : Handled :=
  if validSet 6 names = false then refuse .badArgument s
  else
    let named := (numbers 6).filter fun i => decide (i.val ∈ names)
    ⟨{ s with acu := { s.acu with
        counters := Table.build fun i =>
          if i.val ∈ names then (s.acu.counters.read i).cleared else s.acu.counters.read i } },
      .ok, .counts (named.map fun i => (s.acu.counters.read i).value)⟩

/-- CLEAR_COUNTERS (R169). -/
def execClearCounters (tag actor : Nat) (names : List Nat) (s : State) : Host.Outcome State Fault Refusal :=
  .next (s.takeStation 0x0D tag actor (State.clearCounters names))

end Sys2Proof.Machine
end

