-- ==== Sys2Proof/Machine/Control.lean ====
section
/-! DEFINITION. The meanings of ClearFault, Resume, the slot requests and the control operations. -/

namespace Sys2Proof.Machine

/-! ### ClearFault and Resume (R139, R141) -/

/-- The fault list without the record of a kind. -/
def withoutFault (k : FaultKind) (l : List FaultRec) : List FaultRec := l.filter fun r => decide (r.kind ≠ k)

/-- ClearFault (R139). -/
def State.clearFault (kind : Nat) (s : State) : Handled :=
  match faultOf kind with
  | none => refuse .badArgument s
  | some k =>
    if (s.faultOf? k).isNone then ⟨s, .ok, .station s.prt.station⟩
    else if s.present k then refuse .stillPresent s
    else
      let s := { s with prt := { s.prt with faults := withoutFault k s.prt.faults } }
      let s := (s.derive .tripCleared none).settle
      ⟨s, .ok, .station s.prt.station⟩

/-- CLEAR_FAULT (R139). -/
def execClearFault (tag actor kind : Nat) (s : State) : Host.Outcome State Fault Refusal :=
  .next (s.takeControl 0x0F tag actor (State.clearFault kind))

/-- Resume (R141). -/
def State.resume (s : State) : Handled :=
  if s.prt.killLatch = false then ⟨s, .ok, .station s.prt.station⟩
  else if s.inr.kill.debounced then refuse .stillPresent s
  else
    let s := { s with prt := { s.prt with killLatch := false } }
    let s := (s.derive .resume none).settle
    ⟨s, .ok, .station s.prt.station⟩

/-- RESUME (R141). -/
def execResume (tag actor : Nat) (s : State) : Host.Outcome State Fault Refusal :=
  .next (s.takeControl 0x10 tag actor State.resume)

/-! ### Opening and closing slots (R9, R10) -/

/-- An allowance, clamped to its range. -/
def clampAllowance (a : Nat) : Nat := clamp 1 86400 a

/-- The identity an OpenSlot writes, with its slot, unless an argument is invalid (R9). -/
def openIdentity? (a : OpenArgs) : Option (SlotId × Identity) := do
  let w ← indexOf 32 a.slot
  let call ← callsignOf a.callsign
  let c ← indexOf 8 a.classIx
  let present ← flagOf a.allowancePresent
  return (w, ⟨call, c, if present then some (clampAllowance a.allowance) else none, false⟩)

/-- Writes a slot's air time used. -/
def State.setUsed (w : SlotId) (n : Nat) (s : State) : State :=
  { s with acu := { s.acu with used := s.acu.used.write w n } }

/-- OpenSlot (R9). An invalid argument is found before a slot that is not VACANT (the model's choice, log 33). -/
def State.openSlot (a : OpenArgs) (s : State) : Handled :=
  match openIdentity? a with
  | none => refuse .badArgument s
  | some (w, ident) =>
    if s.vacant w = false then refuse .wrongState s
    else ⟨((s.setIdentity w ident).setUsed w 0).setTenancy w .opened,
      okStatus (ident.allowance.isSome && outside 1 86400 a.allowance), .empty⟩

/-- OPEN_SLOT (R9). -/
def execOpenSlot (tag actor : Nat) (a : OpenArgs) (s : State) : Host.Outcome State Fault Refusal :=
  .next (s.takeStation 0x11 tag actor (State.openSlot a))

/-- The closing of a slot that is not VACANT, in the order of R10. -/
def State.closing (w : SlotId) (s : State) : State :=
  let s := if s.holdsTurn w then s.turnEnd .closed else s
  ((s.setTenancy w .vacant).stopPresence w).setIdentity w Identity.reset

/-- CloseSlot (R10). -/
def State.closeSlot (slot : Nat) (s : State) : Handled :=
  match indexOf 32 slot with
  | none => refuse .badArgument s
  | some w => if s.vacant w then done s else done (s.closing w).settle

/-- CLOSE_SLOT (R10). -/
def execCloseSlot (tag actor slot : Nat) (s : State) : Host.Outcome State Fault Refusal :=
  .next (s.takeStation 0x12 tag actor (State.closeSlot slot))

/-! ### Reclass, SetAllowance, ClearAirtime (R11, R15, R167) -/

/-- Reclass (R11): the re-check is of this slot alone. An invalid argument is found before a VACANT slot (the model's
choice, log 33). -/
def State.reclass (slot classIx : Nat) (s : State) : Handled :=
  match indexOf 32 slot, indexOf 8 classIx with
  | some w, some c =>
    if s.vacant w then refuse .wrongState s
    else
      let old := s.classOf w
      let s := s.setIdentity w { s.identity w with classIx := c }
      done (s.classEffects (fun v => decide (v = w)) old (s.classOf w)).settle
  | _, _ => refuse .badArgument s

/-- RECLASS (R11). -/
def execReclass (tag actor slot classIx : Nat) (s : State) : Host.Outcome State Fault Refusal :=
  .next (s.takeStation 0x13 tag actor (State.reclass slot classIx))

/-- SetAllowance (R15). An invalid argument is found before a VACANT slot (the model's choice, log 33). -/
def State.setAllowance (slot present allowance : Nat) (s : State) : Handled :=
  match indexOf 32 slot, flagOf present with
  | some w, some p =>
    if s.vacant w then refuse .wrongState s
    else
      let before := s.exhausted w
      let s := s.setIdentity w { s.identity w with allowance := if p then some (clampAllowance allowance) else none }
      let s := if !before && s.exhausted w then s.exhaustionEffects w else s
      ⟨s.settle, okStatus (p && outside 1 86400 allowance), .empty⟩
  | _, _ => refuse .badArgument s

/-- SET_ALLOWANCE (R15). -/
def execSetAllowance (tag actor slot present allowance : Nat) (s : State) : Host.Outcome State Fault Refusal :=
  .next (s.takeStation 0x14 tag actor (State.setAllowance slot present allowance))

/-- ClearAirtime of one slot, or of all with 0xFF (R167, R193). R167 gives the 32 values of the reply to ALL no order:
they stand in slot order 0 to 31 (DESIGN CHOICE, log 45). -/
def State.clearAirtime (slot : Nat) (s : State) : Handled :=
  match indexOf 32 slot with
  | some w => ⟨s.setUsed w 0, .ok, .counts [s.acu.used.read w]⟩
  | none =>
    if slot = 0xFF then
      ⟨{ s with acu := { s.acu with used := Table.build fun _ => 0 } }, .ok,
        .counts ((numbers 32).map fun w => s.acu.used.read w)⟩
    else refuse .badArgument s

/-- CLEAR_AIRTIME (R167). -/
def execClearAirtime (tag actor slot : Nat) (s : State) : Host.Outcome State Fault Refusal :=
  .next (s.takeStation 0x15 tag actor (State.clearAirtime slot))

/-! ### Seize (R39 to R41) -/

/-- The seize parameters: the holder's while a member turn exists, else the payload's with the power clamped (R39,
check 5). -/
def State.seizeRequest (s : State) (b : BandId) (e : Emission) (power : Nat) : RequestRec :=
  match s.turn with
  | some t => ⟨t.band, t.emission, t.power, .once, .frame, false⟩
  | none => ⟨b, e, clampWatts power, .once, .frame, false⟩

/-- Checks 4, 6 and 7 of R39. -/
def State.seizeRefusal (s : State) (w : SlotId) (r : RequestRec) : Option Status :=
  if s.vacant w = true ∨ (s.identity w).heldBack = true ∨ (s.classOf w).control = false then some .wrongState
  else if s.permit w r.band r.emission = false then some .notPermitted
  else if s.exhausted w then some .noAllowance
  else none

/-- The presence timer starts when the seizer leaves OPEN (R22). -/
def State.leaveOpen (w : SlotId) (s : State) : State :=
  match s.tenancy w with
  | .opened => s.startPresence w
  | _ => s

/-- An accepted Seize (R40): the member turn ends with SEIZED; the seizer is granted at once, or waits with a seize
mark for the end of the ID turn. -/
def State.seizeNow (w : SlotId) (r : RequestRec) (s : State) : State × SeizeOutcome :=
  let s := (s.leaveOpen w).turnEnd .seized
  if s.arb.arbiter = .idTurn then (s.setTenancy w (.waiting { r with mark := true }), .marked)
  else (s.stopGap.grantRequest w r, .granted)

/-- The seizing slot is the actor, or the actor is STATION (R39, check 1). -/
def Actor.maySeizeFor (a : Actor) (w : SlotId) : Bool :=
  match a with
  | .slot v => decide (v = w)
  | .station => true

/-- Seize (R39). -/
def State.seize (slot band emission power : Nat) (a : Actor) (s : State) : Handled :=
  match indexOf 32 slot, indexOf 12 band, emissionOf emission with
  | some w, some b, some e =>
    if a.maySeizeFor w = false then refuse .badArgument s
    else if s.ready = false then refuse .held s
    else if s.holdsTurn w then ⟨s, .ok, .seize .heldAlready⟩
    else
      let r := s.seizeRequest b e power
      match s.seizeRefusal w r with
      | some x => refuse x s
      | none =>
        let clamped := s.turn.isNone && outside 1 4000 power
        let p := s.seizeNow w r
        ⟨p.1.settle, okStatus clamped, .seize p.2⟩
  | _, _, _ => refuse .badArgument s

/-- SEIZE (R39, R40). -/
def execSeize (tag actor slot band emission power : Nat) (s : State) : Host.Outcome State Fault Refusal :=
  .next (s.takeRequest 0x30 tag actor .controlSlot (State.seize slot band emission power))

/-! ### EndTurn, HoldSlot, UnholdSlot (R42, R43) -/

/-- EndTurn (R42). -/
def State.endTurn (slot : Nat) (s : State) : Handled :=
  match indexOf 32 slot with
  | none => refuse .badArgument s
  | some w => if s.holdsTurn w then done (s.turnEnd .endedByControl).settle else refuse .wrongState s

/-- END_TURN (R42). -/
def execEndTurn (tag actor slot : Nat) (s : State) : Host.Outcome State Fault Refusal :=
  .next (s.takeControl 0x31 tag actor (State.endTurn slot))

/-- Writes the held-back flag of slot `w`. -/
def State.setHeldBack (w : SlotId) (x : Bool) (s : State) : State :=
  s.setIdentity w { s.identity w with heldBack := x }

/-- HoldSlot (R43). -/
def State.holdSlot (slot : Nat) (s : State) : Handled :=
  match indexOf 32 slot with
  | none => refuse .badArgument s
  | some w => if s.vacant w then refuse .wrongState s else done (s.setHeldBack w true)

/-- HOLD_SLOT (R43). -/
def execHoldSlot (tag actor slot : Nat) (s : State) : Host.Outcome State Fault Refusal :=
  .next (s.takeControl 0x32 tag actor (State.holdSlot slot))

/-- An arbitration point while FREE (R27). -/
def State.arbitrateIfFree (s : State) : State := if s.arb.arbiter = .free then s.arbitrate else s

/-- UnholdSlot (R43). -/
def State.unholdSlot (slot : Nat) (s : State) : Handled :=
  match indexOf 32 slot with
  | none => refuse .badArgument s
  | some w =>
    if s.vacant w then refuse .wrongState s else done (s.setHeldBack w false).arbitrateIfFree.settle

/-- UNHOLD_SLOT (R43). -/
def execUnholdSlot (tag actor slot : Nat) (s : State) : Host.Outcome State Fault Refusal :=
  .next (s.takeControl 0x33 tag actor (State.unholdSlot slot))

/-! ### AmpOn, AmpOff, AmpReset (R102, R107, R108) -/

/-- AmpOn (R102). -/
def State.ampOn (s : State) : Handled :=
  match s.amg.state with
  | .off => done (s.warmAmp .ampOn)
  | .warming | .on => done s
  | .failed => refuse .wrongState s

/-- AMP_ON (R102). -/
def execAmpOn (tag actor : Nat) (s : State) : Host.Outcome State Fault Refusal :=
  .next (s.takeControl 0x34 tag actor State.ampOn)

/-- AmpOff (R107). -/
def State.ampOff (s : State) : Handled :=
  match s.amg.state with
  | .failed => refuse .wrongState s
  | .off => done s
  | .warming | .on => if s.amplifiedTx then refuse .busy s else done (s.ampTo .off .ampOff)

/-- AMP_OFF (R107). -/
def execAmpOff (tag actor : Nat) (s : State) : Host.Outcome State Fault Refusal :=
  .next (s.takeControl 0x35 tag actor State.ampOff)

/-- AmpReset (R108). -/
def State.ampReset (s : State) : Handled :=
  match s.amg.state with
  | .failed => done (((s.ampTo .off .reset).conditionGone .ampNoReady).conditionGone .ampDrop)
  | .off | .warming | .on => refuse .wrongState s

/-- AMP_RESET (R108). -/
def execAmpReset (tag actor : Nat) (s : State) : Host.Outcome State Fault Refusal :=
  .next (s.takeControl 0x36 tag actor State.ampReset)

end Sys2Proof.Machine
end

