-- ==== Sys2Proof/Machine/LinkEvents.lean ====
section
/-! DEFINITION. The meanings of the link's occurrences, of a request of unknown kind, and of RST. -/

namespace Sys2Proof.Machine

/-- UNKNOWN_KIND_REQUEST: answered UNKNOWN_KIND with the kind byte 0xFF; it reaches no block and restarts no presence
timer (R22, R183). A kind of the catalogue is not unknown, and the command has no effect. -/
def execUnknownKindRequest (kind tag _actor : Nat) (s : State) : Host.Outcome State Fault Refusal :=
  .next (if catalogueKind kind then s else s.turnAway kind tag .unknownKind)

/-- FRAME_RECEIVED: a frame with the bytes of `f` completes; one whose LENGTH is outside 3 to 250 is abandoned with
reason LENGTH (R182). While RST is asserted no frame is taken (R150). -/
def execFrameReceived (f : RawFrame) (s : State) : Host.Outcome State Fault Refusal :=
  .next (if s.rst then s
    else if 250 < frameLength f then s.abandonFrame .length
    else s.completeFrame f)

/-- INTER_BYTE_GAP: more than 20 ms pass between two bytes of a frame (R182). -/
def execInterByteGap (s : State) : Host.Outcome State Fault Refusal :=
  .next (if s.rst then s
    else
      match s.lnk.receiver with
      | .inFrame _ last =>
        (s.bringTo (last + BitVec.ofNat 32 (Config.interByteGap + 1))).abandonFrame .gap
      | .hunting => s)

/-- BYTE_RECEIVED (R182). -/
def execByteReceived (b : Byte) (framingError : Bool) (s : State) : Host.Outcome State Fault Refusal :=
  .next (if s.rst then s else s.byteArrives b framingError)

/-- REPLY_SENT: the reply leaves with the reports queued ahead of it (log 4); after a Restart's reply the full reset takes place
(R183, R189, R190). -/
def execReplySent (s : State) : Host.Outcome State Fault Refusal :=
  .next (if s.rst then s
    else
      match s.lnk.reply with
      | some _ => if s.lnk.restarting then s.fullReset else { s with lnk := s.lnk.replyOut }
      | none => s)

/-- The oldest report leaves the queue (R189). A ready reply with no report ahead of it would have gone first: when
REPORT_SENT is commanded while it stands, it is taken as sent before that report (DESIGN CHOICE, log 4). -/
def Lnk.reportOut (l : Lnk) : Lnk :=
  match l.reply with
  | some r =>
    if r.ahead = 0 then { l with reply := none, reports := l.reports.tail }
    else { l with reply := some { r with ahead := r.ahead - 1 }, reports := l.reports.tail }
  | none => { l with reports := l.reports.tail }

/-- The transmitter can be sending a report: one is queued and no Restart's reply stands before it (R189, R190). -/
def Lnk.sendsReport (l : Lnk) : Bool :=
  !l.reports.isEmpty && (!l.restarting ||
    match l.reply with
    | some r => decide (0 < r.ahead)
    | none => true)

/-- REPORT_SENT: the oldest report leaves the queue (R189). -/
def execReportSent (s : State) : Host.Outcome State Fault Refusal :=
  .next (if s.rst then s
    else if s.lnk.sendsReport then { s with lnk := s.lnk.reportOut } else s)

/-- RST_ASSERTED: every output line but BAND is deasserted, DRIVE's duty is 0, the scan stops and no frame is taken
(R49, R101, R114, R150). -/
def execRstAsserted (s : State) : Host.Outcome State Fault Refusal :=
  .next { s with
    rst := true
    seq := { s.seq with trr := false, ampkey := false, exc := false, idm := false, keyGate := false }
    drv := { s.drv with applied := { s.drv.applied with active := false } }
    amg := { s.amg with amppwr := false } }

/-- RST_DEASSERTED: the full reset completes (R150). Commanded while RST is not asserted, it stands for a whole pulse of
RST (the model's choice, log 37). -/
def execRstDeasserted (s : State) : Host.Outcome State Fault Refusal := .next s.fullReset

end Sys2Proof.Machine
end

