-- ==== Sys2Proof/Machine/Query.lean ====
section
/-! DEFINITION. The meanings of the thirteen Query topics (R187). A Query reads state without changing it. -/

namespace Sys2Proof.Machine

/-- Answered OK with a topic's contents. -/
def shows (b : Body) (s : State) : Handled := ⟨s, .ok, b⟩

/-! ### STATION -/

/-- Every SetStation setting (R186). -/
def State.settings (s : State) : Settings where
  turnGap := s.arb.turnGap
  presenceTimeout := s.arb.presenceTimeout
  defaultBand := s.arb.defaultBand
  defaultEmission := s.arb.defaultEmission
  defaultPower := s.arb.defaultPower
  polarities := s.seq.polarities
  keying := s.ktl.params
  barefootCeiling := s.drv.barefootCeiling
  autoAmp := s.amg.autoAmp
  warmUpTime := s.amg.warmUpTime
  ampIdleTime := s.amg.ampIdleTime
  callsign := s.idu.callsign
  ids := s.idu.params

/-- The time remaining on a timer, if it runs. -/
def State.leftOf (s : State) (t : Option Timer) : Option Nat := t.map fun x => x.left s.clock

/-- The remaining idle hang (R31, R34). -/
def State.idleLeft (s : State) : Option Nat :=
  match s.turn with
  | some t => t.idleStart.map fun i => (s.classOf t.holder).idleHang * 1000 - sinceMs s.clock i
  | none => none

/-- The time remaining on the transmission limit timer (R49, R64). -/
def State.limitLeft (s : State) : Option Nat :=
  match s.seq.tx, s.turn with
  | some x, some t => x.limitStart.map fun l => (s.classOf t.holder).txLimit * 1000 - sinceMs s.clock l
  | _, _ => none

/-- The index of the character being sent (R151). -/
def State.sendingChar (s : State) : Option Nat :=
  match s.idu.cycle, s.idu.context with
  | .sending, some c => c.todo.head?.map (·.char)
  | _, _ => none

/-- What Query STATION returns (R187). The time elapsed since the grant is counted in ms of the station clock (DESIGN
CHOICE, log 41). -/
def State.stationView (s : State) : StationView where
  station := s.prt.station
  killLatch := s.prt.killLatch
  commissioned := s.prt.commissioned
  arbiter := s.arb.arbiter
  sinceGrant := s.turn.map fun t => sinceMs s.clock t.grantClock
  idleLeft := s.idleLeft
  seq := s.seq.state
  tx := s.seq.tx
  limitLeft := s.limitLeft
  pttDemand := s.seq.pttDemand
  currentBand := s.seq.currentBand
  bandCode := s.seq.bandCode.val
  timelineFill := s.ktl.timeline.length
  timelineState := s.ktl.state
  keyState := s.keyState
  burst := s.ktl.burst
  suppression := s.ktl.suppression
  amp := s.amg.state
  ampTimerLeft := s.leftOf (s.amg.warm.or s.amg.idle)
  ampReadyRouted := s.isRouted .ampReady
  applied := s.drv.applied
  owed := s.idu.owed
  due := s.idu.due
  dueTime := s.idu.dueTime
  intervalLeft := s.leftOf s.idu.interval
  deadlineLeft := if s.idu.deadlineRuns then some (sinceMs s.idu.deadlineAt s.clock) else none
  quietLeft := s.leftOf s.idu.quiet
  claim := s.idu.claim
  cycle := s.idu.cycle
  sendingChar := s.sendingChar
  settings := s.settings

/-- QUERY_STATION (R187). -/
def execQueryStation (tag actor : Nat) (s : State) : Host.Outcome State Fault Refusal :=
  .next (s.takeQuery tag actor fun s => shows (.queryStation s.stationView) s)

/-! ### SLOT, CLASS, BAND, CAL -/

/-- What Query SLOT returns (R187). -/
def State.slotView (s : State) (w : SlotId) : SlotView where
  identity := s.identity w
  state := (s.tenancy w).shown
  rank := s.arb.ranks.read w
  presenceLeft := s.leftOf (s.arb.presence.read w)
  record := (s.tenancy w).record
  airTime := s.acu.used.read w
  exhausted := s.exhausted w

/-- QUERY_SLOT (R187). -/
def execQuerySlot (tag actor slot : Nat) (s : State) : Host.Outcome State Fault Refusal :=
  .next (s.takeQuery tag actor fun s =>
    match indexOf 32 slot with
    | some w => shows (.querySlot (s.slotView w)) s
    | none => refuse .badArgument s)

/-- QUERY_CLASS (R2, R187). -/
def execQueryClass (tag actor classIx : Nat) (s : State) : Host.Outcome State Fault Refusal :=
  .next (s.takeQuery tag actor fun s =>
    match indexOf 8 classIx with
    | some c => shows (.queryClass (s.clt.classes.read c)) s
    | none => refuse .badArgument s)

/-- QUERY_BAND (R94, R187). -/
def execQueryBand (tag actor band : Nat) (s : State) : Host.Outcome State Fault Refusal :=
  .next (s.takeQuery tag actor fun s =>
    match indexOf 12 band with
    | some b => shows (.queryBand (s.drv.bands.read b)) s
    | none => refuse .badArgument s)

/-- QUERY_CAL (R97, R187). -/
def execQueryCal (tag actor band path : Nat) (s : State) : Host.Outcome State Fault Refusal :=
  .next (s.takeQuery tag actor fun s =>
    match indexOf 12 band, pathOf path with
    | some b, some p => shows (.queryCal (s.context b p)) s
    | _, _ => refuse .badArgument s)

/-! ### MEASURE, FAULTS, COUNTERS, RECORDS -/

/-- Watts that a scan's completion has kept, absent while SEQ's current band is unset (R119, log 43). -/
def State.shownWatts (s : State) (kept : Option Nat) : Option Nat :=
  if s.seq.currentBand.isSome then kept else none

/-- What Query MEASURE returns (R119). W_fwd and W_ref are those of the scan's completion: R126 gives a scan completed
before a SetBand the old FS (DEDUCED, log 43). -/
def State.measureView (s : State) : MeasureView where
  scan := s.msr.scan
  forward := s.shownWatts s.msr.forward
  reflected := s.shownWatts s.msr.reflected
  lastReflection := s.msr.lastReflection
  factor := s.msr.factor
  reported := s.msr.reported
  peak := s.msr.peak
  overcurrent := decide (s.msr.limits.current < s.msr.scan.pai.val)
  overcurrentCount := s.msr.overcurrentCount
  overtemp := s.msr.overtemp
  overtempCount := s.msr.overtempCount
  supply := s.msr.supply
  supplyCount := s.msr.supplyCount
  limits := s.msr.limits

/-- QUERY_MEASURE (R119). -/
def execQueryMeasure (tag actor : Nat) (s : State) : Host.Outcome State Fault Refusal :=
  .next (s.takeQuery tag actor fun s => shows (.queryMeasure s.measureView) s)

/-- The test of presence of R135, as Query FAULTS asks it for the latched-trip and hold kinds. -/
def State.presences (s : State) : List Bool :=
  [decide (s.seq.state = .exciting), decide (s.msr.limits.current < s.msr.scan.pai.val),
    s.functionActive .extFault, s.msr.overtemp, s.msr.supply]

/-- What Query FAULTS returns (R138). -/
def State.faultsView (s : State) : FaultsView where
  faults := s.prt.faults
  killLatch := s.prt.killLatch
  kill := s.inr.kill.debounced
  commissioned := s.prt.commissioned
  station := s.prt.station
  present := s.presences

/-- QUERY_FAULTS (R138). -/
def execQueryFaults (tag actor : Nat) (s : State) : Host.Outcome State Fault Refusal :=
  .next (s.takeQuery tag actor fun s => shows (.queryFaults s.faultsView) s)

/-- QUERY_COUNTERS (R169). -/
def execQueryCounters (tag actor : Nat) (s : State) : Host.Outcome State Fault Refusal :=
  .next (s.takeQuery tag actor fun s =>
    shows (.counts ((numbers 6).map fun i => (s.acu.counters.read i).value)) s)

/-- QUERY_RECORDS: up to six records from a number on (R171). -/
def execQueryRecords (tag actor start : Nat) (s : State) : Host.Outcome State Fault Refusal :=
  .next (s.takeQuery tag actor fun s =>
    let l := s.acu.records
    shows (.queryRecords (l.head?.map (·.number)) (l.getLast?.map (·.number))
      ((l.filter fun r => decide (start ≤ r.number)).take 6)) s)

/-! ### QUEUE -/

/-- The first failed condition of R24 for a WAITING slot (R25). -/
def State.failed (s : State) (w : SlotId) (r : RequestRec) : Option QueueFail :=
  if (s.identity w).heldBack = true then some .heldBack
  else if s.permit w r.band r.emission = false then some .notPermitted
  else if s.exhausted w = true then some .exhausted
  else none

/-- Puts a slot into a list in grant order (R25). -/
def State.insertRanked (s : State) (w : SlotId) : List SlotId → List SlotId
  | [] => [w]
  | v :: rest => if s.beats w v then w :: v :: rest else v :: s.insertRanked w rest

/-- Some slots in grant order (R25). -/
def State.ranked (s : State) (l : List SlotId) : List SlotId := l.foldr s.insertRanked []

/-- The entry of a WAITING slot (R25). -/
def State.queueEntry (s : State) (w : SlotId) : Option QueueEntry :=
  (s.tenancy w).record.map fun r =>
    ⟨w, (s.classOf w).priority, s.arb.ranks.read w, r.mark, r, s.failed w r⟩

/-- The WAITING slots, the eligible ones first, each group in grant order (R25). -/
def State.queueList (s : State) : List QueueEntry :=
  let waiting := (numbers 32).filter fun w => (s.tenancy w).record.isSome
  (s.ranked (waiting.filter s.eligible) ++ s.ranked (waiting.filter fun w => !s.eligible w)).filterMap s.queueEntry

/-- QUERY_QUEUE: up to 16 entries from a start position 0 to 31 on (R25, R187). -/
def execQueryQueue (tag actor start : Nat) (s : State) : Host.Outcome State Fault Refusal :=
  .next (s.takeQuery tag actor fun s =>
    match indexOf 32 start with
    | some i => shows (.queryQueue s.queueList.length ((s.queueList.drop i.val).take 16)) s
    | none => refuse .badArgument s)

/-! ### EVENTS, PROFILE, INPUTS -/

/-- QUERY_EVENTS (R187). -/
def execQueryEvents (tag actor : Nat) (s : State) : Host.Outcome State Fault Refusal :=
  .next (s.takeQuery tag actor fun s =>
    shows (.queryEvents s.lnk.flags s.lnk.reportEnable s.lnk.attnEnable s.lnk.reports.length s.lnk.lost
      s.lnk.errors) s)

/-- QUERY_PROFILE (R52). -/
def execQueryProfile (tag actor : Nat) (s : State) : Host.Outcome State Fault Refusal :=
  .next (s.takeQuery tag actor fun s =>
    shows (.queryProfile s.seq.active s.seq.staged s.seq.changePending) s)

/-- What Query INPUTS returns (R173). -/
def State.inputsView (s : State) : InputsView where
  inputs := (numbers 4).map fun i => (s.inr.inputs.read i, (s.inr.inputs.read i).active)
  functions := [.localPtt, .localKey, .localRequest, .ampReady, .extFault].map fun f =>
    (s.functionActive f, (s.routed f).length)
  kill := s.inr.kill
  killLatch := s.prt.killLatch

/-- QUERY_INPUTS (R173). -/
def execQueryInputs (tag actor : Nat) (s : State) : Host.Outcome State Fault Refusal :=
  .next (s.takeQuery tag actor fun s => shows (.queryInputs s.inputsView) s)

end Sys2Proof.Machine
end

