-- ==== Sys2Proof/Machine/Measure.lean ====
section
/-! DEFINITION. The scan: watts and peak, foldback, the reflection trip and the three conditions (R117 to R131). -/

namespace Sys2Proof.Machine

/-! ### Watts and foldback (R119, R122 to R124) -/

/-- The watts of a code with the coupler full scale of SEQ's current band, absent while it is unset (R119). -/
def State.watts (s : State) (c : Code) : Option Nat :=
  s.seq.currentBand.map fun b => c.val * (s.drv.bands.read b).fullScale / 1023

/-- The reflection in per mille (R122, step 2). -/
def reflection (f r : Code) : Nat := 1000 * r.val / f.val

/-- The factor aimed at for a reflection below the trip (R122, step 4). -/
def factorAimed (l : Limits) (r : Nat) : Nat :=
  if r ≤ l.rStart then 256 else 256 - (r - l.rStart) * (256 - l.fMin) / (l.rTrip - l.rStart)

/-- The factor after a scan that aims at `aimed`: a drop at once, a recovery of at most one step (R122, steps 5 to
7). -/
def factorAfter (step factor aimed : Nat) : Nat :=
  if aimed < factor then aimed else if factor < aimed then min aimed (factor + step) else factor

/-- What a scan finds out about the transmission it was completed in: its kind and the holder slot, absent for ID
(R118, R124, R127). -/
structure Judged where
  kind : TxKind
  slot : Option SlotId
  deriving DecidableEq, Repr

/-- The transmission that EXCITING belongs to at a scan's completion, if SEQ is EXCITING (R118). -/
def State.judged (s : State) : Option Judged :=
  if s.seq.state = .exciting then
    s.seq.tx.map fun x =>
      match x.kind with
      | .member w => ⟨x.kind, some w⟩
      | .ident => ⟨x.kind, none⟩
  else none

/-- The peak forward watts after a scan while EXCITING (R120). -/
def State.updatePeak (f : Code) (s : State) : State :=
  match s.watts f with
  | some w => { s with msr := { s.msr with peak := max s.msr.peak w } }
  | none => s

/-- The reflection is judged (R122, R123, R127). -/
def State.judgeReflection (j : Judged) (f r : Code) (s : State) : State :=
  if f.val < s.msr.limits.floor then s
  else
    let x := reflection f r
    let s := { s with msr := { s.msr with lastReflection := some x } }
    if s.msr.limits.rTrip ≤ x then s.occur .swrTrip j.slot (some r)
    else
      let n := factorAfter s.msr.limits.step s.msr.factor (factorAimed s.msr.limits x)
      if n = s.msr.factor then s else (s.setFactor n).recompute

/-- FOLDBACK is raised at the first scan of a transmission after whose steps the factor is below 256 (R124; after a
trip scan too, log 15). -/
def State.reportFoldback (j : Judged) (band : Option BandId) (f r : Code) (floor : Nat) (s : State) : State :=
  if s.msr.factor < Config.fullFactor ∧ s.msr.reported = false then
    State.raise (.foldback j.kind band f r (if f.val < floor then none else some (reflection f r)) s.msr.factor)
      { s with msr := { s.msr with reported := true } }
  else s

/-- Step 2 of R118 for a scan completed while EXCITING. -/
def State.scanExciting (j : Judged) (f r : Code) (s : State) : State :=
  ((s.updatePeak f).judgeReflection j f r).reportFoldback j s.seq.currentBand f r s.msr.limits.floor

/-! ### Conditions (R128 to R131) -/

/-- Whether one more qualifying scan reaches N (R128). -/
def State.reaches (s : State) (count : Nat) : Bool := decide (s.msr.limits.scans ≤ count + 1)

/-- PA_OVERCURRENT's flag follows each scan (R137). -/
def State.followCurrent (pai : Code) (s : State) : State :=
  { s with prt := { s.prt with
    faults := s.prt.faults.map fun r =>
      if r.kind = .paOvercurrent then { r with present := decide (s.msr.limits.current < pai.val) } else r } }

/-- The over-current condition (R129). -/
def State.judgeCurrent (j : Option Judged) (pai : Code) (s : State) : State :=
  let s := s.followCurrent pai
  match j with
  | some x =>
    if pai.val ≤ s.msr.limits.current then { s with msr := { s.msr with overcurrentCount := 0 } }
    else if s.reaches s.msr.overcurrentCount then
      State.occur .paOvercurrent x.slot (some pai) { s with msr := { s.msr with overcurrentCount := 0 } }
    else { s with msr := { s.msr with overcurrentCount := s.msr.overcurrentCount + 1 } }
  | none => { s with msr := { s.msr with overcurrentCount := 0 } }

/-- A scan qualifies for the change the over-temperature condition waits for (R130). -/
def State.tempQualifies (s : State) (pat : Code) : Bool :=
  if s.msr.overtemp = true then decide (pat.val ≤ s.msr.limits.temperature - s.msr.limits.hysteresis)
  else decide (s.msr.limits.temperature < pat.val)

/-- The over-temperature condition (R130). -/
def State.judgeTemp (pat : Code) (s : State) : State :=
  if s.tempQualifies pat = false then { s with msr := { s.msr with overtempCount := 0 } }
  else if s.reaches s.msr.overtempCount = false then
    { s with msr := { s.msr with overtempCount := s.msr.overtempCount + 1 } }
  else if s.msr.overtemp then
    (State.conditionGone .paOvertemp { s with msr := { s.msr with overtemp := false, overtempCount := 0 } }).derive
      .holdGone none
  else
    State.occur .paOvertemp s.holder (some pat) { s with msr := { s.msr with overtemp := true, overtempCount := 0 } }

/-- VSUP is outside the window (R131). -/
def State.supplyOut (s : State) (vsup : Code) : Bool :=
  decide (vsup.val < s.msr.limits.supplyLow ∨ s.msr.limits.supplyHigh < vsup.val)

/-- The supply-window condition (R131): present, it waits for a scan within the window; absent, for one outside. -/
def State.judgeSupply (vsup : Code) (s : State) : State :=
  if s.supplyOut vsup = s.msr.supply then { s with msr := { s.msr with supplyCount := 0 } }
  else if s.reaches s.msr.supplyCount = false then
    { s with msr := { s.msr with supplyCount := s.msr.supplyCount + 1 } }
  else if s.msr.supply then
    (State.conditionGone .supplyWindow { s with msr := { s.msr with supply := false, supplyCount := 0 } }).derive
      .holdGone none
  else
    State.occur .supplyWindow s.holder (some vsup) { s with msr := { s.msr with supply := true, supplyCount := 0 } }

/-! ### The scan (R118) -/

/-- The start of the scan that completes next: the multiple of 10 ms that is due, or a later one that the clock has
passed already (log 19). -/
def State.scanStart (s : State) : Clock :=
  let now : Clock := s.clock - s.clock % 10
  if reached s.msr.nextScan now then s.msr.nextScan else now

/-- The next multiple of 10 after a scan's start, across the clock's wrap (log 19). -/
def nextScanAfter (t : Clock) : Clock := if t = 4294967290 then 0 else t + 10

/-- The steps of a scan's completion (R118). Of step 3's three conditions the model takes over-current first, then
temperature, then supply, each with all its effects before the next (DESIGN CHOICE, log 44): R118 cites R128 to R131
and gives no order among them. -/
def State.completeScan (f r pai pat vsup : Code) (s : State) : State :=
  let start := s.scanStart
  let s := (s.bringTo start).onTime
  let s := { s with msr := { s.msr with
    scan := ⟨f, r, pai, pat, vsup, start⟩, forward := s.watts f, reflected := s.watts r
    nextScan := nextScanAfter start } }
  let j := s.judged
  let s := match j with
    | some x => s.scanExciting x f r
    | none => s
  ((s.judgeCurrent j pai).judgeTemp pat).judgeSupply vsup

/-- SCAN_COMPLETION (R118). While RST is asserted no scan completes. -/
def execScanCompletion (f r pai pat vsup : Code) (s : State) : Host.Outcome State Fault Refusal :=
  .next (if s.rst then s else (s.completeScan f r pai pat vsup).settle)

end Sys2Proof.Machine
end

