-- ==== Sys2Proof/Machine/Member.lean ====
section
/-! DEFINITION. The meanings of the member requests. -/

namespace Sys2Proof.Machine

/-! ### Request, Withdraw, Release, Presence (R18 to R22) -/

/-- The request record of a Request frame, unless an index or a code is invalid (R18, check 1). -/
def frameRequest? (band emission power mode : Nat) : Option RequestRec := do
  let b ← indexOf 12 band
  let e ← emissionOf emission
  let m ← modeOf mode
  return ⟨b, e, clampWatts power, m, .frame, false⟩

/-- Why a Request is refused, if it is (R18, checks 2 to 4). -/
def State.requestRefusal (s : State) (w : SlotId) (r : RequestRec) : Option Status :=
  if s.tenancy w = .holding then some .wrongState
  else if s.permit w r.band r.emission = false then some .notPermitted
  else if s.exhausted w then some .noAllowance
  else none

/-- Request (R18, R19). -/
def State.request (band emission power mode : Nat) (w : SlotId) (s : State) : Handled :=
  match frameRequest? band emission power mode with
  | none => refuse .badArgument s
  | some r =>
    match s.requestRefusal w r with
    | some x => refuse x s
    | none =>
      let s := ((s.leaveOpen w).setTenancy w (.waiting r)).arbitrateIfFree.settle
      ⟨s, okStatus (outside 1 4000 power), .requestState (s.tenancy w).shown⟩

/-- REQUEST (R18, R19). -/
def execRequest (tag actor band emission power mode : Nat) (s : State) : Host.Outcome State Fault Refusal :=
  .next (s.takeOwn 0x20 tag actor (State.request band emission power mode))

/-- Withdraw (R20). -/
def State.withdraw (w : SlotId) (s : State) : Handled :=
  match s.tenancy w with
  | .waiting _ => done ((s.setTenancy w .opened).stopPresence w)
  | _ => refuse .wrongState s

/-- WITHDRAW (R20). -/
def execWithdraw (tag actor : Nat) (s : State) : Host.Outcome State Fault Refusal :=
  .next (s.takeOwn 0x21 tag actor State.withdraw)

/-- Release (R21). -/
def State.release (w : SlotId) (s : State) : Handled :=
  if s.holdsTurn w then done (s.turnEnd .released).settle else refuse .wrongState s

/-- RELEASE (R21). -/
def execRelease (tag actor : Nat) (s : State) : Host.Outcome State Fault Refusal :=
  .next (s.takeOwn 0x22 tag actor State.release)

/-- PRESENCE: answered OK; the frame itself restarts the timer (R22). -/
def execPresence (tag actor : Nat) (s : State) : Host.Outcome State Fault Refusal :=
  .next (s.takeOwn 0x23 tag actor fun _ s => done s)

/-! ### PttOn and PttOff (R54, R55) -/

/-- The turn slot `w` holds. -/
def State.turnOf (s : State) (w : SlotId) : Option Turn :=
  match s.turn with
  | some t => if t.holder = w then some t else none
  | none => none

/-- PttOn (R54). -/
def State.pttOn (w : SlotId) (s : State) : Handled :=
  match s.turnOf w with
  | none => refuse .wrongState s
  | some t =>
    if t.emission = .cw then refuse .wrongState s
    else if s.ready = false then refuse .held s
    else
      let p := State.memberStart { s with seq := { s.seq with pttDemand := true } }
      ⟨p.1.settle, .ok, .ptt p.2⟩

/-- PTT_ON (R54). -/
def execPttOn (tag actor : Nat) (s : State) : Host.Outcome State Fault Refusal :=
  .next (s.takeOwn 0x24 tag actor State.pttOn)

/-- LOCAL_PTT keeps slot 0's demand active (R55). -/
def State.localDemand (s : State) (w : SlotId) : Bool := decide (w = 0) && s.functionActive .localPtt

/-- PttOff (R55): the flag is cleared, and the demand, inactive from now on unless LOCAL_PTT keeps it, takes effect. It
does so also where the end of an identification had cleared the flag before (R162; log 31). -/
def State.pttOff (w : SlotId) (s : State) : Handled :=
  match s.turnOf w with
  | none => refuse .wrongState s
  | some t =>
    if t.emission = .cw then refuse .wrongState s
    else
      let s := { s with seq := { s.seq with pttDemand := false } }
      done (if s.localDemand w then s else s.demandInactive .pttOff).settle

/-- PTT_OFF (R55). -/
def execPttOff (tag actor : Nat) (s : State) : Host.Outcome State Fault Refusal :=
  .next (s.takeOwn 0x25 tag actor State.pttOff)

/-! ### SetPower and Retune (R68, R115) -/

/-- SetPower (R115). -/
def State.setPower (power : Nat) (w : SlotId) (s : State) : Handled :=
  match s.turnOf w with
  | none => refuse .wrongState s
  | some _ =>
    let p := clampWatts power
    let recomputes := s.memberExciting
    let s := (s.modTurn fun t => { t with power := p }).recomputeMember
    let a := s.drv.applied
    ⟨s, okStatus (outside 1 4000 power),
      .power p (if recomputes then some (a.target, a.effective, a.drive) else none)⟩

/-- SET_POWER (R115). -/
def execSetPower (tag actor power : Nat) (s : State) : Host.Outcome State Fault Refusal :=
  .next (s.takeOwn 0x27 tag actor (State.setPower power))

/-- The new emission of a Retune (R68): leaving CW flushes the timeline (R92), and entering CW clears the PTT demand
(with a band change as well, log 21). -/
def State.changeEmission (old new : Emission) (s : State) : State :=
  let s := s.modTurn fun t => { t with emission := new }
  if old = new then s
  else if old = .cw then s.flushTurnKeys
  else if new = .cw then { s with seq := { s.seq with pttDemand := false } }.syncKey
  else s

/-- The band of a Retune (R67, R68): the turn moves to TUNING, which stops the idle hang and flushes the timeline, and
SEQ enters RETUNE. -/
def State.changeBand (b : BandId) (s : State) : State :=
  ((s.modTurn fun t => { t with band := b, sub := .tuning, idleStart := none }).flushTurnKeys).enterRetune b

/-- Retune (R68). -/
def State.retune (band emission : Nat) (w : SlotId) (s : State) : Handled :=
  match indexOf 12 band, emissionOf emission with
  | some b, some e =>
    match s.turnOf w with
    | none => refuse .wrongState s
    | some t =>
      if s.permit w b e = false then refuse .notPermitted s
      else if t.sub ≠ .active ∨ s.seq.state ≠ .quiet then refuse .busy s
      else
        let s := s.changeEmission t.emission e
        done (if b = t.band then s else s.changeBand b).settle
  | _, _ => refuse .badArgument s

/-- RETUNE (R68). -/
def execRetune (tag actor band emission : Nat) (s : State) : Host.Outcome State Fault Refusal :=
  .next (s.takeOwn 0x28 tag actor (State.retune band emission))

/-! ### KeyEvents (R75 to R86) -/

/-- What became of a key event. -/
inductive KeyFate where
  | queued | played | ignored | discarded
  deriving DecidableEq, Repr

/-- A key event is lost; only a DOWN raises KEYING_LOSS but for OVERRUN, which either direction raises (R79 to
R83). -/
def State.loseKey (reason : LossReason) (dir : Key) (stamp : KeyTime) (value : Option Nat) (s : State) : State :=
  if dir = .down ∨ reason = .overrun then
    s.raise (.keyingLoss reason s.holder (some dir) (some stamp) value)
  else s

/-- The last accepted direction (R76, test 2). -/
def State.lastDirection (s : State) : Key :=
  match s.ktl.timeline.getLast? with
  | some e => e.dir
  | none => s.ktl.state

/-- The holder's start for an accepted DOWN, taken as far as it goes at once (R86). -/
def State.startFor (dir : Key) (s : State) : State := if dir = .down then s.memberStart.1.settle else s

/-- An accepted event's time becomes the last accepted time; a DOWN stops the burst-gap timer (R76, R89). -/
def State.acceptKey (dir : Key) (at_ : KeyTime) (s : State) : State :=
  { s with ktl := { s.ktl with
    burst := s.ktl.burst.map (fun b : Burst => { b with last := at_ })
    burstGap := if dir = .down then none else s.ktl.burstGap } }

/-- An event joins the newest end of the timeline; one that is due plays at once (R80). -/
def State.queueKey (e : KeyEntry) (s : State) : State :=
  let s := { s with ktl := { s.ktl with timeline := s.ktl.timeline ++ [e] } }.syncKey
  ((s.acceptKey e.dir e.at_).startFor e.dir).playAllDue

/-- An event is played at arrival (R80). -/
def State.playKey (e : KeyEntry) (s : State) : State :=
  ((s.acceptKey e.dir e.at_).startFor e.dir).playEvent e

/-- A DOWN opens a burst (R77). -/
def State.openBurst (stamp now : KeyTime) (s : State) : State :=
  let offset := now - stamp + BitVec.ofNat 16 s.ktl.params.playoutDelay
  { s with ktl := { s.ktl with burst := some ⟨offset, stamp + offset⟩, burstGap := none } }

/-- Tests 5 and 6 of R76 for an event at time `e.at_`. -/
def State.timeKey (now : KeyTime) (e : KeyEntry) (s : State) : State × KeyFate :=
  let late := (now - e.at_).toInt
  if late ≤ 0 then
    if Config.timelineCapacity ≤ s.ktl.timeline.length then
      (s.loseKey .overrun e.dir e.stamp (some e.at_.toNat), .discarded)
    else (s.queueKey e, .queued)
  else if e.dir = .up ∨ late ≤ s.ktl.params.lateAllowance then (s.playKey e, .played)
  else (s.loseKey .late e.dir e.stamp (some late.toNat), .discarded)

/-- KTL takes one event of an accepted frame (R76). -/
def State.takeKey (now : KeyTime) (dir : Key) (stamp : KeyTime) (s : State) : State × KeyFate :=
  match s.turn with
  | none => (s, .discarded)
  | some t =>
    if t.sub ≠ .active then (s.loseKey .notActive dir stamp none, .discarded)
    else if dir = s.lastDirection then (s, .ignored)
    else
      match s.ktl.burst with
      | none =>
        (s.openBurst stamp now).timeKey now ⟨dir, now + BitVec.ofNat 16 s.ktl.params.playoutDelay, stamp⟩
      | some b =>
        let at_ := stamp + b.offset
        if (at_ - b.last).toInt < 0 then (s.loseKey .outOfOrder dir stamp (some at_.toNat), .discarded)
        else s.timeKey now ⟨dir, at_, stamp⟩

/-- KTL takes the events of a frame in the order listed, at one value of now (R75). -/
def State.takeKeys (now : KeyTime) : List (Key × KeyTime) → State → State × List KeyFate
  | [], s => (s, [])
  | (d, t) :: rest, s =>
    let p := s.takeKey now d t
    let q := p.1.takeKeys now rest
    (q.1, p.2 :: q.2)

/-- The directions and timestamps of a KeyEvents payload, unless a direction code is invalid (R75, check 1). -/
def keyList? : List (Nat × KeyTime) → Option (List (Key × KeyTime))
  | [] => some []
  | (d, t) :: rest =>
    match keyOf d, keyList? rest with
    | some k, some l => some ((k, t) :: l)
    | _, _ => none

/-- How many events met a fate. -/
def tally (l : List KeyFate) (f : KeyFate) : Nat := (l.filter fun x => decide (x = f)).length

/-- KeyEvents (R75). Entries whose time has already been reached play before the frame is taken (log 20). -/
def State.keyEvents (events : List (Nat × KeyTime)) (w : SlotId) (s : State) : Handled :=
  match keyList? events with
  | none => refuse .badArgument s
  | some l =>
    if l.length = 0 ∨ 80 < l.length then refuse .badArgument s
    else
      match s.turnOf w with
      | none => refuse .wrongState s
      | some t =>
        if t.emission ≠ .cw then refuse .wrongState s
        else if s.ready = false then refuse .held s
        else
          let s := s.playAllDue
          let p := s.takeKeys s.keyNow l
          let s := p.1.settle
          ⟨s, .ok, .keyEvents (tally p.2 .queued) (tally p.2 .played) (tally p.2 .ignored) (tally p.2 .discarded)
            s.ktl.timeline.length (s.ktl.burst.map (·.offset))⟩

/-- KEY_EVENTS (R75). -/
def execKeyEvents (tag actor : Nat) (events : List (Nat × KeyTime)) (s : State) : Host.Outcome State Fault Refusal :=
  .next (s.takeOwn 0x26 tag actor (State.keyEvents events))

end Sys2Proof.Machine
end

