-- ==== Sys2Proof/Machine/Timers.lean ====
section
/-! DEFINITION. The meanings of the timer expiries, the ticks and the changes of the wired inputs. An occurrence
commanded while its timer does not run has no effect; one commanded before its instant brings the station clock
forward to it (log 1); while RST is asserted no timer runs (log 6). -/

namespace Sys2Proof.Machine

/-! ### When an occurrence comes -/

/-- What comes about at the instant that `due` names, if it names one: the tenths of air time that are complete at that
instant come first (R165, R172), and they may take the instant away, as when the exhausting one ends the turn. -/
def State.atInstant (due : State → Option Clock) (act : State → State) (s : State) : State :=
  match due s with
  | some t =>
    if s.rst then s
    else
      let u := (s.bringTo t).onTime
      if due u = some t then act u else u
  | none => s

/-- What comes about when a timer expires, if it runs. -/
def State.onExpiry (timer : State → Option Timer) (act : State → State) (s : State) : State :=
  s.atInstant (fun s => (timer s).map Timer.due) act

/-- As `onExpiry`, and what comes about at once. -/
def State.onExpirySettled (timer : State → Option Timer) (act : State → State) (s : State) : State :=
  s.onExpiry timer fun s => (act s).settle

/-! ### Station time (R1, R165, R168) -/

/-- STATION_SECOND_TICK: a further 1,000 ms of the station clock have passed (R1). The second is counted as the clock
reaches it. -/
def execStationSecondTick (s : State) : Host.Outcome State Fault Refusal :=
  .next (if s.rst then s else (s.bringTo (s.secondAt + 1000)).onTime.countSeconds)

/-- AIR_TIME_TENTH: a further 100 ms of EXCITING have passed (R165, R166). -/
def execAirTimeTenth (s : State) : Host.Outcome State Fault Refusal :=
  .next (s.atInstant State.tenthDue id)

/-- A residency counter of which a tenth is complete gains 1; at its top its remainder stands at 0 (R168). -/
def Counter.tenth (c : Counter) : Counter :=
  if c.value + 1 = max32 then ⟨max32, 0, 0⟩ else { c with value := c.value + 1, owed := c.owed - 1 }

/-- Writes the residency counter of number `i`. -/
def State.setCounter (i : Fin 6) (c : Counter) (s : State) : State :=
  { s with acu := { s.acu with counters := s.acu.counters.write i c } }

/-- The station clock passes to the completion of a counter's tenth, if its condition holds (R168). -/
def State.toTenth (r : Residency) (s : State) : State :=
  let c := s.acu.counters.read (resIndex r)
  if c.owed = 0 ∧ c.value < max32 ∧ s.resides r = true then s.elapse (100 - c.remainder) else s

/-- A tenth that is complete is added (R168; log 8). -/
def State.addTenth (r : Residency) (s : State) : State :=
  let c := s.acu.counters.read (resIndex r)
  if 0 < c.owed ∧ c.value < max32 then s.setCounter (resIndex r) c.tenth else s

/-- RESIDENCY_TENTH (R168). -/
def execResidencyTenth (r : Residency) (s : State) : Host.Outcome State Fault Refusal :=
  .next (if s.rst then s else (s.toTenth r).onTime.addTenth r)

/-! ### ARB's timers (R22, R28, R33, R34) -/

/-- A presence timer has expired (R22). -/
def State.presenceLost (w : SlotId) (s : State) : State :=
  let s := s.stopPresence w
  if s.holdsTurn w then s.turnEnd .presenceLost else s.dropRequest .presence w

/-- PRESENCE_EXPIRY (R22). -/
def execPresenceExpiry (w : SlotId) (s : State) : Host.Outcome State Fault Refusal :=
  .next (s.onExpirySettled (fun s => s.arb.presence.read w) (State.presenceLost w))

/-- GAP_EXPIRY (R28). -/
def execGapExpiry (s : State) : Host.Outcome State Fault Refusal :=
  .next (s.onExpirySettled (fun s => s.arb.gap) State.gapExpires)

/-- The turn limit as a timer (R33). -/
def State.turnTimer (s : State) : Option Timer :=
  s.turn.map fun t => ⟨t.grantClock, (s.classOf t.holder).turnLimit * 60000⟩

/-- TURN_LIMIT_EXPIRY (R33). -/
def execTurnLimitExpiry (s : State) : Host.Outcome State Fault Refusal :=
  .next (s.onExpirySettled State.turnTimer (State.turnEnd .turnLimit))

/-- The idle hang as a timer, while it runs (R34). -/
def State.idleTimer (s : State) : Option Timer :=
  match s.turn with
  | some t => t.idleStart.map fun i => ⟨i, (s.classOf t.holder).idleHang * 1000⟩
  | none => none

/-- IDLE_HANG_EXPIRY (R34). -/
def execIdleHangExpiry (s : State) : Host.Outcome State Fault Refusal :=
  .next (s.onExpirySettled State.idleTimer (State.turnEnd .idle))

/-! ### SEQ's timers (R58, R59, R63, R64, R67) -/

/-- The step timer, while SEQ is in the state whose wait it measures. -/
def State.stepIn (s : State) (x : SeqState) : Option Timer := if s.seq.state = x then s.seq.step else none

/-- The wait of the present state ends. -/
def State.stepEnds (s : State) : State := State.advance { s with seq := { s.seq with step := none } }

/-- RELAY_ON_EXPIRY: to ARM_AMP (R58, R59). -/
def execRelayOnExpiry (s : State) : Host.Outcome State Fault Refusal :=
  .next (s.onExpirySettled (fun s => s.stepIn .armRelay) State.stepEnds)

/-- AMP_ON_EXPIRY: to EXCITING (R59, R60). -/
def execAmpOnExpiry (s : State) : Host.Outcome State Fault Refusal :=
  .next (s.onExpirySettled (fun s => s.stepIn .armAmp) State.stepEnds)

/-- TAIL_EXPIRY: to DISARM_AMP (R63). -/
def execTailExpiry (s : State) : Host.Outcome State Fault Refusal :=
  .next (s.onExpirySettled (fun s => s.stepIn .drain) State.stepEnds)

/-- AMP_OFF_EXPIRY: to DISARM_RELAY (R63). -/
def execAmpOffExpiry (s : State) : Host.Outcome State Fault Refusal :=
  .next (s.onExpirySettled (fun s => s.stepIn .disarmAmp) State.stepEnds)

/-- RELAY_OFF_EXPIRY: to QUIET (R63). -/
def execRelayOffExpiry (s : State) : Host.Outcome State Fault Refusal :=
  .next (s.onExpirySettled (fun s => s.stepIn .disarmRelay) State.stepEnds)

/-- BAND_SETTLE_EXPIRY: to QUIET, and the turn to ACTIVE (R67). -/
def execBandSettleExpiry (s : State) : Host.Outcome State Fault Refusal :=
  .next (s.onExpirySettled (fun s => s.stepIn .retune) State.stepEnds)

/-- The transmission limit as a timer, while it runs (R64). -/
def State.limitTimer (s : State) : Option Timer :=
  match s.seq.tx, s.turn with
  | some x, some t =>
    if s.memberExciting then x.limitStart.map fun l => ⟨l, (s.classOf t.holder).txLimit * 1000⟩ else none
  | _, _ => none

/-- TX_LIMIT_EXPIRY (R64). -/
def execTxLimitExpiry (s : State) : Host.Outcome State Fault Refusal :=
  .next (s.onExpirySettled State.limitTimer (State.endMemberTx .txLimit))

/-! ### KTL's timers (R84, R88 to R90) -/

/-- The station clock at which the oldest timeline entry's time is reached (R84). -/
def State.playDueAt (s : State) : Option Clock :=
  s.ktl.timeline.head?.map fun e => s.clock + BitVec.ofNat 32 (sinceMs e.at_ s.keyNow)

/-- The oldest timeline entry plays (R84). -/
def State.playOldest (s : State) : State :=
  match s.ktl.timeline with
  | [] => s
  | e :: rest => { s with ktl := { s.ktl with timeline := rest } }.playEvent e

/-- PLAYOUT (R84). -/
def execPlayout (s : State) : Host.Outcome State Fault Refusal :=
  .next (s.atInstant State.playDueAt fun s => s.playOldest.settle)

/-- HANG_EXPIRY (R88). -/
def execHangExpiry (s : State) : Host.Outcome State Fault Refusal :=
  .next (s.onExpirySettled (fun s => s.ktl.hang) (State.endMemberTx .cwHang))

/-- BURST_GAP_EXPIRY: the burst closes (R89). -/
def execBurstGapExpiry (s : State) : Host.Outcome State Fault Refusal :=
  .next (s.onExpiry (fun s => s.ktl.burstGap) fun s => { s with ktl := { s.ktl with burst := none, burstGap := none } })

/-- The stuck-key guard (R90). -/
def State.stuckKey (s : State) : State :=
  let s := s.flushKeys
  let s := if s.keyState = .down then { s with ktl := { s.ktl with suppression := true } } else s
  let s := s.keyUpAtRest
  let s := s.occur .stuckKey s.holder none
  s.raise (.keyingLoss .stuck s.holder none none none)

/-- STUCK_KEY_EXPIRY (R90). -/
def execStuckKeyExpiry (s : State) : Host.Outcome State Fault Refusal :=
  .next (s.onExpirySettled (fun s => s.ktl.stuck) State.stuckKey)

/-! ### AMG's timers (R104, R106) -/

/-- The warm-up timer has expired: to ON with no input routed to AMP_READY, to FAILED with one (R104). -/
def State.warmEnds (s : State) : State :=
  if s.isRouted .ampReady then (s.ampTo .failed .noReady).occur .ampNoReady none none else s.ampTo .on .warmTime

/-- WARM_UP_EXPIRY (R104). -/
def execWarmUpExpiry (s : State) : Host.Outcome State Fault Refusal :=
  .next (s.onExpirySettled (fun s => s.amg.warm) State.warmEnds)

/-- AMP_IDLE_EXPIRY (R106). -/
def execAmpIdleExpiry (s : State) : Host.Outcome State Fault Refusal :=
  .next (s.onExpiry (fun s => s.amg.idle) (State.ampTo .off .idle))

/-! ### IDU's timers (R154 to R159) -/

/-- The due flag is set at the interval's end while owed (R154); the claim follows if a member turn exists, and a
grace of 0 ends a running transmission at once (R157). -/
def State.fallsDue (s : State) : State :=
  let s := { s with idu := { s.idu with interval := none } }
  if s.idu.owed then
    let s := { s with idu := { s.idu with
      due := true, dueTime := some s.seconds
      deadlineAt := s.clock + BitVec.ofNat 32 (s.idu.params.grace * 1000) } }
    let s := (s.raise (.idDue s.seconds s.holder s.running)).claimTurn
    if s.idu.claim = .atTxEnd ∧ s.deadlinePast = true then s.endMemberTx .idDeadline else s
  else s

/-- INTERVAL_EXPIRY (R154). -/
def execIntervalExpiry (s : State) : Host.Outcome State Fault Refusal :=
  .next (s.onExpirySettled (fun s => s.idu.interval) State.fallsDue)

/-- The instant of the deadline, while its timer runs (R157). -/
def State.deadlineDue (s : State) : Option Clock := if s.idu.deadlineRuns then some s.idu.deadlineAt else none

/-- The deadline has come: a holder's transmission that is still running is ended with ID_DEADLINE (R157). -/
def State.deadline (s : State) : State :=
  let s := { s with idu := { s.idu with deadlineRuns := false } }
  if s.running then s.endMemberTx .idDeadline else s

/-- DEADLINE_EXPIRY (R157). -/
def execDeadlineExpiry (s : State) : Host.Outcome State Fault Refusal :=
  .next (s.atInstant State.deadlineDue fun s => s.deadline.settle)

/-- The quiet timer has expired: IDU asks for an ID turn (R155, R156). -/
def State.quietEnds (s : State) : State :=
  let s := { s with idu := { s.idu with quiet := none } }
  if s.idTurnOpen then s.enterIdTurn else s

/-- QUIET_EXPIRY (R155). -/
def execQuietExpiry (s : State) : Host.Outcome State Fault Refusal :=
  .next (s.onExpirySettled (fun s => s.idu.quiet) State.quietEnds)

/-- The element being keyed ends: the next is keyed, or after the last one the transmission ends with ID_DONE and the
identification completes (R159, R160). -/
def State.elementEnds (s : State) : State :=
  match s.idu.context with
  | some c =>
    let rest := c.todo.tail
    let s := { s with idu := { s.idu with context := some { c with todo := rest }, element := none } }
    if rest = [] then (s.normalEnd .idDone).completeId else s.startElement
  | none => s

/-- ID_ELEMENT_TIMER (R159). -/
def execIdElementTimer (s : State) : Host.Outcome State Fault Refusal :=
  .next (s.onExpirySettled (fun s => s.idu.element) State.elementEnds)

/-! ### Wired inputs (R175, R179) -/

/-- The raw level of an input or of KILL changes. -/
def State.levelChanges (c : LevelChange) (s : State) : State :=
  match c with
  | .wired i high => s.inputLevel i high
  | .kill asserted => s.killLevel asserted

/-- While RST is asserted the contacts change, and nothing is measured (R175). -/
def State.rawChanges (c : LevelChange) (s : State) : State :=
  match c with
  | .wired i high => s.setInputOf i { s.inr.inputs.read i with raw := high }
  | .kill asserted => { s with inr := { s.inr with kill := { s.inr.kill with raw := asserted } } }

/-- INPUT_LEVEL_CHANGE (R175). -/
def execInputLevelChange (c : LevelChange) (s : State) : Host.Outcome State Fault Refusal :=
  .next (if s.rst then s.rawChanges c else (s.onTime.levelChanges c).settle)

/-- The stability measure of input `i` as a timer, while the levels differ (R175). -/
def State.debounceTimer (s : State) (i : InputId) : Option Timer :=
  (s.inr.inputs.read i).since.map fun t => ⟨t, (s.inr.inputs.read i).debounce⟩

/-- DEBOUNCE_EXPIRY (R175). -/
def execDebounceExpiry (i : InputId) (s : State) : Host.Outcome State Fault Refusal :=
  .next (s.onExpirySettled (fun s => s.debounceTimer i) (State.debounced i))

/-- KILL's stability measure as a timer (R179). -/
def State.killTimer (s : State) : Option Timer := s.inr.kill.since.map fun t => ⟨t, Config.killDebounce⟩

/-- KILL_DEBOUNCE_EXPIRY (R179). -/
def execKillDebounceExpiry (s : State) : Host.Outcome State Fault Refusal :=
  .next (s.onExpirySettled State.killTimer State.killDebounced)

end Sys2Proof.Machine
end

