-- ==== Sys2Proof/Machine/Dispatch.lean ====
section
/-! DEFINITION. The meaning of every command: one arm for each row of the table. -/

namespace Sys2Proof.Machine

/-- A command's effect on everything but the queue. -/
def exec (i : Instr) (s : State) : Host.Outcome State Fault Refusal :=
  match i with
  | .restart tag actor => Sys2Proof.Machine.execRestart tag actor s
  | .decommission tag actor => Sys2Proof.Machine.execDecommission tag actor s
  | .commission tag actor => Sys2Proof.Machine.execCommission tag actor s
  | .setStation tag actor a => Sys2Proof.Machine.execSetStation tag actor a s
  | .setClass tag actor a => Sys2Proof.Machine.execSetClass tag actor a s
  | .setBand tag actor a => Sys2Proof.Machine.execSetBand tag actor a s
  | .setCalibration tag actor a => Sys2Proof.Machine.execSetCalibration tag actor a s
  | .stageProfile tag actor a => Sys2Proof.Machine.execStageProfile tag actor a s
  | .setInput tag actor a => Sys2Proof.Machine.execSetInput tag actor a s
  | .setLimits tag actor a => Sys2Proof.Machine.execSetLimits tag actor a s
  | .setEvents tag actor reports attention => Sys2Proof.Machine.execSetEvents tag actor reports attention s
  | .clearEvents tag actor kinds => Sys2Proof.Machine.execClearEvents tag actor kinds s
  | .clearCounters tag actor counters => Sys2Proof.Machine.execClearCounters tag actor counters s
  | .queryStation tag actor => Sys2Proof.Machine.execQueryStation tag actor s
  | .querySlot tag actor slot => Sys2Proof.Machine.execQuerySlot tag actor slot s
  | .queryClass tag actor classIx => Sys2Proof.Machine.execQueryClass tag actor classIx s
  | .queryBand tag actor band => Sys2Proof.Machine.execQueryBand tag actor band s
  | .queryCal tag actor band path => Sys2Proof.Machine.execQueryCal tag actor band path s
  | .queryMeasure tag actor => Sys2Proof.Machine.execQueryMeasure tag actor s
  | .queryFaults tag actor => Sys2Proof.Machine.execQueryFaults tag actor s
  | .queryCounters tag actor => Sys2Proof.Machine.execQueryCounters tag actor s
  | .queryRecords tag actor start => Sys2Proof.Machine.execQueryRecords tag actor start s
  | .queryQueue tag actor start => Sys2Proof.Machine.execQueryQueue tag actor start s
  | .queryEvents tag actor => Sys2Proof.Machine.execQueryEvents tag actor s
  | .queryProfile tag actor => Sys2Proof.Machine.execQueryProfile tag actor s
  | .queryInputs tag actor => Sys2Proof.Machine.execQueryInputs tag actor s
  | .clearFault tag actor kind => Sys2Proof.Machine.execClearFault tag actor kind s
  | .resume tag actor => Sys2Proof.Machine.execResume tag actor s
  | .openSlot tag actor a => Sys2Proof.Machine.execOpenSlot tag actor a s
  | .closeSlot tag actor slot => Sys2Proof.Machine.execCloseSlot tag actor slot s
  | .reclass tag actor slot classIx => Sys2Proof.Machine.execReclass tag actor slot classIx s
  | .setAllowance tag actor slot present allowance => Sys2Proof.Machine.execSetAllowance tag actor slot present allowance s
  | .clearAirtime tag actor slot => Sys2Proof.Machine.execClearAirtime tag actor slot s
  | .request tag actor band emission power mode => Sys2Proof.Machine.execRequest tag actor band emission power mode s
  | .withdraw tag actor => Sys2Proof.Machine.execWithdraw tag actor s
  | .release tag actor => Sys2Proof.Machine.execRelease tag actor s
  | .presence tag actor => Sys2Proof.Machine.execPresence tag actor s
  | .pttOn tag actor => Sys2Proof.Machine.execPttOn tag actor s
  | .pttOff tag actor => Sys2Proof.Machine.execPttOff tag actor s
  | .keyEvents tag actor events => Sys2Proof.Machine.execKeyEvents tag actor events s
  | .setPower tag actor power => Sys2Proof.Machine.execSetPower tag actor power s
  | .retune tag actor band emission => Sys2Proof.Machine.execRetune tag actor band emission s
  | .seize tag actor slot band emission power => Sys2Proof.Machine.execSeize tag actor slot band emission power s
  | .endTurn tag actor slot => Sys2Proof.Machine.execEndTurn tag actor slot s
  | .holdSlot tag actor slot => Sys2Proof.Machine.execHoldSlot tag actor slot s
  | .unholdSlot tag actor slot => Sys2Proof.Machine.execUnholdSlot tag actor slot s
  | .ampOn tag actor => Sys2Proof.Machine.execAmpOn tag actor s
  | .ampOff tag actor => Sys2Proof.Machine.execAmpOff tag actor s
  | .ampReset tag actor => Sys2Proof.Machine.execAmpReset tag actor s
  | .unknownKindRequest kind tag actor => Sys2Proof.Machine.execUnknownKindRequest kind tag actor s
  | .frameReceived f => Sys2Proof.Machine.execFrameReceived f s
  | .interByteGap => Sys2Proof.Machine.execInterByteGap s
  | .replySent => Sys2Proof.Machine.execReplySent s
  | .reportSent => Sys2Proof.Machine.execReportSent s
  | .rstAsserted => Sys2Proof.Machine.execRstAsserted s
  | .rstDeasserted => Sys2Proof.Machine.execRstDeasserted s
  | .stationSecondTick => Sys2Proof.Machine.execStationSecondTick s
  | .presenceExpiry slot => Sys2Proof.Machine.execPresenceExpiry slot s
  | .gapExpiry => Sys2Proof.Machine.execGapExpiry s
  | .turnLimitExpiry => Sys2Proof.Machine.execTurnLimitExpiry s
  | .idleHangExpiry => Sys2Proof.Machine.execIdleHangExpiry s
  | .relayOnExpiry => Sys2Proof.Machine.execRelayOnExpiry s
  | .ampOnExpiry => Sys2Proof.Machine.execAmpOnExpiry s
  | .tailExpiry => Sys2Proof.Machine.execTailExpiry s
  | .ampOffExpiry => Sys2Proof.Machine.execAmpOffExpiry s
  | .relayOffExpiry => Sys2Proof.Machine.execRelayOffExpiry s
  | .bandSettleExpiry => Sys2Proof.Machine.execBandSettleExpiry s
  | .txLimitExpiry => Sys2Proof.Machine.execTxLimitExpiry s
  | .playout => Sys2Proof.Machine.execPlayout s
  | .hangExpiry => Sys2Proof.Machine.execHangExpiry s
  | .burstGapExpiry => Sys2Proof.Machine.execBurstGapExpiry s
  | .stuckKeyExpiry => Sys2Proof.Machine.execStuckKeyExpiry s
  | .warmUpExpiry => Sys2Proof.Machine.execWarmUpExpiry s
  | .ampIdleExpiry => Sys2Proof.Machine.execAmpIdleExpiry s
  | .scanCompletion f r pai pat vsup => Sys2Proof.Machine.execScanCompletion f r pai pat vsup s
  | .intervalExpiry => Sys2Proof.Machine.execIntervalExpiry s
  | .deadlineExpiry => Sys2Proof.Machine.execDeadlineExpiry s
  | .quietExpiry => Sys2Proof.Machine.execQuietExpiry s
  | .idElementTimer => Sys2Proof.Machine.execIdElementTimer s
  | .airTimeTenth => Sys2Proof.Machine.execAirTimeTenth s
  | .residencyTenth counter => Sys2Proof.Machine.execResidencyTenth counter s
  | .inputLevelChange change => Sys2Proof.Machine.execInputLevelChange change s
  | .debounceExpiry input => Sys2Proof.Machine.execDebounceExpiry input s
  | .killDebounceExpiry => Sys2Proof.Machine.execKillDebounceExpiry s
  | .byteReceived byte framingError => Sys2Proof.Machine.execByteReceived byte framingError s

end Sys2Proof.Machine
end

