-- ==== Sys2Proof/Machine/Frames.lean ====
section
/-! DEFINITION. The command a buffered request frame spells, or how LNK turns it away (R183, R184, R187, R193). -/

namespace Sys2Proof.Machine

/-- Reads fields from the front of a payload. -/
abbrev Fields := StateT (List Byte) Option

/-- A one-byte field. -/
def field8 : Fields Nat := fun l =>
  match l with
  | b :: rest => some (b.toNat, rest)
  | [] => none

/-- A two-byte field, little-endian. -/
def field16 : Fields Nat := do
  let lo ← field8
  let hi ← field8
  return lo + 256 * hi

/-- A four-byte field, little-endian. -/
def field32 : Fields Nat := do
  let lo ← field16
  let hi ← field16
  return lo + 65536 * hi

/-- `n` fields of one kind. -/
def several {α : Type} (f : Fields α) : Nat → Fields (List α)
  | 0 => return []
  | n + 1 => do
    let a ← f
    let rest ← several f n
    return a :: rest

/-- A one-byte count and that many fields. -/
def counted {α : Type} (f : Fields α) : Fields (List α) := do
  let n ← field8
  several f n

/-- A character of a callsign. -/
def fieldChar : Fields Char := do
  let n ← field8
  return Char.ofNat n

/-- Twelve two-byte fields in band order. -/
def twelve : Fields (Table 12 Nat) := do
  let l ← several field16 12
  return Table.build fun i => l.getD i.val 0

/-- SetStation's payload (R186). -/
def stationFields : Fields StationArgs := do
  let turnGap ← field16
  let presenceTimeout ← field16
  let defaultBand ← field8
  let defaultEmission ← field8
  let defaultPower ← field16
  let polTrr ← field8
  let polAmpkey ← field8
  let polExc ← field8
  let polKey ← field8
  let polIdm ← field8
  let polAmppwr ← field8
  let playoutDelay ← field16
  let lateAllowance ← field16
  let cwHang ← field16
  let burstGap ← field16
  let stuckLimit ← field16
  let barefootCeiling ← field16
  let autoAmp ← field8
  let warmUpTime ← field16
  let ampIdleTime ← field8
  let callsign ← counted fieldChar
  let idInterval ← field16
  let idGrace ← field16
  let quietDelay ← field16
  let idSpeed ← field8
  let idPower ← field16
  return ⟨turnGap, presenceTimeout, defaultBand, defaultEmission, defaultPower, polTrr, polAmpkey, polExc, polKey,
    polIdm, polAmppwr, playoutDelay, lateAllowance, cwHang, burstGap, stuckLimit, barefootCeiling, autoAmp, warmUpTime,
    ampIdleTime, callsign, idInterval, idGrace, quietDelay, idSpeed, idPower⟩

/-- SetClass's payload (R3). -/
def classFields : Fields ClassArgs := do
  let classIx ← field8
  let bands ← counted field8
  let ceilings ← twelve
  let emissions ← counted field8
  let priority ← field8
  let capabilities ← counted field8
  let turnLimit ← field8
  let idleHang ← field16
  let txLimit ← field16
  return ⟨classIx, bands, ceilings, emissions, priority, capabilities, turnLimit, idleHang, txLimit⟩

/-- SetBand's payload (R95). -/
def bandFields : Fields BandArgs := do
  let band ← field8
  let enabled ← field8
  let relayCode ← field8
  let stationCeiling ← field16
  let dutyCeiling ← field16
  let fullScale ← field16
  return ⟨band, enabled, relayCode, stationCeiling, dutyCeiling, fullScale⟩

/-- A calibration point: a power and a drive code (R98). -/
def pointField : Fields (Nat × Nat) := do
  let p ← field16
  let d ← field8
  return (p, d)

/-- SetCalibration's payload (R98). -/
def calFields : Fields CalArgs := do
  let band ← field8
  let path ← field8
  let points ← counted pointField
  return ⟨band, path, points⟩

/-- StageProfile's payload (R51). -/
def profileFields : Fields ProfileArgs := do
  let relayOn ← field16
  let ampOn ← field16
  let tail ← field16
  let ampOff ← field16
  let relayOff ← field16
  let bandSettle ← field16
  return ⟨relayOn, ampOn, tail, ampOff, relayOff, bandSettle⟩

/-- SetInput's payload (R174). -/
def inputFields : Fields InputArgs := do
  let input ← field8
  let function ← field8
  let trigger ← field8
  let polarity ← field8
  let debounce ← field16
  return ⟨input, function, trigger, polarity, debounce⟩

/-- SetLimits's payload (R132). -/
def limitFields : Fields LimitsArgs := do
  let rStart ← field16
  let rTrip ← field16
  let fMin ← field16
  let step ← field8
  let floor ← field16
  let scans ← field8
  let current ← field16
  let temperature ← field16
  let hysteresis ← field16
  let supplyLow ← field16
  let supplyHigh ← field16
  return ⟨rStart, rTrip, fMin, step, floor, scans, current, temperature, hysteresis, supplyLow, supplyHigh⟩

/-- OpenSlot's payload (R9). -/
def openFields : Fields OpenArgs := do
  let slot ← field8
  let callsign ← counted fieldChar
  let classIx ← field8
  let allowancePresent ← field8
  let allowance ← field32
  return ⟨slot, callsign, classIx, allowancePresent, allowance⟩

/-- A key event (R192). -/
def keyField : Fields (Nat × KeyTime) := do
  let d ← field8
  let t ← field16
  return (d, BitVec.ofNat 16 t)

/-- The command of a Query topic, with its argument (R187, R192). -/
def topicFields (t a : Nat) : Nat → Option (Fields Instr)
  | 0 => some (return .queryStation t a)
  | 1 => some do return .querySlot t a (← field8)
  | 2 => some do return .queryClass t a (← field8)
  | 3 => some do return .queryBand t a (← field8)
  | 4 => some do return .queryCal t a (← field8) (← field8)
  | 5 => some (return .queryMeasure t a)
  | 6 => some (return .queryFaults t a)
  | 7 => some (return .queryCounters t a)
  | 8 => some do return .queryRecords t a (← field32)
  | 9 => some do return .queryQueue t a (← field8)
  | 10 => some (return .queryEvents t a)
  | 11 => some (return .queryProfile t a)
  | 12 => some (return .queryInputs t a)
  | _ => none

/-- The command of a kind of the catalogue but Query, with its payload (R184). -/
def kindFields (t a : Nat) : Nat → Option (Fields Instr)
  | 0x01 => some (return .restart t a)
  | 0x02 => some (return .decommission t a)
  | 0x03 => some (return .commission t a)
  | 0x04 => some do return .setStation t a (← stationFields)
  | 0x05 => some do return .setClass t a (← classFields)
  | 0x06 => some do return .setBand t a (← bandFields)
  | 0x07 => some do return .setCalibration t a (← calFields)
  | 0x08 => some do return .stageProfile t a (← profileFields)
  | 0x09 => some do return .setInput t a (← inputFields)
  | 0x0A => some do return .setLimits t a (← limitFields)
  | 0x0B => some do return .setEvents t a (BitVec.ofNat 16 (← field16)) (BitVec.ofNat 16 (← field16))
  | 0x0C => some do return .clearEvents t a (BitVec.ofNat 16 (← field16))
  | 0x0D => some do return .clearCounters t a (← counted field8)
  | 0x0F => some do return .clearFault t a (← field8)
  | 0x10 => some (return .resume t a)
  | 0x11 => some do return .openSlot t a (← openFields)
  | 0x12 => some do return .closeSlot t a (← field8)
  | 0x13 => some do return .reclass t a (← field8) (← field8)
  | 0x14 => some do return .setAllowance t a (← field8) (← field8) (← field32)
  | 0x15 => some do return .clearAirtime t a (← field8)
  | 0x20 => some do return .request t a (← field8) (← field8) (← field16) (← field8)
  | 0x21 => some (return .withdraw t a)
  | 0x22 => some (return .release t a)
  | 0x23 => some (return .presence t a)
  | 0x24 => some (return .pttOn t a)
  | 0x25 => some (return .pttOff t a)
  | 0x26 => some do return .keyEvents t a (← counted keyField)
  | 0x27 => some do return .setPower t a (← field16)
  | 0x28 => some do return .retune t a (← field8) (← field8)
  | 0x30 => some do return .seize t a (← field8) (← field8) (← field8) (← field16)
  | 0x31 => some do return .endTurn t a (← field8)
  | 0x32 => some do return .holdSlot t a (← field8)
  | 0x33 => some do return .unholdSlot t a (← field8)
  | 0x34 => some (return .ampOn t a)
  | 0x35 => some (return .ampOff t a)
  | 0x36 => some (return .ampReset t a)
  | _ => none

/-- What LNK makes of a request frame. -/
inductive Parsed where
  | command (i : Instr)
  | badLength
  | unknownTopic
  deriving DecidableEq, Repr

/-- The payload read to its end; one that is too short or too long is BAD_LENGTH (R183). -/
def readAll (f : Fields Instr) (l : List Byte) : Parsed :=
  match f l with
  | some (i, []) => .command i
  | _ => .badLength

/-- A Query frame: its topic byte and the topic's argument. A topic code outside the table is refused after the
length check, which asks only that the topic byte be present (R187). -/
def parseQuery (t a : Nat) (l : List Byte) : Parsed :=
  match l with
  | [] => .badLength
  | topic :: rest =>
    match topicFields t a topic.toNat with
    | some f => readAll f rest
    | none => .unknownTopic

/-- The command a request frame spells (R183, steps 1 and 2). -/
def parseFrame (f : RawFrame) : Parsed :=
  let t := f.tag.toNat
  let a := f.actor.toNat
  if f.kind = 0x0E then parseQuery t a f.payload
  else
    match kindFields t a f.kind.toNat with
    | some g => readAll g f.payload
    | none => .command (.unknownKindRequest f.kind.toNat t a)

/-- A frame that LNK turns away for its length, or a Query of an unknown topic (R183, R187). -/
def State.turnAwayFrame (f : RawFrame) (unknownTopic : Bool) (s : State) : State :=
  if unknownTopic then s.takeQuery f.tag.toNat f.actor.toNat (refuse .badArgument)
  else s.turnAway f.kind.toNat f.tag.toNat .badLength

end Sys2Proof.Machine
end

