-- ==== Sys2Proof/Machine/Idle.lean ====
section
/-! DEFINITION. What the block does with no command waiting (log 2): an occurrence whose instant has come, else a
buffered frame that LNK may take, else one millisecond of the station clock. -/

namespace Sys2Proof.Machine

/-- The instant of a timer's expiry. -/
def dueOf (t : Option Timer) : Option Clock := t.map Timer.due

/-- The instant after which a frame is abandoned for the gap between its bytes (R182). -/
def State.gapLimit (s : State) : Option Clock :=
  match s.lnk.receiver with
  | .inFrame _ last => some (last + BitVec.ofNat 32 (Config.interByteGap + 1))
  | .hunting => none

/-- A residency counter with a complete tenth that is not added yet. -/
def State.tenthOwed (s : State) (r : Residency) : Option Clock :=
  let c := s.acu.counters.read (resIndex r)
  if 0 < c.owed ∧ c.value < max32 then some s.clock else none

/-- An occurrence and the instant at which it comes, if it runs. -/
abbrev Coming := Option Clock × Instr

/-- Station time and the residency counters. -/
def State.agendaTime (s : State) : List Coming :=
  (some (s.secondAt + 1000), Instr.stationSecondTick) ::
    (numbers 6).map fun i => (s.tenthOwed (resOf i), Instr.residencyTenth (resOf i))

/-- Air time, the sequencer and the key. The waits come before the key's events: an event due at the millisecond of the
entry into EXCITING plays in EXCITING and loses nothing (R87). -/
def State.agendaAir (s : State) : List Coming :=
  [(s.tenthDue, .airTimeTenth), (dueOf (s.stepIn .armRelay), .relayOnExpiry), (dueOf (s.stepIn .armAmp), .ampOnExpiry),
    (dueOf (s.stepIn .drain), .tailExpiry), (dueOf (s.stepIn .disarmAmp), .ampOffExpiry),
    (dueOf (s.stepIn .disarmRelay), .relayOffExpiry), (dueOf (s.stepIn .retune), .bandSettleExpiry),
    (s.playDueAt, .playout), (dueOf s.ktl.stuck, .stuckKeyExpiry), (dueOf s.ktl.hang, .hangExpiry),
    (dueOf s.ktl.burstGap, .burstGapExpiry), (dueOf s.limitTimer, .txLimitExpiry)]

/-- The turn and the presence timers. -/
def State.agendaTurn (s : State) : List Coming :=
  (dueOf s.arb.gap, Instr.gapExpiry) :: (dueOf s.turnTimer, Instr.turnLimitExpiry) ::
    (dueOf s.idleTimer, Instr.idleHangExpiry) ::
    (numbers 32).map fun w => (dueOf (s.arb.presence.read w), Instr.presenceExpiry w)

/-- The identification and the amplifier. -/
def State.agendaStation (s : State) : List Coming :=
  [(dueOf s.idu.interval, .intervalExpiry), (s.deadlineDue, .deadlineExpiry), (dueOf s.idu.quiet, .quietExpiry),
    (dueOf s.idu.element, .idElementTimer), (dueOf s.amg.warm, .warmUpExpiry), (dueOf s.amg.idle, .ampIdleExpiry)]

/-- KILL, the link and the wired inputs. -/
def State.agendaInputs (s : State) : List Coming :=
  (dueOf s.killTimer, Instr.killDebounceExpiry) :: (s.gapLimit, Instr.interByteGap) ::
    (numbers 4).map fun i => (dueOf (s.debounceTimer i), Instr.debounceExpiry i)

/-- The occurrences in the order in which those due at one instant are taken (log 2). -/
def State.agenda (s : State) : List Coming :=
  [s.agendaTime, s.agendaAir, s.agendaTurn, s.agendaStation, s.agendaInputs].flatten

/-- An instant has come. -/
def State.hasCome (s : State) (t : Option Clock) : Bool :=
  match t with
  | some x => reached s.clock x
  | none => false

/-- The first occurrence whose instant has come. -/
def State.nextDue (s : State) : Option Instr := (s.agenda.find? fun p => s.hasCome p.1).map (·.2)

/-- The frame LNK may take: the oldest in the buffer, with no reply owed (R183). -/
def State.nextFrameIn (s : State) : Option RawFrame :=
  if s.closed = true ∨ s.lnk.reply.isSome = true then none else s.lnk.buffer.head?

/-- LNK takes a frame from the buffer: its command runs, or it is turned away (R183). -/
def State.takeFrame (f : RawFrame) (s : State) : Host.Outcome State Fault Refusal :=
  let s := { s with lnk := { s.lnk with buffer := s.lnk.buffer.tail } }
  match parseFrame f with
  | .command i => exec i s
  | .badLength => .next (s.turnAwayFrame f false)
  | .unknownTopic => .next (s.turnAwayFrame f true)

/-- The block with no command waiting. While RST is asserted nothing moves. -/
def State.idle (s : State) : Host.Outcome State Fault Refusal :=
  if s.rst then .next s
  else
    match s.nextDue with
    | some i => exec i s
    | none =>
      match s.nextFrameIn with
      | some f => s.takeFrame f
      | none => .next (s.elapse 1)

end Sys2Proof.Machine
end

