-- ==== Sys2Proof/Machine/Encode.lean ====
section
/-! DEFINITION. The bytes of the frames LNK sends: replies, reports and turn records (R181, R185, R192, R193). Each
enumeration's constructors stand in the code order of R192, so its code is its constructor's index. -/

namespace Sys2Proof.Machine

/-! ### Fields (R181, R193) -/

/-- A one-byte field. -/
def u8 (n : Nat) : List Byte := [BitVec.ofNat 8 n]

/-- A two-byte field, little-endian. -/
def u16 (n : Nat) : List Byte := [BitVec.ofNat 8 n, BitVec.ofNat 8 (n / 256)]

/-- A four-byte field, little-endian. -/
def u32 (n : Nat) : List Byte := u16 n ++ u16 (n / 65536)

/-- A flag: CLEAR or SET, NO or YES, ABSENT or PRESENT. -/
def flag (b : Bool) : List Byte := u8 b.toNat

/-- A one-byte optional field reads 0xFF when absent. -/
def opt8 (o : Option Nat) : List Byte := u8 (o.getD 0xFF)

/-- A two-byte optional field reads 0xFFFF when absent. -/
def opt16 (o : Option Nat) : List Byte := u16 (o.getD 0xFFFF)

/-- A four-byte optional field of a reply for which no rule says what it reads when absent: that value is free (log 17). -/
def opt32 (o : Option Nat) : List Byte := u32 (o.getD Config.absentQuad.toNat)

/-- A record of `size` bytes that may be absent: the bytes when absent are free (log 17). -/
def optRecord (size : Nat) (o : Option (List Byte)) : List Byte := o.getD (Config.absentRecord size)

/-- A slot that may be absent. -/
def optSlot (w : Option SlotId) : List Byte := opt8 (w.map (·.val))

/-- A band that may be absent. -/
def optBand (b : Option BandId) : List Byte := opt8 (b.map (·.val))

/-- The characters of a callsign, one byte each (log 16). -/
def letters (c : List Char) : List Byte := c.map fun ch => BitVec.ofNat 8 ch.toNat

/-- A callsign: its one-byte length and its characters (R193). -/
def callBytes (c : Option (List Char)) : List Byte := u8 (c.getD []).length ++ letters (c.getD [])

/-- A callsign in eleven bytes: its length, and ten characters of which the unused read 0x00 (R192). -/
def callField (c : Option (List Char)) : List Byte :=
  u8 (c.getD []).length ++ letters (c.getD []) ++ List.replicate (10 - (c.getD []).length) 0

/-- A set: a one-byte count and that many codes (R193). -/
def setBytes (l : List Nat) : List Byte := u8 l.length ++ l.flatMap u8

/-- The kind and the slot of a transmission; the slot is absent for ID. -/
def kindBytes : TxKind → List Byte
  | .member w => u8 0 ++ u8 w.val
  | .ident => u8 1 ++ u8 0xFF

/-! ### Frames (R181) -/

/-- CHECK makes the sum of the bytes from LENGTH to CHECK 0 modulo 256. -/
def checkOf (bytes : List Byte) : Byte := -byteSum bytes

/-- A frame whose bytes from KIND to the end of PAYLOAD are these. -/
def frameBytes (bytes : List Byte) : List Byte :=
  let counted := BitVec.ofNat 8 bytes.length :: bytes
  sync :: counted ++ [checkOf counted]

/-! ### Reports (R192) -/

/-- The payload of a report. -/
def reportPayload : Report → List Byte
  | .turnGranted w b e p => u8 w.val ++ u8 b.val ++ u8 e.ctorIdx ++ u16 p
  | .turnEnded w c q => u8 w.val ++ u8 c.ctorIdx ++ flag q
  | .txStarted k b e p n => kindBytes k ++ u8 b.val ++ u8 e.ctorIdx ++ u8 p.ctorIdx ++ u16 n
  | .txEnded k c a p => kindBytes k ++ u8 c.ctorIdx ++ u16 a ++ u16 p
  | .requestDropped w c r => u8 w.val ++ u8 c.ctorIdx ++ opt8 (r.map (·.ctorIdx))
  | .bandSet b c => u8 b.val ++ u8 c
  | .ampChanged o n c => u8 o.ctorIdx ++ u8 n.ctorIdx ++ u8 c.ctorIdx
  | .foldback k b f r x n =>
    kindBytes k ++ optBand b ++ u16 f.val ++ u16 r.val ++ u32 (x.getD 0xFFFFFFFF) ++ u16 n
  | .faultRaised k n w b c new =>
    u8 k.ctorIdx ++ u16 n ++ optSlot w ++ optBand b ++ opt16 (c.map (·.val)) ++ flag new
  | .stationChanged o n c f => u8 o.ctorIdx ++ u8 n.ctorIdx ++ u8 c.ctorIdx ++ opt8 (f.map (·.ctorIdx))
  | .idDue t w r => u32 t.toNat ++ optSlot w ++ flag r
  | .idSent c b p v t w => callField (some c) ++ u8 b.val ++ u8 p.ctorIdx ++ u8 v ++ u16 t ++ optSlot w
  | .keyingLoss r w d t v =>
    u8 r.ctorIdx ++ optSlot w ++ opt8 (d.map (·.ctorIdx)) ++ u16 ((t.map (·.toNat)).getD 0) ++ u16 (v.getD 0)
  | .allowanceExhausted w a u x => u8 w.val ++ u32 a ++ u32 u ++ u8 x.ctorIdx
  | .linkError r n => u8 r.ctorIdx ++ u16 n
  | .spuriousLocal o => u8 o.ctorIdx

/-- The frame of a report: KIND 0xE0 + event index, TAG 0x00 (R181). -/
def Report.frame (r : Report) : List Byte := frameBytes (u8 (0xE0 + r.index) ++ u8 0 ++ reportPayload r)

/-! ### Records -/

/-- A turn record in 35 bytes (R192). -/
def recordBytes (r : TurnRec) : List Byte :=
  u32 r.number ++ flag r.ident ++ optSlot r.slot ++ callField r.callsign ++ opt8 (r.classIx.map (·.val)) ++
    optBand r.band ++ u8 r.emission.ctorIdx ++ u32 r.grantTime.toNat ++ u32 r.duration.toNat ++ u16 r.txCount ++
    u32 r.airTime ++ u8 r.cause.ctorIdx

/-- A request record's fields (R17). -/
def requestBytes (r : RequestRec) : List Byte :=
  u8 r.band.val ++ u8 r.emission.ctorIdx ++ u16 r.power ++ u8 r.mode.ctorIdx ++ u8 r.origin.ctorIdx ++ flag r.mark

/-- A fault record's fields (R136). -/
def faultBytes (r : FaultRec) : List Byte :=
  u8 r.kind.ctorIdx ++ u32 r.first.toNat ++ u32 r.last.toNat ++ u16 r.count ++ optSlot r.slot ++ optBand r.band ++
    opt16 (r.code.map (·.val)) ++ flag r.present

/-- A queue entry (R25). The failed condition, which R25 names apart from an entry's fields, stands last, after the
request record, and reads absent for an eligible slot (DESIGN CHOICE, log 40). -/
def entryBytes (e : QueueEntry) : List Byte :=
  u8 e.slot.val ++ u8 e.priority ++ u8 e.rank ++ flag e.mark ++ requestBytes e.record ++ opt8 (e.failed.map (·.ctorIdx))

/-- The limits in the order of R132. -/
def limitBytes (l : Limits) : List Byte :=
  u16 l.rStart ++ u16 l.rTrip ++ u16 l.fMin ++ u8 l.step ++ u16 l.floor ++ u8 l.scans ++ u16 l.current ++
    u16 l.temperature ++ u16 l.hysteresis ++ u16 l.supplyLow ++ u16 l.supplyHigh

/-- A timing profile in the order of R51. -/
def profileBytes (p : Profile) : List Byte :=
  u16 p.relayOn ++ u16 p.ampOn ++ u16 p.tail ++ u16 p.ampOff ++ u16 p.relayOff ++ u16 p.bandSettle

/-- A routing entry (R173). -/
def entryOf (x : Input) : List Byte :=
  u8 x.function.ctorIdx ++ u8 x.trigger.ctorIdx ++ u8 x.polarity.ctorIdx ++ u16 x.debounce

/-- The indices for which a table holds true, in increasing order (DESIGN CHOICE, log 48). -/
def members {n : Nat} (t : Table n Bool) : List Nat := ((numbers n).filter t.read).map (·.val)

/-- A class record in the order of R2. R193 gives a set a count and its codes and no order of them: the codes stand in
increasing order (DESIGN CHOICE, log 48). -/
def classBytes (c : ClassRec) : List Byte :=
  setBytes (members c.bands) ++ c.ceilings.toList.flatMap u16 ++
    setBytes ([(0, c.cw), (1, c.phone), (2, c.data)].filterMap fun p => if p.2 then some p.1 else none) ++
    u8 c.priority ++ setBytes ([(0, c.control), (1, c.singleOver)].filterMap fun p => if p.2 then some p.1 else none) ++
    u8 c.turnLimit ++ u16 c.idleHang ++ u16 c.txLimit

/-- A band record in the order of R94. -/
def bandBytes (b : BandRec) : List Byte :=
  flag b.enabled ++ u8 b.relayCode.val ++ u16 b.stationCeiling ++ u16 b.dutyCeiling ++ u16 b.fullScale

/-- A calibration context: its eight points in order, or the indication that it is empty (R97), whose form is free
(log 17). -/
def contextBytes (c : Context) : List Byte :=
  match c with
  | none => Config.emptyContext
  | some t => t.toList.flatMap fun p => u16 p.power ++ u8 p.code

/-! ### Query STATION (R187) -/

/-- The keying parameters (R73). -/
def keyingBytes (k : KeyParams) : List Byte :=
  u16 k.playoutDelay ++ u16 k.lateAllowance ++ u16 k.cwHang ++ u16 k.burstGap ++ u16 k.stuckLimit

/-- Every SetStation setting in the order of R186. -/
def settingBytes (x : Settings) : List Byte :=
  let p := x.polarities
  u16 x.turnGap ++ u16 x.presenceTimeout ++ u8 x.defaultBand.val ++ u8 x.defaultEmission.ctorIdx ++
    u16 x.defaultPower ++ [p.trr, p.ampkey, p.exc, p.key, p.idm, p.amppwr].flatMap (fun l => u8 l.ctorIdx) ++
    keyingBytes x.keying ++ u16 x.barefootCeiling ++ flag x.autoAmp ++ u16 x.warmUpTime ++ u8 x.ampIdleTime ++
    callBytes x.callsign ++ u16 x.ids.interval ++ u16 x.ids.grace ++ u16 x.ids.quietDelay ++ u8 x.ids.speed ++
    u16 x.ids.power

/-- The code of an arbiter state (R192). -/
def arbiterCode : Arbiter → Nat
  | .free => 0
  | .gap => 1
  | .turn _ => 2
  | .idTurn => 3

/-- The turn context's fields in the order of R31. -/
def turnBytes (t : Turn) : List Byte :=
  u8 t.holder.val ++ u8 t.band.val ++ u8 t.emission.ctorIdx ++ u16 t.power ++ u8 t.mode.ctorIdx ++ u8 t.sub.ctorIdx ++
    u32 t.grantTime.toNat ++ u16 t.txCount ++ u32 t.airTime ++ flag t.pendingStart

/-- The arbiter items of Query STATION. The time elapsed since the grant, of which R31, R187 and R193 give neither unit
nor size, is sent in ms in four bytes, as a time remaining is (DESIGN CHOICE, log 41). -/
def arbiterBytes (v : StationView) : List Byte :=
  u8 (arbiterCode v.arbiter) ++
    optRecord 18 (match v.arbiter with
      | .turn t => some (turnBytes t)
      | _ => none) ++ opt32 v.sinceGrant ++ opt32 v.idleLeft

/-- The transmission context's fields in the order of R49. -/
def txBytes (x : Tx) (left : Option Nat) : List Byte :=
  kindBytes x.kind ++ u8 x.band.val ++ u8 x.emission.ctorIdx ++ u8 x.path.ctorIdx ++ u32 x.excitedAt.toNat ++
    u32 x.airTime ++ opt32 left ++ opt8 (x.endCause.map (·.ctorIdx))

/-- The sequencer items of Query STATION (R49). -/
def seqBytes (v : StationView) : List Byte :=
  u8 v.seq.ctorIdx ++ optRecord 18 (v.tx.map fun x => txBytes x v.limitLeft) ++ flag v.pttDemand ++
    optBand v.currentBand ++ u8 v.bandCode

/-- The KTL items of Query STATION (R72). R193 has no class for the burst's offset and last accepted time, which are 16-bit
values: each is sent in two bytes, 0xFFFF while no burst is open (DESIGN CHOICE, log 49). -/
def ktlBytes (v : StationView) : List Byte :=
  u16 v.timelineFill ++ u8 v.timelineState.ctorIdx ++ u8 v.keyState.ctorIdx ++ flag v.burst.isSome ++
    opt16 (v.burst.map (·.offset.toNat)) ++ opt16 (v.burst.map (·.last.toNat)) ++ flag v.suppression ++
    keyingBytes v.settings.keying

/-- The amplifier items and the applied-power state (R101, R112). -/
def powerBytes (v : StationView) : List Byte :=
  u8 v.amp.ctorIdx ++ opt32 v.ampTimerLeft ++ flag v.ampReadyRouted ++ flag v.applied.active ++
    opt8 (v.applied.path.map (·.ctorIdx)) ++ u16 v.applied.target ++ u16 v.applied.factor ++ u16 v.applied.effective ++
    u8 v.applied.drive

/-- The IDU items of Query STATION (R151). -/
def iduBytes (v : StationView) : List Byte :=
  flag v.owed ++ flag v.due ++ opt32 (v.dueTime.map (·.toNat)) ++ opt32 v.intervalLeft ++ opt32 v.deadlineLeft ++
    opt32 v.quietLeft ++ u8 v.claim.ctorIdx ++ u8 v.cycle.ctorIdx ++ opt8 v.sendingChar

/-- Query STATION's contents. -/
def stationBytes (v : StationView) : List Byte :=
  u8 v.station.ctorIdx ++ flag v.killLatch ++ flag v.commissioned ++ arbiterBytes v ++ seqBytes v ++ ktlBytes v ++
    powerBytes v ++ iduBytes v ++ settingBytes v.settings

/-! ### The other topics and the replies (R185, R187) -/

/-- Query SLOT's contents. -/
def slotBytes (v : SlotView) : List Byte :=
  callBytes v.identity.callsign ++ u8 v.identity.classIx.val ++ opt32 v.identity.allowance ++ flag v.identity.heldBack ++
    u8 v.state.ctorIdx ++ u8 v.rank ++ opt32 v.presenceLeft ++ optRecord 7 (v.record.map requestBytes) ++
    u32 v.airTime ++ flag v.exhausted

/-- Query MEASURE's contents (R119). -/
def measureBytes (v : MeasureView) : List Byte :=
  [v.scan.f, v.scan.r, v.scan.pai, v.scan.pat, v.scan.vsup].flatMap (fun c => u16 c.val) ++ u32 v.scan.start.toNat ++
    opt16 v.forward ++ opt16 v.reflected ++ opt32 v.lastReflection ++ u16 v.factor ++ flag v.reported ++ u16 v.peak ++
    flag v.overcurrent ++ u16 v.overcurrentCount ++ flag v.overtemp ++ u16 v.overtempCount ++ flag v.supply ++
    u16 v.supplyCount ++ limitBytes v.limits

/-- KILL's level, whose polarity is fixed in the part and not stated (log 18). -/
def killLevelByte (asserted : Bool) : List Byte := flag (asserted == Config.killAssertedHigh)

/-- Query FAULTS's contents (R138, R193). -/
def faultsBytes (v : FaultsView) : List Byte :=
  v.faults.flatMap faultBytes ++ flag v.killLatch ++ killLevelByte v.kill ++
    flag v.commissioned ++ u8 v.station.ctorIdx ++ v.present.flatMap flag

/-- Query INPUTS's contents (R173). -/
def inputsBytes (v : InputsView) : List Byte :=
  v.inputs.flatMap (fun p => entryOf p.1 ++ flag p.1.raw ++ flag p.1.debounced ++ flag p.2) ++
    v.functions.flatMap (fun p => flag p.1 ++ u16 p.2) ++ killLevelByte v.kill.raw ++ killLevelByte v.kill.debounced ++
    flag v.killLatch

/-- The payload of a reply (R185, R187, R192, R193). KeyEvents: R185 counts six fields, and the sixth of R75 names two
things, whether a burst is open and its offset; the model sends a flag byte and then a two-byte offset, 0xFFFF when
no burst is open (DESIGN CHOICE, log 47). Query RECORDS: the oldest and the newest number of an empty list read 0, since
records are numbered from 1 (R192). -/
def bodyBytes : Body → List Byte
  | .empty => []
  | .requestState s => u8 s.ctorIdx
  | .seize o => u8 o.ctorIdx
  | .ptt o => u8 o.ctorIdx
  | .keyEvents q p i d fill o => u16 q ++ u16 p ++ u16 i ++ u16 d ++ u16 fill ++ flag o.isSome ++ opt16 (o.map (·.toNat))
  | .power p none => u16 p
  | .power p (some (t, e, d)) => u16 p ++ u16 t ++ u16 e ++ u8 d
  | .station s => u8 s.ctorIdx
  | .decommission n w a s => u16 n ++ optSlot w ++ flag a ++ u8 s.ctorIdx
  | .limits l => limitBytes l
  | .input _ x => entryOf x
  | .counts l => l.flatMap u32
  | .flags f => u16 f.toNat
  | .configInvalid r b => u8 r.ctorIdx ++ optBand b
  | .calibrationPoint k => opt8 k
  | .queryStation v => stationBytes v
  | .querySlot v => slotBytes v
  | .queryClass c => classBytes c
  | .queryBand b => bandBytes b
  | .queryCal c => contextBytes c
  | .queryMeasure v => measureBytes v
  | .queryFaults v => faultsBytes v
  | .queryRecords a b l => u32 (a.getD 0) ++ u32 (b.getD 0) ++ u8 l.length ++ l.flatMap recordBytes
  | .queryQueue n l => u16 n ++ l.flatMap entryBytes
  | .queryEvents f r a fill lost e =>
    u16 f.toNat ++ u16 r.toNat ++ u16 a.toNat ++ u16 fill ++ u16 lost ++
      [e.length, e.framing, e.gap, e.check, e.overflow].flatMap u16
  | .queryProfile a s p => profileBytes a ++ profileBytes s ++ flag p
  | .queryInputs v => inputsBytes v

/-- The frame of a reply: KIND, the echoed TAG, STATUS and PAYLOAD (R181). -/
def Reply.frame (r : Reply) : List Byte :=
  frameBytes (u8 r.kind ++ u8 r.tag ++ u8 r.status.ctorIdx ++ bodyBytes r.body)

/-- The frame the transmitter sends next when it is free: a ready reply with no report ahead of it, else the oldest
report; none while RST is asserted (R189, R190). -/
def State.nextFrame (s : State) : Option (List Byte) :=
  if s.rst then none
  else
    match s.lnk.reply, s.lnk.reports with
    | some r, [] => some r.frame
    | some r, p :: _ => if r.ahead = 0 then some r.frame else some p.frame
    | none, p :: _ => some p.frame
    | none, [] => none

end Sys2Proof.Machine
end

