-- ==== Sys2Proof/Safety.lean ====
section
/-! DEFINITION. What counts as a safe state of the station, and the terms the statements are written in. -/

namespace Sys2Proof.Machine

/-! ### The lines (R50, R60, R67, R101, R114) -/

/-- The sequencer states in which TRR is asserted (R50). -/
def SeqState.keepsRelay : SeqState → Bool
  | .armRelay | .armAmp | .exciting | .drain | .disarmAmp => true
  | _ => false

/-- The sequencer states in which AMPKEY is asserted on the AMPLIFIED path (R50). -/
def SeqState.mayKeyAmp : SeqState → Bool
  | .armAmp | .exciting | .drain => true
  | _ => false

/-- Every line that drives the station equipment is deasserted, and DRIVE's duty is 0. -/
abbrev State.silent (s : State) : Prop :=
  s.seq.trr = false ∧ s.seq.ampkey = false ∧ s.seq.exc = false ∧ s.seq.idm = false ∧ s.seq.keyGate = false ∧
    s.amg.amppwr = false ∧ s.drv.applied.active = false

/-- IDU keys the transmitter: the element being keyed is a dit or a dah (R159). -/
def State.idKeys (s : State) : Bool := ((s.idu.context.bind fun c => c.todo.head?).map (·.key)).getD false

/-- The lines follow the sequencer's and the amplifier's state as R50's table gives them: TRR and EXC by the state,
AMPKEY also by the path, IDM also by the kind, KEY by the key state (R85) or IDU's keying (R159), DRIVE active only in
EXCITING; AMPPWR is on in WARMING and ON (R101). While RST is asserted the part is silent (R150). A transmission context
stands in every state but QUIET and RETUNE (R49). -/
abbrev State.linesFollow (s : State) : Prop :=
  if s.rst = true then s.silent
  else
    s.seq.trr = s.seq.state.keepsRelay ∧ s.seq.exc = decide (s.seq.state = .exciting) ∧
      s.seq.keyGate = decide (s.seq.state = .exciting) ∧ s.seq.ampkey = (s.seq.state.mayKeyAmp && s.amplifiedTx) ∧
      s.seq.idm = (s.seq.state.keepsRelay && s.identTx) ∧ (s.seq.state ≠ .exciting → s.keyLine = false) ∧
      (s.seq.state = .exciting → s.keyLine = if s.identTx then s.idKeys else decide (s.keyState = .down)) ∧
      (s.drv.applied.active = true → s.seq.state = .exciting) ∧
      s.amg.amppwr = decide (s.amg.state = .warming ∨ s.amg.state = .on) ∧
      (s.seq.state ≠ .quiet → s.seq.state ≠ .retune → s.seq.tx.isSome = true)

/-! ### Tenancy, ranks, capacities, the station state -/

/-- The ranks of the 32 slots are a permutation of 0 to 31 (R23). -/
abbrev State.ranksPermute (s : State) : Prop :=
  (∀ w, s.arb.ranks.read w < 32) ∧ ∀ v w, s.arb.ranks.read v = s.arb.ranks.read w → v = w

/-- A slot is HOLDING exactly when it is the holder of the current turn (R26). -/
abbrev State.oneHolder (s : State) : Prop := ∀ w, s.tenancy w = .holding ↔ s.holder = some w

/-- Without a member turn nothing of one stands: no claim, no deadline, no transmission of a current turn (R49, R56,
R151, R157). -/
abbrev State.marksStand (s : State) : Prop :=
  s.turn = none → s.idu.claim = .none ∧ s.idu.deadlineRuns = false ∧ s.memberTx = false

/-- The parts of an identification stand together (R151, R158 to R161): a context exactly outside IDLE, a waiting ID
start only in STARTING, an ID transmission that is armed or on the air only in STARTING or SENDING with no start waiting,
and an element only while such a transmission is in EXCITING. -/
abbrev State.idRests (s : State) : Prop :=
  (s.idu.cycle = .idle ↔ s.idu.context = none) ∧ (s.idu.startWaits = true → s.idu.cycle = .starting) ∧
    (s.identTx = true → s.arming = true ∨ s.seq.state = .exciting → s.cycleRuns = true ∧ s.idu.startWaits = false) ∧
    (s.idu.element ≠ none → s.seq.state = .exciting ∧ s.identTx = true)

/-- The capacities of the part: 4 buffered frames, 16 reports, 64 timeline entries, 32 records, one fault record of a
kind; the reports-lost count stops at 65,535 (R72, R134, R170, R182, R189). -/
abbrev State.withinCapacity (s : State) : Prop :=
  s.lnk.buffer.length ≤ 4 ∧ s.lnk.reports.length ≤ 16 ∧ s.ktl.timeline.length ≤ 64 ∧ s.acu.records.length ≤ 32 ∧
    (s.prt.faults.map (·.kind)).Nodup ∧ s.lnk.lost ≤ 65535

/-- The station state is the one R142 derives (R134). -/
abbrev State.stationFollows (s : State) : Prop := s.prt.station = s.derived

/-- A transmission is armed or on the air only in a station that is READY: the sequencer is in ARM_RELAY, ARM_AMP or
EXCITING only then (R53, R71, R142 to R146). -/
abbrev State.armsOnlyReady (s : State) : Prop :=
  s.arming = true ∨ s.seq.state = .exciting → s.prt.station = .ready

/-! ### Taking a request -/

/-- LNK takes a request frame whose ACTOR byte is `actor`: no reset is under way, the byte names the actor `a`, and the
catalogue allows it (R183, R184); every tenth of air time that is complete has been counted (R165). -/
abbrev State.takes (s : State) (who : Allowed) (actor : Nat) (a : Actor) : Prop :=
  s.closed = false ∧ s.tenthsDue = 0 ∧ actorOf actor = some a ∧ s.permitsActor who a = true

/-- The state in which the owning block finds the part: the reply owed before has been sent (the model's choice, log 4),
and the actor's presence timer is restarted (R22, R183). -/
def State.heard (a : Actor) (s : State) : State := a.presence s.readyToTake

/-- The reply that is ready: a status and fields for the request of a kind and a tag, behind every report queued so
far (R181, R189). -/
abbrev State.replied (kind tag : Nat) (x : Status) (b : Body) (s : State) : Prop :=
  s.lnk.reply = some ⟨kind + 0x80, tag, x, b, s.lnk.reports.length⟩

/-- What the catalogue says of a request row: the code of its kind, the frame's TAG and ACTOR bytes, and the actors it
is accepted from (R184). -/
structure Asked where
  kind : Nat
  tag : Nat
  actor : Nat
  who : Allowed
  deriving DecidableEq, Repr

/-- The catalogue's entry for a request row; none for a row that is no request of the catalogue (R184). -/
def asked : Instr → Option Asked
  | .restart t a => some ⟨0x01, t, a, .stationOnly⟩
  | .decommission t a => some ⟨0x02, t, a, .stationOnly⟩
  | .commission t a => some ⟨0x03, t, a, .stationOnly⟩
  | .setStation t a _ => some ⟨0x04, t, a, .stationOnly⟩
  | .setClass t a _ => some ⟨0x05, t, a, .stationOnly⟩
  | .setBand t a _ => some ⟨0x06, t, a, .stationOnly⟩
  | .setCalibration t a _ => some ⟨0x07, t, a, .stationOnly⟩
  | .stageProfile t a _ => some ⟨0x08, t, a, .stationOnly⟩
  | .setInput t a _ => some ⟨0x09, t, a, .stationOnly⟩
  | .setLimits t a _ => some ⟨0x0A, t, a, .stationOnly⟩
  | .setEvents t a _ _ => some ⟨0x0B, t, a, .stationOnly⟩
  | .clearEvents t a _ => some ⟨0x0C, t, a, .stationOnly⟩
  | .clearCounters t a _ => some ⟨0x0D, t, a, .stationOnly⟩
  | .queryStation t a | .querySlot t a _ | .queryClass t a _ | .queryBand t a _ | .queryCal t a _ _
  | .queryMeasure t a | .queryFaults t a | .queryCounters t a | .queryRecords t a _ | .queryQueue t a _
  | .queryEvents t a | .queryProfile t a | .queryInputs t a => some ⟨0x0E, t, a, .anyActor⟩
  | .clearFault t a _ => some ⟨0x0F, t, a, .controlSlot⟩
  | .resume t a => some ⟨0x10, t, a, .controlSlot⟩
  | .openSlot t a _ => some ⟨0x11, t, a, .stationOnly⟩
  | .closeSlot t a _ => some ⟨0x12, t, a, .stationOnly⟩
  | .reclass t a _ _ => some ⟨0x13, t, a, .stationOnly⟩
  | .setAllowance t a _ _ _ => some ⟨0x14, t, a, .stationOnly⟩
  | .clearAirtime t a _ => some ⟨0x15, t, a, .stationOnly⟩
  | .request t a _ _ _ _ => some ⟨0x20, t, a, .ownSlot⟩
  | .withdraw t a => some ⟨0x21, t, a, .ownSlot⟩
  | .release t a => some ⟨0x22, t, a, .ownSlot⟩
  | .presence t a => some ⟨0x23, t, a, .ownSlot⟩
  | .pttOn t a => some ⟨0x24, t, a, .ownSlot⟩
  | .pttOff t a => some ⟨0x25, t, a, .ownSlot⟩
  | .keyEvents t a _ => some ⟨0x26, t, a, .ownSlot⟩
  | .setPower t a _ => some ⟨0x27, t, a, .ownSlot⟩
  | .retune t a _ _ => some ⟨0x28, t, a, .ownSlot⟩
  | .seize t a _ _ _ _ => some ⟨0x30, t, a, .controlSlot⟩
  | .endTurn t a _ => some ⟨0x31, t, a, .controlSlot⟩
  | .holdSlot t a _ => some ⟨0x32, t, a, .controlSlot⟩
  | .unholdSlot t a _ => some ⟨0x33, t, a, .controlSlot⟩
  | .ampOn t a => some ⟨0x34, t, a, .controlSlot⟩
  | .ampOff t a => some ⟨0x35, t, a, .controlSlot⟩
  | .ampReset t a => some ⟨0x36, t, a, .controlSlot⟩
  | .unknownKindRequest .. | .frameReceived _ | .interByteGap | .replySent | .reportSent | .rstAsserted
  | .rstDeasserted | .stationSecondTick | .presenceExpiry _ | .gapExpiry | .turnLimitExpiry | .idleHangExpiry
  | .relayOnExpiry | .ampOnExpiry | .tailExpiry | .ampOffExpiry | .relayOffExpiry | .bandSettleExpiry
  | .txLimitExpiry | .playout | .hangExpiry | .burstGapExpiry | .stuckKeyExpiry | .warmUpExpiry | .ampIdleExpiry
  | .scanCompletion .. | .intervalExpiry | .deadlineExpiry | .quietExpiry | .idElementTimer | .airTimeTenth
  | .residencyTenth _ | .inputLevelChange _ | .debounceExpiry _ | .killDebounceExpiry | .byteReceived .. => none

/-- Nothing comes about at once: no wait of 0 ms is over and no due identification can take the transmitter, and the
idle hang and the quiet timer run exactly while their conditions hold (R28, R34, R51, R155, R156). -/
abbrev State.settled (s : State) : Prop := s.settleStep = none ∧ s.syncIdle = s ∧ s.syncQuiet = s

/-- Between `h` and `s` the occurrence was raised to LNK: its flag is set, and where its report is enabled and the queue
had room to spare, the report stands among those that joined (R188, R189). -/
abbrev State.raised (h s : State) (r : Report) : Prop :=
  s.lnk.flags &&& kindBit r.index ≠ 0 ∧
    (h.lnk.reportEnable &&& kindBit r.index ≠ 0 → h.lnk.reports.length ≤ 8 →
      h.lnk.reports <+: s.lnk.reports ∧ r ∈ s.lnk.reports.drop h.lnk.reports.length)

/-- The bytes of a frame on the line: SYNC, LENGTH, KIND, TAG, ACTOR, PAYLOAD, CHECK (R181). -/
def wire (f : RawFrame) : List Byte :=
  sync :: BitVec.ofNat 8 (frameLength f) :: f.kind :: f.tag :: f.actor :: (f.payload ++ [f.check])

/-- The state after some bytes that arrive without a framing error and without a pause. -/
def State.hears (l : List Byte) (s : State) : State :=
  l.foldl (fun s b =>
    match exec (.byteReceived b false) s with
    | .next t => t
    | _ => s) s

/-- A command answers a next state of which something holds. -/
def Answers (i : Instr) (s : State) (p : State → Prop) : Prop := ∃ t, exec i s = .next t ∧ p t

/-! ### What stays as it is -/

/-- Everything the host configures, and what only a request, a reset or a tick of its own changes: station time, CLT,
the settings, the band map and the contexts, the limits, the routing and the levels, the kill latch, the commissioned
item, the link's buffer, counts and enables, the queue of commands. -/
structure Fixed where
  time : Clock × Clock × Clock × Bool
  clt : Clt
  settings : Settings
  bands : Table 12 BandRec
  barefootCal : Table 12 Context
  amplifiedCal : Table 12 Context
  limits : Limits
  inr : Inr
  latch : Bool × Bool
  used : Table 32 Nat
  link : Receiver × List RawFrame × LinkErrors × BitVec 16 × BitVec 16 × Bool
  pending : List Instr
  deriving DecidableEq, Repr

/-- What `Fixed` names, of a state. -/
def State.fixed (s : State) : Fixed where
  time := (s.clock, s.seconds, s.secondAt, s.rst)
  clt := s.clt
  settings := s.settings
  bands := s.drv.bands
  barefootCal := s.drv.barefootCal
  amplifiedCal := s.drv.amplifiedCal
  limits := s.msr.limits
  inr := s.inr
  latch := (s.prt.killLatch, s.prt.commissioned)
  used := s.acu.used
  link := (s.lnk.receiver, s.lnk.buffer, s.lnk.errors, s.lnk.reportEnable, s.lnk.attnEnable, s.lnk.restarting)
  pending := s.pending

/-! ### What an end or a start leaves -/

/-- Between `h` and `s` the turn `x` ended for a cause, outside a pause (R28, R35, R36): the holder is OPEN with its
presence timer stopped, or WAITING again when it is `again` queued; the gap runs; the turn is the newest record;
TURN_ENDED was raised; the keying, the PTT demand and a queued retune are gone; and nothing of MSR, of the station state
and of `fixed` changed. -/
abbrev State.turnEndedAs (h s : State) (x : Turn) (c : TurnEndCause) (again : Bool) : Prop :=
  s.arb = { h.arb with
    slots := h.arb.slots.write x.holder
      (if again then .waiting ⟨x.band, x.emission, x.power, .standing, .frame, false⟩ else .opened)
    presence := if again then h.arb.presence else h.arb.presence.write x.holder none
    arbiter := .gap, gap := some ⟨h.clock, h.arb.turnGap⟩ } ∧
  (h.acu.number < max32 → s.acu.records.getLast? = some ⟨h.acu.number + 1, false, some x.holder,
    (h.identity x.holder).callsign, some (h.identity x.holder).classIx, some x.band, x.emission, x.grantTime,
    h.seconds - x.grantTime, x.txCount, x.airTime, c⟩) ∧
  h.raised s (.turnEnded x.holder c again) ∧
  s.ktl.timeline = [] ∧ s.ktl.burst = none ∧ s.ktl.state = .up ∧ s.seq.pttDemand = false ∧ s.seq.queuedRetune = none ∧
  s.msr = h.msr ∧ s.prt.station = h.prt.station ∧ s.fixed = h.fixed

/-- Between `h` and `s` the transmission `x` left EXCITING by a normal end with a cause (R61): SEQ is in DRAIN with the
tail running, EXC, the KEY gate and DRIVE are off while TRR and AMPKEY stay, the context carries the cause with its limit
timer stopped, the PTT demand is clear, TX_ENDED was raised with the air time and the peak, and nothing of the station state
and of `fixed` changed. -/
abbrev State.txEndedAs (h s : State) (x : Tx) (c : TxEndCause) : Prop :=
  s.seq.state = .drain ∧ s.seq.step = some ⟨h.clock, h.seq.active.tail⟩ ∧ s.seq.exc = false ∧ s.seq.keyGate = false ∧
  s.seq.trr = h.seq.trr ∧ s.seq.ampkey = h.seq.ampkey ∧ s.drv.applied = { h.drv.applied with active := false } ∧
  (s.seq.tx.map fun y => (y.kind, y.endCause, y.limitStart, y.airTime)) = some (x.kind, some c, none, x.airTime) ∧
  s.seq.pttDemand = false ∧ h.raised s (.txEnded x.kind c x.airTime h.msr.peak) ∧ s.prt.station = h.prt.station ∧
  s.fixed = h.fixed

/-- No transmission was said to start or to end between `h` and `s`: the flags of TX_STARTED and TX_ENDED are as they
were, and no report of either joined the queue (R188, R189). -/
abbrev State.tellsNoTx (h s : State) : Prop :=
  s.lnk.flags &&& (kindBit 2 ||| kindBit 3) = h.lnk.flags &&& (kindBit 2 ||| kindBit 3) ∧
  ∀ r ∈ s.lnk.reports, r ∈ h.lnk.reports ∨ (r.index ≠ 2 ∧ r.index ≠ 3)

/-- Between `h` and `s` the arming of the transmission `x` was abandoned with a cause (R62): SEQ is in the disarm step that
its asserted lines call for, DISARM_AMP with AMPKEY asserted and DISARM_RELAY otherwise, with that step's wait running and
AMPKEY deasserted; EXC, the KEY gate and DRIVE stay off as they were; the context carries the cause; no TX_STARTED and no
TX_ENDED was raised; the PTT demand is clear (R55; at an end for another cause than PTT_OFF and LOCAL_RELEASE DEDUCED,
log 26); nothing of DRV, AMG, MSR, PRT, the air times used and `fixed` changed. -/
abbrev State.armingEndedAs (h s : State) (x : Tx) (c : TxEndCause) : Prop :=
  s.seq.state = (if h.seq.ampkey then .disarmAmp else .disarmRelay) ∧
  s.seq.step = some ⟨h.clock, if h.seq.ampkey then h.seq.active.ampOff else h.seq.active.relayOff⟩ ∧
  s.seq.ampkey = false ∧ s.seq.trr = (h.seq.trr && h.seq.ampkey) ∧ s.seq.exc = h.seq.exc ∧ s.seq.keyGate = h.seq.keyGate ∧
  (s.seq.tx.map fun y => (y.kind, y.path, y.airTime, y.endCause)) = some (x.kind, x.path, x.airTime, some c) ∧
  s.seq.pttDemand = false ∧ h.tellsNoTx s ∧ s.drv = h.drv ∧ s.amg = h.amg ∧ s.msr = h.msr ∧ s.prt = h.prt ∧
  s.fixed = h.fixed

/-- The turn limit or the idle hang that a change of the holder's class from `old` to `new` finds passed, as the cause of
the turn's end (R13; the turn limit before the idle hang, and only a changed limit: log 27). -/
def State.passedLimit (h : State) (x : Turn) (old new : ClassRec) : Option TurnEndCause :=
  if new.turnLimit ≠ old.turnLimit ∧ new.turnLimit * 60000 ≤ sinceMs h.clock x.grantClock then some .turnLimit
  else if new.idleHang ≠ old.idleHang ∧ x.idleStart.any (fun i => decide (new.idleHang * 1000 ≤ sinceMs h.clock i)) then
    some .idle
  else none

/-- The holder's transmission on the air has passed the transmission limit of `new`, which differs from `old`'s (R13). -/
def State.passedTxLimit (h : State) (old new : ClassRec) : Bool :=
  decide (new.txLimit ≠ old.txLimit) && h.memberExciting && h.seq.tx.any fun x =>
    x.limitStart.any fun l => decide (new.txLimit * 1000 ≤ sinceMs h.clock l)

/-- Between `h` and `s` a changed limit ended the turn `x` (R13, R35, R36): the holder is OPEN, or WAITING again in
STANDING mode; the gap runs; the turn is the newest record; TURN_ENDED's flag is set; and a transmission of the turn that
was on the air is in DRAIN with the cause TURN_END. -/
abbrev State.limitEnds (h s : State) (x : Turn) (c : TurnEndCause) : Prop :=
  s.arb.arbiter = .gap ∧ s.arb.gap = some ⟨h.clock, h.arb.turnGap⟩ ∧
  s.tenancy x.holder = (if x.mode = .standing then .waiting ⟨x.band, x.emission, x.power, .standing, .frame, false⟩
    else .opened) ∧
  (h.acu.number < max32 → s.acu.records.getLast?.map (fun r => (r.number, r.slot, r.grantTime, r.cause)) =
    some (h.acu.number + 1, some x.holder, x.grantTime, c)) ∧
  s.lnk.flags &&& kindBit 1 ≠ 0 ∧
  (h.memberExciting = true → h.seq.active.tail ≠ 0 →
    s.seq.state = .drain ∧ s.seq.exc = false ∧ (s.seq.tx.map (·.endCause)) = some (some .turnEnd))

/-- A changed transmission limit has ended the holder's transmission and not the turn `x` (R13). -/
abbrev State.txLimitEnds (s : State) (x : Turn) : Prop :=
  s.seq.state = .drain ∧ s.seq.exc = false ∧ s.drv.applied.active = false ∧
  (s.seq.tx.map (·.endCause)) = some (some .txLimit) ∧ s.lnk.flags &&& kindBit 3 ≠ 0 ∧
  s.turn.map (fun y => (y.holder, y.grantClock)) = some (x.holder, x.grantClock)

/-- The applied-power state of a transmission with the target `p`: P_eff is floor(p x f / 256), and D the code that the
path's context gives for it (R112, R113). -/
def State.drivenAt (h : State) (x : Tx) (p : Nat) : Applied :=
  ⟨true, some x.path, p, h.msr.factor, p * h.msr.factor / 256,
    driveCode (h.context x.band x.path) (p * h.msr.factor / 256)⟩

/-- Between `h` and `s` the holder's transmission `x` entered EXCITING (R60, R111 to R113, R120, R153): EXC and the KEY
gate are on, TRR and AMPKEY as they were, DRIVE is active with the drive of the turn `v`, the context counts from now
with its limit timer running, the peak and the over-current count are 0, the identification is owed with its interval
running, TX_STARTED was raised; of KTL and IDU nothing else changed, and nothing of ARB, AMG, PRT, ACU and `fixed`. -/
abbrev State.onAirAs (h s : State) (w : SlotId) (v : Turn) (x : Tx) : Prop :=
  s.seq = { h.seq with
    state := .exciting, step := none, exc := true, keyGate := true
    tx := some { x with excitedAt := h.clock, airTime := 0, endCause := none, limitStart := some h.clock } } ∧
  s.drv = { h.drv with applied := h.drivenAt x (h.target x.path (h.uncapped w x.band x.emission v.power)) } ∧
  s.msr = { h.msr with peak := 0, reported := false, overcurrentCount := 0 } ∧ s.idu.owed = true ∧
  s.idu.interval = (if h.idu.owed then h.idu.interval else some ⟨h.clock, h.idu.params.interval * 1000⟩) ∧
  h.raised s (.txStarted (.member w) x.band x.emission x.path v.txCount) ∧
  { s.ktl with gated := h.ktl.gated, hang := h.ktl.hang, stuck := h.ktl.stuck } = h.ktl ∧
  { s.idu with owed := h.idu.owed, interval := h.idu.interval } = h.idu ∧
  s.arb = h.arb ∧ s.amg = h.amg ∧ s.prt = h.prt ∧ s.acu = h.acu ∧ s.fixed = h.fixed

/-- Between `h` and `s` the identification `x` of the cycle `y` entered EXCITING (R60, R111 to R113, R158, R159): EXC and
the KEY gate are on, DRIVE is active with the ID power's drive, no limit timer runs, the peak and the over-current count
are 0, IDU is SENDING and keys the first element of the callsign, TX_STARTED was raised with a count of 0; nothing of ARB,
AMG, PRT, ACU and `fixed` changed. -/
abbrev State.identOnAirAs (h s : State) (x : Tx) (y : Cycle) : Prop :=
  s.seq = { h.seq with
    state := .exciting, step := none, exc := true, keyGate := true
    tx := some { x with excitedAt := h.clock, airTime := 0, endCause := none, limitStart := none } } ∧
  s.drv = { h.drv with applied := h.drivenAt x (h.target x.path (h.idUncapped x.band y.power)) } ∧
  s.msr = { h.msr with peak := 0, reported := false, overcurrentCount := 0 } ∧
  s.idu = { h.idu with
    cycle := .sending, context := some { y with todo := message y.callsign, entered := true }
    element := some ⟨h.clock, (((message y.callsign).head?.map (·.units)).getD 0) * (1200 / y.speed)⟩ } ∧
  h.raised s (.txStarted .ident x.band x.emission x.path 0) ∧
  { s.ktl with hang := h.ktl.hang, stuck := h.ktl.stuck } = h.ktl ∧
  s.arb = h.arb ∧ s.amg = h.amg ∧ s.prt = h.prt ∧ s.acu = h.acu ∧ s.fixed = h.fixed

end Sys2Proof.Machine
end

