-- ==== Sys2Proof/Certificates/Slice0/Obligations.lean ====
section
/-! DEFINITION. The statements for the provers. In each statement about a request, `h` is the state in which the owning
block finds the part (the earlier reply sent, the actor's presence timer restarted); in each statement about an occurrence
it is the state at the occurrence's instant. -/

section

open Sys2Proof Sys2Proof.Machine

/-- For every command c and state s, a step of s with c at the front of its queue is exec of c on s with the rest of
the queue. (95 What each step holds) -/
def Obligations.StepRunsFrontCommand : Prop :=
  ∀ (c : Instr) (s : State),
    step { s with pending := c :: s.pending } = exec c s

/-- DESIGN CHOICE (log 2). With no command waiting: while RST is asserted nothing moves; else an occurrence whose
instant has come runs; else the oldest buffered frame is taken when no reply is owed: the command it spells runs, a
payload of another length than its kind calls for is answered BAD_LENGTH with nothing else done, and a Query of an
unknown topic by an allowed actor BAD_ARGUMENT; else one millisecond of the station clock passes. (R1, R183, R187) -/
def Obligations.IdleStep : Prop :=
  (∀ (s : State),
     s.pending = [] →
     s.rst = true →
     step s = .next s) ∧
  (∀ (i : Instr) (s : State),
     s.pending = [] →
     s.rst = false →
     s.nextDue = some i →
     step s = exec i s) ∧
  (∀ (f : RawFrame) (i : Instr) (s : State),
     s.pending = [] →
     s.rst = false →
     s.nextDue = none →
     s.nextFrameIn = some f →
     parseFrame f = .command i →
     step s = exec i { s with lnk := { s.lnk with buffer := s.lnk.buffer.tail } }) ∧
  (∀ (f : RawFrame) (s : State),
     s.pending = [] →
     s.rst = false →
     s.nextDue = none →
     s.nextFrameIn = some f →
     parseFrame f = .badLength →
     step s = .next (State.answer f.kind.toNat f.tag.toNat .badLength .empty
      (State.readyToTake { s with lnk := { s.lnk with buffer := s.lnk.buffer.tail } }))) ∧
  (∀ (f : RawFrame) (a : Actor) (s : State),
     s.pending = [] →
     s.rst = false →
     s.nextDue = none →
     s.tenthsDue = 0 →
     s.nextFrameIn = some f →
     parseFrame f = .unknownTopic →
     actorOf f.actor.toNat = some a →
     s.permitsActor .anyActor a = true →
     step s = .next (State.answer 0x0E f.tag.toNat .badArgument .empty
      (State.heard a { s with lnk := { s.lnk with buffer := s.lnk.buffer.tail } }))) ∧
  (∀ (s : State),
     s.pending = [] →
     s.rst = false →
     s.nextDue = none →
     s.nextFrameIn = none →
     step s = .next (s.elapse 1))

/-- State.reset: station time 0; no class allows anything and every slot is VACANT with no callsign, class 0 and no
allowance; slot n has rank 31 - n; the arbiter is FREE with a turn gap of 2,000 ms and a presence timeout of 10 s; SEQ
is QUIET with the current band unset, BAND code 0, every line deasserted and the default profile; the timeline is
empty and UP; every band is disabled and every context empty; the amplifier is OFF; f is 256; the fault list is empty
and the station UNCOMMISSIONED; no identification is owed; no air time and no records; the link hunts with nothing
queued and all enables off. The contact levels (the model's choice, log 5) are no part of this statement. (R2, R4,
R17, R26, R49, R51, R72, R73, R112, R117, R134, R164) -/
def Obligations.ResetValues : Prop :=
  (State.reset.clock = 0 ∧ State.reset.seconds = 0 ∧ State.reset.rst = false) ∧
  (∀ c, State.reset.clt.classes.read c =
    { bands := Table.build fun _ => false, ceilings := Table.build fun _ => 100, cw := false, phone := false, data := false,
      priority := 0, control := false, singleOver := false, turnLimit := 10, idleHang := 60, txLimit := 180 }) ∧
  (∀ w, State.reset.tenancy w = .vacant ∧ State.reset.identity w = ⟨none, 0, none, false⟩ ∧
    State.reset.arb.ranks.read w = 31 - w.val ∧ State.reset.arb.presence.read w = none ∧ State.reset.acu.used.read w = 0) ∧
  (State.reset.arb.arbiter = .free ∧ State.reset.arb.gap = none ∧ State.reset.arb.turnGap = 2000 ∧
    State.reset.arb.presenceTimeout = 10) ∧
  (State.reset.seq.state = .quiet ∧ State.reset.seq.currentBand = none ∧ State.reset.seq.bandCode = 0 ∧
    State.reset.seq.active = ⟨15, 10, 10, 10, 20, 20⟩ ∧ State.reset.silent) ∧
  (State.reset.ktl.timeline = [] ∧ State.reset.ktl.state = .up ∧ State.reset.ktl.params = ⟨120, 40, 400, 3000, 8⟩) ∧
  (∀ b, (State.reset.drv.bands.read b).enabled = false ∧ ∀ p, State.reset.context b p = none) ∧
  (State.reset.amg.state = .off ∧ State.reset.msr.factor = 256 ∧ State.reset.prt.faults = [] ∧
    State.reset.prt.station = .uncommissioned ∧ State.reset.prt.commissioned = false) ∧
  (State.reset.idu.owed = false ∧ State.reset.idu.due = false ∧ State.reset.idu.cycle = .idle ∧
    State.reset.acu.records = [] ∧ State.reset.acu.number = 0) ∧
  (State.reset.lnk.receiver = .hunting ∧ State.reset.lnk.buffer = [] ∧ State.reset.lnk.reports = [] ∧
    State.reset.lnk.flags = 0 ∧ State.reset.lnk.reportEnable = 0 ∧ State.reset.lnk.attnEnable = 0)

/-- RST_DEASSERTED, in every state, gives every block its full-reset value, but for the contacts: each debounced level
starts from the raw level as it stands, KILL's from KILL, and the kill latch is set and the station KILLED exactly
when KILL is asserted (else UNCOMMISSIONED). The commands that wait stay (the model's queue, log 30). That the row
does so also while RST is not asserted is the model's choice (log 37). (R150, R173, R179, R190) -/
def Obligations.FullReset : Prop :=
  ∀ (s : State),
    Answers (.rstDeasserted) s fun t =>
      t.rst = false ∧ t.clock = 0 ∧ t.seconds = 0 ∧ t.secondAt = 0 ∧ t.pending = s.pending ∧
      t.lnk = State.reset.lnk ∧ t.clt = State.reset.clt ∧ t.arb = State.reset.arb ∧ t.seq = State.reset.seq ∧
      t.ktl = State.reset.ktl ∧ t.drv = State.reset.drv ∧ t.amg = State.reset.amg ∧ t.msr = State.reset.msr ∧
      t.idu = State.reset.idu ∧ t.acu = State.reset.acu ∧ t.prt.faults = [] ∧ t.prt.commissioned = false ∧
      (t.prt.killLatch = s.inr.kill.raw ∧ t.prt.station = (if s.inr.kill.raw then .killed else .uncommissioned)) ∧
      t.inr.kill = ⟨s.inr.kill.raw, s.inr.kill.raw, none⟩ ∧
      (∀ i, t.inr.inputs.read i =
      ⟨.none, .level, .activeHigh, 10, (s.inr.inputs.read i).raw, (s.inr.inputs.read i).raw, none⟩)

/-- RST_ASSERTED deasserts every output line but BAND, makes the duty of DRIVE 0 and ATTN deasserted, and the
transmitter sends nothing. Everything but those lines is as it was: that the registers keep what they hold until RST
is deasserted is the model's choice (log 6). (R49, R101, R114, R150, R188, R190) -/
def Obligations.RstSilencesThePart : Prop :=
  ∀ (s : State),
    Answers (.rstAsserted) s fun t =>
      t.rst = true ∧ t.silent ∧ t.keyLine = false ∧ t.driveDuty = 0 ∧ t.attnLine = false ∧ t.nextFrame = none ∧
      t.seq.bandCode = s.seq.bandCode ∧
      { t with
      rst := s.rst, drv := s.drv, amg := { t.amg with amppwr := s.amg.amppwr }
      seq := { t.seq with
        trr := s.seq.trr, ampkey := s.seq.ampkey, exc := s.seq.exc, idm := s.seq.idm, keyGate := s.seq.keyGate } } = s ∧
      t.drv = { s.drv with applied := { s.drv.applied with active := false } }

/-- DESIGN CHOICE (log 6). In a state with RST asserted every command but RST_ASSERTED, RST_DEASSERTED and
INPUT_LEVEL_CHANGE leaves the state as it is; INPUT_LEVEL_CHANGE changes the raw level alone. (R150, R175, R190) -/
def Obligations.NothingMovesUnderRst : Prop :=
  (∀ (c : Instr) (s : State),
     s.rst = true →
     c ≠ .rstAsserted →
     c ≠ .rstDeasserted →
     (∀ x, c ≠ .inputLevelChange x) →
     exec c s = .next s) ∧
  (∀ (i : InputId) (high : Bool) (s : State),
     s.rst = true →
     exec (.inputLevelChange (.wired i high)) s = .next ({ s with inr := { s.inr with inputs := s.inr.inputs.write i { s.inr.inputs.read i with raw := high } } })) ∧
  (∀ (asserted : Bool) (s : State),
     s.rst = true →
     exec (.inputLevelChange (.kill asserted)) s = .next ({ s with inr := { s.inr with kill := { s.inr.kill with raw := asserted } } }))

/-- Restart from STATION makes the reply OK ready and changes nothing else but that LNK takes no further request; the
end of the reply's last byte then brings the full reset. The end of any other reply takes that reply off, with the
reports queued ahead of it, which have left before it (where REPLY_SENT comes with such reports still queued, they are
taken as sent: the model's choice, log 4). REPORT_SENT takes the oldest report off; where it comes while a ready reply
has none ahead of it, that reply is taken as sent first (the model's choice, log 4), and with no report queued it has
no effect (log 1). The earlier reply is taken as sent when Restart is taken (the model's choice, log 4). (R183, R190)
-/
def Obligations.RestartResetsAfterItsReply : Prop :=
  (∀ (tag : Nat) (s : State),
     let h : State := s.readyToTake
     s.closed = false →
     s.tenthsDue = 0 →
     Answers (.restart tag 0xFF) s fun t =>
       t.replied 0x01 tag .ok .empty ∧ t.closed = true ∧ t.nextFrameIn = none ∧
       { t with lnk := { t.lnk with reply := h.lnk.reply, restarting := h.lnk.restarting } } = h ∧
       exec .replySent t = .next t.fullReset) ∧
  (∀ (r : Reply) (s : State),
     s.rst = false →
     s.lnk.restarting = false →
     s.lnk.reply = some r →
     exec (.replySent) s = .next ({ s with lnk := { s.lnk with reply := none, reports := s.lnk.reports.drop r.ahead } })) ∧
  (∀ (p : Report) (l : List Report) (r : Reply) (s : State),
     s.rst = false →
     s.lnk.restarting = false →
     s.lnk.reply = some r →
     r.ahead = 0 →
     s.lnk.reports = p :: l →
     exec (.reportSent) s = .next ({ s with lnk := { s.lnk with reply := none, reports := l } })) ∧
  (∀ (s : State),
     s.lnk.reports = [] →
     exec (.reportSent) s = .next (s))

/-- For every request of the catalogue: while RST is asserted or a Restart has been taken it has no effect; with an
ACTOR byte that names no actor, or an actor whom the catalogue (the function asked) does not allow the kind, or a
VACANT slot, its only effect is the reply BAD_ACTOR with an empty payload. UNKNOWN_KIND_REQUEST with a kind outside
the catalogue only makes ready a reply with KIND 0xFF, the request's TAG, UNKNOWN_KIND and an empty payload (no
presence timer restarts). A frame that LNK turns away for its length is answered BAD_LENGTH in the same way, its kind
echoed; it is one of a kind without fields that has a payload, a SetLimits whose payload is not 20 bytes (nine fields
of two bytes and two of one; with 20 it is the command), or a Query without its topic byte; a Query of a topic code
above 12 is no BAD_LENGTH: it is refused with BAD_ARGUMENT. The earlier reply is taken as sent (the model's choice,
log 4). (R22, R181, R183, R184, R187, R190) -/
def Obligations.RequestsAreCheckedFirst : Prop :=
  (∀ (i : Instr) (q : Asked) (s : State),
     asked i = some q →
     s.closed = true →
     exec i s = .next s) ∧
  (∀ (i : Instr) (q : Asked) (s : State),
     asked i = some q →
     s.closed = false →
     s.tenthsDue = 0 →
     (∀ a ∈ actorOf q.actor, s.permitsActor q.who a = false) →
     exec i s = .next (s.readyToTake.answer q.kind q.tag .badActor .empty)) ∧
  (∀ (n : Nat) (s : State),
     (actorOf n = none ↔ 31 < n ∧ n ≠ 255) ∧ s.permitsActor .ownSlot .station = false ∧
    ∀ w, s.tenancy w = .vacant → ∀ who, s.permitsActor who (.slot w) = false) ∧
  (∀ (kind : Nat) (tag : Nat) (actor : Nat) (s : State),
     let h : State := s.readyToTake
     catalogueKind kind = false →
     s.closed = false →
     Answers (.unknownKindRequest kind tag actor) s fun t =>
       t.lnk.reply = some ⟨0xFF, tag, .unknownKind, .empty, s.readyToTake.lnk.reports.length⟩ ∧
       { t with lnk := { t.lnk with reply := h.lnk.reply } } = h) ∧
  (∀ (f : RawFrame) (s : State),
     let h : State := s.readyToTake
     s.closed = false →
     s.turnAwayFrame f false = State.answer f.kind.toNat f.tag.toNat .badLength .empty h) ∧
  (∀ (f : RawFrame),
     f.kind ∈ [0x01, 0x02, 0x03, 0x10, 0x21, 0x22, 0x23, 0x24, 0x25, 0x34, 0x35, 0x36] →
     f.payload ≠ [] →
     parseFrame f = .badLength) ∧
  (∀ (f : RawFrame),
     f.kind = 0x0A →
     f.payload.length ≠ 20 →
     parseFrame f = .badLength) ∧
  (∀ (f : RawFrame),
     f.kind = 0x0A →
     f.payload.length = 20 →
     ∃ p, parseFrame f = .command (.setLimits f.tag.toNat f.actor.toNat p)) ∧
  (∀ (f : RawFrame),
     f.kind = 0x0E →
     (f.payload = [] → parseFrame f = .badLength) ∧
    ∀ p l, f.payload = p :: l → 12 < p.toNat → parseFrame f = .unknownTopic)

/-- Every reply frame and every report frame starts with SYNC 0xA5, and the sum of every byte from LENGTH to CHECK is
0 modulo 256. A report's KIND is 0xE0 plus its event index and its TAG 0. A turn record whose callsign has at most ten
characters is laid out in exactly 35 bytes. In a Query RECORDS reply nine bytes stand before the records, and the
oldest and newest numbers of an empty list read 0. (R170, R181, R192) -/
def Obligations.FramesSumToZero : Prop :=
  (∀ (r : Reply),
     r.frame.head? = some 0xA5 ∧ byteSum (r.frame.drop 1) = 0) ∧
  (∀ (r : Report),
     r.frame.head? = some 0xA5 ∧ byteSum (r.frame.drop 1) = 0 ∧
    (r.frame.drop 2).take 2 = [BitVec.ofNat 8 (0xE0 + r.index), 0]) ∧
  (∀ (r : TurnRec),
     (∀ c ∈ r.callsign, c.length ≤ 10) →
     (recordBytes r).length = 35) ∧
  (∀ (a : Option Nat) (b : Option Nat) (l : List TurnRec),
     (∀ r ∈ l, ∀ c ∈ r.callsign, c.length ≤ 10) →
     (bodyBytes (.queryRecords a b l)).length = 9 + 35 * l.length ∧
    bodyBytes (.queryRecords none none []) = List.replicate 9 0)

/-- For every frame of LENGTH 3 to 250, with RST deasserted and the receiver hunting: hearing SYNC, LENGTH, KIND, TAG,
ACTOR, PAYLOAD and CHECK as BYTE_RECEIVED one after another, without error or pause, does exactly what FRAME_RECEIVED
of that frame does. At LENGTH 165, whose byte is 0xA5, that the byte is taken as a length is the model's choice (log
46). (R181, R182) -/
def Obligations.BytesMakeTheFrame : Prop :=
  ∀ (f : RawFrame) (s : State),
    f.wf = true →
    s.rst = false →
    s.lnk.receiver = .hunting →
    exec (.frameReceived f) s = .next (s.hears (wire f))

/-- FRAME_RECEIVED with LENGTH up to 250: a frame whose sum is not 0 is abandoned with CHECK; one that passes while 4
frames are buffered with OVERFLOW; any other joins the newest end of the receive buffer, whatever bytes stood before
it on the line (the model's choice, log 25). An abandoned frame counts 1 error of its reason (up to 65,535) and raises
LINK_ERROR with the count. The receiver hunts; nothing else changes. (R181, R182) -/
def Obligations.FramesAreChecked : Prop :=
  (∀ (f : RawFrame) (s : State),
     let n : Nat := min 65535 (s.lnk.errors.check + 1)
     s.rst = false →
     f.wf = true →
     frameSum f ≠ 0 →
     exec (.frameReceived f) s = .next (State.raise (.linkError .check n) { s with lnk := { s.lnk with receiver := .hunting, errors := { s.lnk.errors with check := n } } })) ∧
  (∀ (f : RawFrame) (s : State),
     let n : Nat := min 65535 (s.lnk.errors.overflow + 1)
     s.rst = false →
     f.wf = true →
     frameSum f = 0 →
     4 ≤ s.lnk.buffer.length →
     exec (.frameReceived f) s = .next (State.raise (.linkError .overflow n) { s with lnk := { s.lnk with receiver := .hunting, errors := { s.lnk.errors with overflow := n } } })) ∧
  (∀ (f : RawFrame) (s : State),
     s.rst = false →
     f.wf = true →
     frameSum f = 0 →
     s.lnk.buffer.length < 4 →
     exec (.frameReceived f) s = .next ({ s with lnk := { s.lnk with receiver := .hunting, buffer := s.lnk.buffer ++ [f] } }))

/-- Hunting, SYNC without a framing error puts the receiver in a frame and every other byte changes nothing. In a
frame: a byte with a framing error abandons it with FRAMING (one that would also be a LENGTH outside 3 to 250, too:
the model's choice, log 52); a first byte (LENGTH) outside 3 to 250 abandons it with LENGTH and is examined again in
hunting, while 0xA5 = 165, which lies within 3 to 250, is taken as a length (the model's choice, log 46); after a GAP
the late byte is examined in hunting, so that 0xA5 starts a new frame; a byte more than 20 ms after the one before, or
INTER_BYTE_GAP, abandons it with GAP; any other byte that does not complete the frame is taken. An occurrence
commanded before its instant brings the clock forward to it (the model's choice, log 1). (R182) -/
def Obligations.TheReceiverHunts : Prop :=
  (∀ (b : Byte) (e : Bool) (s : State),
     s.rst = false →
     s.lnk.receiver = .hunting →
     exec (.byteReceived b e) s = .next (if b = 0xA5 ∧ e = false then { s with lnk := { s.lnk with receiver := .inFrame [] s.clock } } else s)) ∧
  (∀ (b : Byte) (l : List Byte) (at_ : Clock) (s : State),
     let n : Nat := min 65535 (s.lnk.errors.framing + 1)
     s.rst = false →
     s.lnk.receiver = .inFrame l at_ →
     sinceMs s.clock at_ ≤ 20 →
     exec (.byteReceived b true) s = .next (State.raise (.linkError .framing n) { s with lnk := { s.lnk with receiver := .hunting, errors := { s.lnk.errors with framing := n } } })) ∧
  (∀ (b : Byte) (at_ : Clock) (s : State),
     let n : Nat := min 65535 (s.lnk.errors.length + 1)
     s.rst = false →
     s.lnk.receiver = .inFrame [] at_ →
     sinceMs s.clock at_ ≤ 20 →
     b.toNat < 3 ∨ 250 < b.toNat →
     exec (.byteReceived b false) s = .next (State.raise (.linkError .length n)
        { s with lnk := { s.lnk with receiver := if b = 0xA5 then .inFrame [] s.clock else .hunting, errors := { s.lnk.errors with length := n } } })) ∧
  (∀ (b : Byte) (l : List Byte) (at_ : Clock) (s : State),
     s.rst = false →
     s.lnk.receiver = .inFrame l at_ →
     sinceMs s.clock at_ ≤ 20 →
     l ≠ [] ∨ (3 ≤ b.toNat ∧ b.toNat ≤ 250) →
     frameOf (l ++ [b]) = none →
     exec (.byteReceived b false) s = .next ({ s with lnk := { s.lnk with receiver := .inFrame (l ++ [b]) s.clock } })) ∧
  (∀ (b : Byte) (l : List Byte) (at_ : Clock) (s : State),
     let n : Nat := min 65535 (s.lnk.errors.gap + 1)
     s.rst = false →
     s.lnk.receiver = .inFrame l at_ →
     20 < sinceMs s.clock at_ →
     exec (.byteReceived b false) s = .next (State.raise (.linkError .gap n)
        { s with lnk := { s.lnk with receiver := if b = 0xA5 then .inFrame [] s.clock else .hunting, errors := { s.lnk.errors with gap := n } } })) ∧
  (∀ (l : List Byte) (at_ : Clock) (s : State),
     let h : State := s.bringTo (at_ + 21)
     let n : Nat := min 65535 (h.lnk.errors.gap + 1)
     s.rst = false →
     s.lnk.receiver = .inFrame l at_ →
     exec (.interByteGap) s = .next (State.raise (.linkError .gap n) { h with lnk := { h.lnk with receiver := .hunting, errors := { h.lnk.errors with gap := n } } }))

/-- R189 whole. A raised occurrence sets its flag, and with its report enable set its report joins the newest end of a
queue of fewer than 16, or is dropped and counted as lost (up to 65,535), so that the queue never holds more than 16;
a ready reply stays ahead of it. The next frame of a free transmitter is the ready reply when no report stands ahead
of it, else the oldest report; with neither, and under RST, there is none. REPORT_SENT takes the oldest report off,
and REPLY_SENT the reply, when no report stood ahead of it. For every request of the catalogue, taken when no reply is
owed: every report queued by then, those raised while it is handled included, stands ahead of its reply. A full reset,
by RST or after a Restart's reply, empties the queue and zeroes the lost count. With the lost count within its 65,535,
as every step keeps it (CapacitiesHold), Decommission keeps both (its own reports join behind, or are lost and
counted; with every report disabled nothing changes), and the oldest report is the next frame. (R189) -/
def Obligations.RepliesGoBehindEarlierReports : Prop :=
  (∀ (r : Reply) (s : State),
     s.rst = false →
     s.lnk.restarting = false →
     s.lnk.reply = some r →
     r.ahead = 0 ∨ s.lnk.reports = [] →
     exec (.replySent) s = .next ({ s with lnk := { s.lnk with reply := none } })) ∧
  (∀ (p : Report) (l : List Report) (s : State),
     s.rst = false →
     s.lnk.restarting = false →
     s.lnk.reply = none →
     s.lnk.reports = p :: l →
     exec (.reportSent) s = .next ({ s with lnk := { s.lnk with reports := l } })) ∧
  (∀ (p : Report) (l : List Report) (r : Reply) (s : State),
     s.rst = false →
     s.lnk.reply = some r →
     s.lnk.reports = p :: l →
     0 < r.ahead →
     exec (.reportSent) s = .next ({ s with lnk := { s.lnk with reports := l, reply := some { r with ahead := r.ahead - 1 } } })) ∧
  (∀ (r : Report) (s : State),
     (s.raise r).lnk.flags = s.lnk.flags ||| kindBit r.index ∧ (s.raise r).lnk.reply = s.lnk.reply ∧
    (s.lnk.reports.length ≤ 16 → (s.raise r).lnk.reports.length ≤ 16) ∧
    (s.lnk.lost ≤ 65535 → (s.raise r).lnk.lost ≤ 65535) ∧
    (s.lnk.reportEnable &&& kindBit r.index = 0 → (s.raise r).lnk.reports = s.lnk.reports ∧ (s.raise r).lnk.lost = s.lnk.lost) ∧
    (s.lnk.reportEnable &&& kindBit r.index ≠ 0 → s.lnk.reports.length < 16 →
      (s.raise r).lnk.reports = s.lnk.reports ++ [r] ∧ (s.raise r).lnk.lost = s.lnk.lost) ∧
    (s.lnk.reportEnable &&& kindBit r.index ≠ 0 → 16 ≤ s.lnk.reports.length →
      (s.raise r).lnk.reports = s.lnk.reports ∧ (s.raise r).lnk.lost = min 65535 (s.lnk.lost + 1))) ∧
  (∀ (s : State),
     s.rst = true →
     s.nextFrame = none) ∧
  (∀ (r : Reply) (s : State),
     s.rst = false →
     s.lnk.reply = some r →
     r.ahead = 0 ∨ s.lnk.reports = [] →
     s.nextFrame = some r.frame) ∧
  (∀ (p : Report) (l : List Report) (s : State),
     s.rst = false →
     s.lnk.reports = p :: l →
     (∀ r ∈ s.lnk.reply, 0 < r.ahead) →
     s.nextFrame = some p.frame) ∧
  (∀ (s : State),
     s.rst = false →
     s.lnk.reply = none →
     s.lnk.reports = [] →
     s.nextFrame = none) ∧
  (∀ (i : Instr) (q : Asked) (s : State),
     asked i = some q →
     s.closed = false →
     s.lnk.reply = none →
     Answers (i) s fun t =>
       (t.lnk.reply.map (·.ahead)) = some t.lnk.reports.length) ∧
  (∀ (s : State),
     s.rst = true →
     Answers (.rstDeasserted) s fun t =>
       t.lnk.reports = [] ∧ t.lnk.lost = 0) ∧
  (∀ (r : Reply) (s : State),
     s.rst = false →
     s.lnk.restarting = true →
     s.lnk.reply = some r →
     r.ahead = 0 ∨ s.lnk.reports = [] →
     Answers (.replySent) s fun t =>
       t.lnk.reports = [] ∧ t.lnk.lost = 0) ∧
  (∀ (tag : Nat) (s : State),
     s.closed = false →
     s.lnk.reply = none →
     s.lnk.lost ≤ 65535 →
     Answers (.decommission tag 0xFF) s fun t =>
       s.lnk.reports <+: t.lnk.reports ∧ s.lnk.lost ≤ t.lnk.lost ∧
       (s.lnk.reportEnable = 0 → t.lnk.reports = s.lnk.reports ∧ t.lnk.lost = s.lnk.lost) ∧
       (∀ p ∈ s.lnk.reports.head?, t.nextFrame = some p.frame))

/-- SetEvents stores the two sets and changes no flag and no queued report; ClearEvents clears the flags of the named
kinds, answers with the flags as they stood, and removes no report; ATTN is asserted exactly while some kind has flag
and attention enable set and RST is deasserted. The earlier reply is taken as sent (the model's choice, log 4). (R188)
-/
def Obligations.EventEnables : Prop :=
  (∀ (tag : Nat) (x : BitVec 16) (y : BitVec 16) (s : State),
     let h : State := s.readyToTake
     s.closed = false →
     s.tenthsDue = 0 →
     exec (.setEvents tag 0xFF x y) s = .next (State.answer 0x0B tag .ok .empty { h with lnk := { h.lnk with reportEnable := x, attnEnable := y } })) ∧
  (∀ (tag : Nat) (x : BitVec 16) (s : State),
     let h : State := s.readyToTake
     s.closed = false →
     s.tenthsDue = 0 →
     exec (.clearEvents tag 0xFF x) s = .next (State.answer 0x0C tag .ok (.flags h.lnk.flags) { h with lnk := { h.lnk with flags := h.lnk.flags &&& ~~~x } })) ∧
  (∀ (s : State),
     s.attnLine = true ↔ s.rst = false ∧ s.lnk.flags &&& s.lnk.attnEnable ≠ 0)

/-- Invariant, for every state and every step: EXC is asserted and the KEY gate open exactly in EXCITING; TRR is
asserted exactly in ARM_RELAY, ARM_AMP, EXCITING, DRAIN and DISARM_AMP, IDM in the same states for an ID transmission
alone, AMPKEY exactly in ARM_AMP, EXCITING and DRAIN on the AMPLIFIED path; KEY is asserted only in EXCITING, where it
follows the key state for a MEMBER transmission and the element IDU keys for an ID transmission; DRIVE is active only
in EXCITING; AMPPWR is asserted exactly while the amplifier is WARMING or ON; every state but QUIET and RETUNE has a
transmission context; and while RST is asserted every line is deasserted. (R49, R50, R58, R60, R61, R63, R69, R85,
R101, R114, R150, R159) -/
def Obligations.LinesFollowTheSequencer : Prop :=
  ∀ (t : State) (s : State),
    s.linesFollow →
    step s = .next t →
    t.linesFollow

/-- Invariant, for every state and every step: the station state is the one R142 derives (KILLED with the kill latch
set, else UNCOMMISSIONED when not commissioned, else TRIPPED with a latched-trip record, else HELD with a hold
condition present, else READY), and in ARM_RELAY, ARM_AMP and EXCITING it is READY. (R53, R56, R71, R142, R143, R144,
R145, R149) -/
def Obligations.OnTheAirOnlyWhenReady : Prop :=
  ∀ (t : State) (s : State),
    s.armsOnlyReady ∧ s.stationFollows →
    step s = .next t →
    t.armsOnlyReady ∧ t.stationFollows

/-- Invariant, for every state and every step: the ranks of the 32 slots are below 32 and no two slots have the same
rank. (R17, R23) -/
def Obligations.RanksStayAPermutation : Prop :=
  ∀ (t : State) (s : State),
    s.ranksPermute →
    step s = .next t →
    t.ranksPermute

/-- Three invariants, each for every state and every step: slot w is HOLDING if and only if the arbiter is TURN with
holder w, so at most one slot holds the transmitter; without a turn there is no claim, no running deadline and no
transmission of a current turn in SEQ; the identification has a context exactly outside IDLE, its start waits only in
STARTING, its transmission is armed or on the air only in STARTING or SENDING with no start waiting, and an element is
keyed only while it is in EXCITING. (R17, R26, R30, R35, R49, R56, R151, R157, R158, R159, R160, R161) -/
def Obligations.HoldingMeansHolder : Prop :=
  (∀ (t : State) (s : State),
     s.oneHolder →
     step s = .next t →
     t.oneHolder) ∧
  (∀ (t : State) (s : State),
     s.marksStand →
     step s = .next t →
     t.marksStand) ∧
  (∀ (t : State) (s : State),
     s.idRests →
     step s = .next t →
     t.idRests)

/-- Invariant, for every state and every step: at most 4 buffered frames, 16 queued reports, 64 timeline entries and
32 turn records, at most one fault record of a kind, and a reports-lost count of at most 65,535. (R72, R81, R134,
R136, R170, R182, R189) -/
def Obligations.CapacitiesHold : Prop :=
  ∀ (t : State) (s : State),
    s.withinCapacity →
    step s = .next t →
    t.withinCapacity

/-- State.reset has its lines as R50 gives them, arms nothing, its station state derived, its ranks a permutation, no
slot holding without a turn, no mark of a turn or of an identification, and every queue within capacity. (R17, R50,
R134, R142) -/
def Obligations.ResetMeetsTheInvariants : Prop :=
  State.reset.linesFollow ∧ State.reset.armsOnlyReady ∧ State.reset.stationFollows ∧ State.reset.ranksPermute ∧
    State.reset.oneHolder ∧ State.reset.marksStand ∧ State.reset.idRests ∧ State.reset.withinCapacity

/-- For every command and state: if the kill latch is set before and clear after, the command was Resume,
RST_DEASSERTED, or the end of a Restart's reply. While the latch stays set, no command brings the sequencer into
ARM_RELAY, ARM_AMP or EXCITING (given the station state is derived and nothing is armed unless READY). (R134, R140,
R141, R150) -/
def Obligations.KillLatchHolds : Prop :=
  (∀ (c : Instr) (t : State) (s : State),
     s.prt.killLatch = true →
     exec c s = .next t →
     t.prt.killLatch = false →
     (∃ tag actor, c = .resume tag actor) ∨ c = .rstDeasserted ∨ (c = .replySent ∧ s.lnk.restarting = true)) ∧
  (∀ (c : Instr) (t : State) (s : State),
     s.prt.killLatch = true →
     s.stationFollows →
     s.armsOnlyReady →
     exec c s = .next t →
     t.prt.killLatch = true →
     t.prt.station = .killed ∧ t.arming = false ∧ t.seq.state ≠ .exciting)

/-- For every Query topic, every actor the catalogue allows and every state in which LNK takes requests: the Query
completes, and the state afterwards is the one it found (with the actor's presence timer restarted) but for the reply.
A reply still owed is taken as sent first, with the reports ahead of it (the model's choice, log 4). (R184, R187) -/
def Obligations.QueriesOnlyAnswer : Prop :=
  ∀ (i : Instr) (tag : Nat) (actor : Nat) (a : Actor) (s : State),
    asked i = some ⟨0x0E, tag, actor, .anyActor⟩ →
    s.takes .anyActor actor a →
    ∃ x b, exec i s = .next ((s.heard a).answer 0x0E tag x b)

/-- CLASS, BAND, CAL and SLOT show the record, context or slot named, and an index outside its set (or a path code
other than 0 and 1) is answered BAD_ARGUMENT with an empty payload; QUEUE refuses a start above 31; MEASURE shows the
scan record with W_fwd and W_ref as the scan's completion made them (DEDUCED from R126, log 43), absent while the
current band is unset; FAULTS, RECORDS (up to six from a number on), EVENTS and PROFILE show the items the state
holds, and COUNTERS the six values in the order of R168; INPUTS shows each entry with its levels and whether it is
active (its debounced level is the one its polarity names), each function with whether a LEVEL input of it is active
and how many are routed to it, KILL and the latch; STATION shows the station, turn, sequencer, KTL, amplifier, drive
and identification items with the time since the grant (in ms, the model's choice, log 41) and what is left on each
timer, and every SetStation setting; in the gap between two characters it shows the index of the character before (the
model's choice, log 38). The earlier reply is taken as sent (the model's choice, log 4). (R2, R25, R52, R94, R97,
R119, R138, R169, R171, R173, R187) -/
def Obligations.QueryContents : Prop :=
  (∀ (tag : Nat) (actor : Nat) (a : Actor) (c : ClassId) (s : State),
     let h : State := s.heard a
     s.takes .anyActor actor a →
     exec (.queryClass tag actor c.val) s = .next (State.answer 0x0E tag .ok (.queryClass (s.clt.classes.read c)) h)) ∧
  (∀ (tag : Nat) (actor : Nat) (a : Actor) (n : Nat) (s : State),
     let h : State := s.heard a
     s.takes .anyActor actor a →
     8 ≤ n →
     exec (.queryClass tag actor n) s = .next (State.answer 0x0E tag .badArgument (.empty) h)) ∧
  (∀ (tag : Nat) (actor : Nat) (a : Actor) (b : BandId) (s : State),
     let h : State := s.heard a
     s.takes .anyActor actor a →
     exec (.queryBand tag actor b.val) s = .next (State.answer 0x0E tag .ok (.queryBand (s.drv.bands.read b)) h)) ∧
  (∀ (tag : Nat) (actor : Nat) (a : Actor) (n : Nat) (s : State),
     let h : State := s.heard a
     s.takes .anyActor actor a →
     12 ≤ n →
     exec (.queryBand tag actor n) s = .next (State.answer 0x0E tag .badArgument (.empty) h)) ∧
  (∀ (tag : Nat) (actor : Nat) (a : Actor) (b : BandId) (amplified : Bool) (s : State),
     let h : State := s.heard a
     s.takes .anyActor actor a →
     exec (.queryCal tag actor b.val (if amplified then 1 else 0)) s = .next (State.answer 0x0E tag .ok (.queryCal (if amplified then s.drv.amplifiedCal.read b else s.drv.barefootCal.read b)) h)) ∧
  (∀ (tag : Nat) (actor : Nat) (a : Actor) (n : Nat) (m : Nat) (s : State),
     let h : State := s.heard a
     s.takes .anyActor actor a →
     12 ≤ n ∨ 2 ≤ m →
     exec (.queryCal tag actor n m) s = .next (State.answer 0x0E tag .badArgument (.empty) h)) ∧
  (∀ (tag : Nat) (actor : Nat) (a : Actor) (w : SlotId) (s : State),
     let h : State := s.heard a
     s.takes .anyActor actor a →
     exec (.querySlot tag actor w.val) s = .next (State.answer 0x0E tag .ok (.querySlot ⟨h.identity w, (h.tenancy w).shown, h.arb.ranks.read w, h.leftOf (h.arb.presence.read w),
        (h.tenancy w).record, h.acu.used.read w, h.exhausted w⟩) h)) ∧
  (∀ (tag : Nat) (actor : Nat) (a : Actor) (n : Nat) (s : State),
     let h : State := s.heard a
     s.takes .anyActor actor a →
     32 ≤ n →
     exec (.querySlot tag actor n) s = .next (State.answer 0x0E tag .badArgument (.empty) h)) ∧
  (∀ (tag : Nat) (actor : Nat) (a : Actor) (s : State),
     let h : State := s.heard a
     s.takes .anyActor actor a →
     exec (.queryMeasure tag actor) s = .next (State.answer 0x0E tag .ok (.queryMeasure ⟨s.msr.scan, if s.seq.currentBand = none then none else s.msr.forward,
        if s.seq.currentBand = none then none else s.msr.reflected, s.msr.lastReflection, s.msr.factor,
        s.msr.reported, s.msr.peak, decide (s.msr.limits.current < s.msr.scan.pai.val), s.msr.overcurrentCount, s.msr.overtemp,
        s.msr.overtempCount, s.msr.supply, s.msr.supplyCount, s.msr.limits⟩) h)) ∧
  (∀ (tag : Nat) (actor : Nat) (a : Actor) (s : State),
     let h : State := s.heard a
     s.takes .anyActor actor a →
     exec (.queryFaults tag actor) s = .next (State.answer 0x0E tag .ok (.queryFaults ⟨s.prt.faults, s.prt.killLatch, s.inr.kill.debounced, s.prt.commissioned, s.prt.station,
        [.swrTrip, .paOvercurrent, .extFault, .paOvertemp, .supplyWindow].map s.present⟩) h)) ∧
  (∀ (tag : Nat) (actor : Nat) (a : Actor) (n : Nat) (s : State),
     let h : State := s.heard a
     s.takes .anyActor actor a →
     exec (.queryRecords tag actor n) s = .next (State.answer 0x0E tag .ok (.queryRecords (s.acu.records.head?.map (·.number)) (s.acu.records.getLast?.map (·.number))
        ((s.acu.records.filter fun r => decide (n ≤ r.number)).take 6)) h)) ∧
  (∀ (tag : Nat) (actor : Nat) (a : Actor) (n : Nat) (s : State),
     let h : State := s.heard a
     s.takes .anyActor actor a →
     n < 32 →
     exec (.queryQueue tag actor n) s = .next (State.answer 0x0E tag .ok (.queryQueue s.queueList.length ((s.queueList.drop n).take 16)) h)) ∧
  (∀ (tag : Nat) (actor : Nat) (a : Actor) (n : Nat) (s : State),
     let h : State := s.heard a
     s.takes .anyActor actor a →
     32 ≤ n →
     exec (.queryQueue tag actor n) s = .next (State.answer 0x0E tag .badArgument (.empty) h)) ∧
  (∀ (tag : Nat) (actor : Nat) (a : Actor) (s : State),
     let h : State := s.heard a
     s.takes .anyActor actor a →
     exec (.queryEvents tag actor) s = .next (State.answer 0x0E tag .ok (.queryEvents h.lnk.flags h.lnk.reportEnable h.lnk.attnEnable h.lnk.reports.length h.lnk.lost h.lnk.errors) h)) ∧
  (∀ (tag : Nat) (actor : Nat) (a : Actor) (s : State),
     let h : State := s.heard a
     s.takes .anyActor actor a →
     exec (.queryProfile tag actor) s = .next (State.answer 0x0E tag .ok (.queryProfile s.seq.active s.seq.staged s.seq.changePending) h)) ∧
  (∀ (tag : Nat) (actor : Nat) (a : Actor) (s : State),
     let h : State := s.heard a
     s.takes .anyActor actor a →
     exec (.queryCounters tag actor) s = .next (State.answer 0x0E tag .ok (.counts ([0, 1, 2, 3, 4, 5].map fun i => (s.acu.counters.read i).value)) h)) ∧
  (∀ (tag : Nat) (actor : Nat) (a : Actor) (s : State),
     let h : State := s.heard a
     let on : InputId → Bool := fun i =>
      decide ((s.inr.inputs.read i).debounced = decide ((s.inr.inputs.read i).polarity = .activeHigh))
     s.takes .anyActor actor a →
     exec (.queryInputs tag actor) s = .next (State.answer 0x0E tag .ok (.queryInputs {
        inputs := (numbers 4).map fun i => (s.inr.inputs.read i, on i)
        functions := [.localPtt, .localKey, .localRequest, .ampReady, .extFault].map fun f =>
          ((numbers 4).any fun i => decide ((s.inr.inputs.read i).function = f ∧ (s.inr.inputs.read i).trigger = .level) && on i,
            ((numbers 4).filter fun i => decide ((s.inr.inputs.read i).function = f)).length)
        kill := s.inr.kill, killLatch := s.prt.killLatch }) h)) ∧
  (∀ (tag : Nat) (actor : Nat) (a : Actor) (s : State),
     let h : State := s.heard a
     s.takes .anyActor actor a →
     exec (.queryStation tag actor) s = .next (State.answer 0x0E tag .ok (.queryStation {
        station := s.prt.station, killLatch := s.prt.killLatch, commissioned := s.prt.commissioned
        arbiter := s.arb.arbiter, sinceGrant := s.turn.map fun v => sinceMs s.clock v.grantClock
        idleLeft := s.turn.bind fun v => v.idleStart.map fun i =>
          (s.classOf v.holder).idleHang * 1000 - sinceMs s.clock i
        seq := s.seq.state, tx := s.seq.tx
        limitLeft := s.seq.tx.bind fun x => s.turn.bind fun v => x.limitStart.map fun i =>
          (s.classOf v.holder).txLimit * 1000 - sinceMs s.clock i
        pttDemand := s.seq.pttDemand, currentBand := s.seq.currentBand, bandCode := s.seq.bandCode.val
        timelineFill := s.ktl.timeline.length, timelineState := s.ktl.state, keyState := s.keyState
        burst := s.ktl.burst, suppression := s.ktl.suppression, amp := s.amg.state
        ampTimerLeft := (s.amg.warm.or s.amg.idle).map fun m => m.left s.clock
        ampReadyRouted := (numbers 4).any fun i => decide ((s.inr.inputs.read i).function = .ampReady)
        applied := s.drv.applied, owed := s.idu.owed, due := s.idu.due, dueTime := s.idu.dueTime
        intervalLeft := s.idu.interval.map fun m => m.left s.clock
        deadlineLeft := if s.idu.deadlineRuns then some (sinceMs s.idu.deadlineAt s.clock) else none
        quietLeft := s.idu.quiet.map fun m => m.left s.clock
        claim := s.idu.claim, cycle := s.idu.cycle
        sendingChar := if s.idu.cycle = .sending then s.idu.context.bind fun c => c.todo.head?.map (·.char) else none
        settings := {
          turnGap := s.arb.turnGap, presenceTimeout := s.arb.presenceTimeout, defaultBand := s.arb.defaultBand
          defaultEmission := s.arb.defaultEmission, defaultPower := s.arb.defaultPower, polarities := s.seq.polarities
          keying := s.ktl.params, barefootCeiling := s.drv.barefootCeiling, autoAmp := s.amg.autoAmp
          warmUpTime := s.amg.warmUpTime, ampIdleTime := s.amg.ampIdleTime, callsign := s.idu.callsign
          ids := s.idu.params } }) h))

/-- With the ranks a permutation: the list of Query QUEUE has an entry for a slot exactly when it is WAITING; eligible
slots come before the others; within each group every entry beats all that follow it (seize mark, then class priority,
then rank); and when some slot is eligible the first entry is the winner of an arbitration point. (R24, R25) -/
def Obligations.QueueIsInGrantOrder : Prop :=
  ∀ (s : State),
    s.ranksPermute →
    (∀ w, (∃ e ∈ s.queueList, e.slot = w) ↔ (s.tenancy w).record.isSome = true) ∧
    s.queueList.Pairwise (fun x y => (x.failed = none ∧ y.failed ≠ none) ∨
      ((x.failed = none ↔ y.failed = none) ∧ s.beats x.slot y.slot = true)) ∧
    ∀ w ∈ s.winner, s.queueList.head?.map (·.slot) = some w

/-- SetStation with valid codes and callsign, taken in UNCOMMISSIONED with SEQ QUIET, or in any state with the
polarities and the barefoot ceiling unchanged and a callsign present: every numeric setting is stored clamped to its
range, the burst gap raised to the CW hang; the status is OK or OK_CLAMPED; nothing else but the reply changes. An
invalid index, code or callsign is answered BAD_ARGUMENT; with valid ones, a changed polarity is answered WRONG_STATE
outside UNCOMMISSIONED and BUSY with SEQ outside QUIET; both store nothing. In service a changed barefoot ceiling is
stored in every sequencer state when the band map and the contexts pass the commission checks with it, and the drive
of a running transmission follows it at once with its path kept; a ceiling that fails a check, or else a callsign of
no characters, is answered CONFIG_INVALID with the check and its band (the lowest when several fail, the model's
choice, log 50), and nothing is stored. In service means any station state but UNCOMMISSIONED, KILLED with the
commissioned item clear included (the model's reading of R95's words, DEDUCED, log 7). The earlier reply is taken as
sent (the model's choice, log 4). (R17, R50, R73, R99, R100, R112, R152, R186) -/
def Obligations.SetStationStores : Prop :=
  (∀ (tag : Nat) (p : StationArgs) (b : BandId) (e : Emission) (q : Polarities) (s : State),
     let h : State := s.readyToTake
     s.closed = false →
     s.tenthsDue = 0 →
     p.defaultBand = b.val →
     emissionOf p.defaultEmission = some e →
     polaritiesOf p = some q →
     p.autoAmp < 2 →
     p.callsign.length ≤ 10 ∧ p.callsign.all callsignChar = true →
     (s.prt.station = .uncommissioned ∧ s.seq.state = .quiet) ∨
      (q = s.seq.polarities ∧ clamp 1 200 p.barefootCeiling = s.drv.barefootCeiling ∧ p.callsign ≠ []) →
     Answers (.setStation tag 0xFF p) s fun t =>
       (t.settings = {
        turnGap := clamp 0 10000 p.turnGap, presenceTimeout := clamp 2 60 p.presenceTimeout
        defaultBand := b, defaultEmission := e, defaultPower := clamp 1 4000 p.defaultPower, polarities := q
        keying := ⟨clamp 20 500 p.playoutDelay, clamp 0 200 p.lateAllowance, clamp 50 2000 p.cwHang,
          max (clamp 50 2000 p.cwHang) (clamp 500 10000 p.burstGap), clamp 1 30 p.stuckLimit⟩
        barefootCeiling := clamp 1 200 p.barefootCeiling, autoAmp := decide (p.autoAmp = 1)
        warmUpTime := clamp 10 600 p.warmUpTime, ampIdleTime := clamp 1 240 p.ampIdleTime
        callsign := if p.callsign = [] then none else some p.callsign
        ids := ⟨clamp 60 900 p.idInterval, clamp 0 120 p.idGrace, clamp 5 600 p.quietDelay, clamp 10 40 p.idSpeed,
          clamp 1 4000 p.idPower⟩ }) ∧
       (t.replied 0x04 tag (if stationClamped p t.settings then .okClamped else .ok) .empty) ∧
       { t with
        arb := h.arb, lnk := { t.lnk with reply := h.lnk.reply }, seq := { t.seq with polarities := h.seq.polarities }
        ktl := { t.ktl with params := h.ktl.params }, drv := { t.drv with barefootCeiling := h.drv.barefootCeiling }
        amg := { t.amg with autoAmp := h.amg.autoAmp, warmUpTime := h.amg.warmUpTime, ampIdleTime := h.amg.ampIdleTime }
        idu := { t.idu with callsign := h.idu.callsign, params := h.idu.params } } = h ∧
       { t.arb with
        turnGap := h.arb.turnGap, presenceTimeout := h.arb.presenceTimeout, defaultBand := h.arb.defaultBand
        defaultEmission := h.arb.defaultEmission, defaultPower := h.arb.defaultPower } = h.arb) ∧
  (∀ (tag : Nat) (p : StationArgs) (s : State),
     let h : State := s.readyToTake
     s.closed = false →
     s.tenthsDue = 0 →
     12 ≤ p.defaultBand ∨ 3 ≤ p.defaultEmission ∨ 2 ≤ p.polTrr ∨ 2 ≤ p.polAmpkey ∨ 2 ≤ p.polExc ∨ 2 ≤ p.polKey ∨
      2 ≤ p.polIdm ∨ 2 ≤ p.polAmppwr ∨ 2 ≤ p.autoAmp ∨ 10 < p.callsign.length ∨ p.callsign.all callsignChar = false →
     exec (.setStation tag 0xFF p) s = .next (State.answer 0x04 tag .badArgument .empty h)) ∧
  (∀ (tag : Nat) (p : StationArgs) (q : Polarities) (b : BandId) (e : Emission) (s : State),
     let h : State := s.readyToTake
     s.closed = false →
     s.tenthsDue = 0 →
     p.defaultBand = b.val →
     emissionOf p.defaultEmission = some e →
     polaritiesOf p = some q →
     p.autoAmp < 2 →
     p.callsign.length ≤ 10 ∧ p.callsign.all callsignChar = true →
     q ≠ s.seq.polarities →
     s.prt.station ≠ .uncommissioned ∨ s.seq.state ≠ .quiet →
     exec (.setStation tag 0xFF p) s = .next (State.answer 0x04 tag (if s.prt.station = .uncommissioned then .busy else .wrongState) .empty h)) ∧
  (∀ (tag : Nat) (p : StationArgs) (b : BandId) (e : Emission) (q : Polarities) (s : State),
     let h : State := s.readyToTake
     let g : State := { h with drv := { h.drv with barefootCeiling := clamp 1 200 p.barefootCeiling } }
     s.closed = false →
     s.tenthsDue = 0 →
     p.defaultBand = b.val →
     emissionOf p.defaultEmission = some e →
     polaritiesOf p = some q →
     p.autoAmp < 2 →
     p.callsign.length ≤ 10 ∧ p.callsign.all callsignChar = true →
     s.prt.station ≠ .uncommissioned →
     q = s.seq.polarities →
     p.callsign ≠ [] →
     clamp 1 200 p.barefootCeiling ≠ s.drv.barefootCeiling →
     configFault s.drv.bands s.drv.barefootCal s.drv.amplifiedCal (clamp 1 200 p.barefootCeiling) = none →
     Answers (.setStation tag 0xFF p) s fun t =>
       (t.settings = {
        turnGap := clamp 0 10000 p.turnGap, presenceTimeout := clamp 2 60 p.presenceTimeout
        defaultBand := b, defaultEmission := e, defaultPower := clamp 1 4000 p.defaultPower, polarities := q
        keying := ⟨clamp 20 500 p.playoutDelay, clamp 0 200 p.lateAllowance, clamp 50 2000 p.cwHang,
          max (clamp 50 2000 p.cwHang) (clamp 500 10000 p.burstGap), clamp 1 30 p.stuckLimit⟩
        barefootCeiling := clamp 1 200 p.barefootCeiling, autoAmp := decide (p.autoAmp = 1)
        warmUpTime := clamp 10 600 p.warmUpTime, ampIdleTime := clamp 1 240 p.ampIdleTime
        callsign := if p.callsign = [] then none else some p.callsign
        ids := ⟨clamp 60 900 p.idInterval, clamp 0 120 p.idGrace, clamp 5 600 p.quietDelay, clamp 10 40 p.idSpeed,
          clamp 1 4000 p.idPower⟩ }) ∧
       (t.replied 0x04 tag (if stationClamped p t.settings then .okClamped else .ok) .empty) ∧
       (s.seq.state ≠ .exciting → t.drv = g.drv) ∧
       (s.seq.state = .exciting → ∀ x ∈ s.seq.tx, x.kind = .ident → ∀ c, s.idu.context = some c →
        t.drv = { g.drv with applied := g.drivenAt x (g.target x.path (g.idUncapped x.band c.power)) }) ∧
       (∀ x ∈ s.seq.tx, ∀ v ∈ s.turn, s.seq.state = .exciting → x.kind = .member v.holder →
        t.drv = { g.drv with applied := g.drivenAt x (g.target x.path (g.uncapped v.holder x.band x.emission v.power)) }) ∧
       { t with
        arb := h.arb, lnk := { t.lnk with reply := h.lnk.reply }, ktl := { t.ktl with params := h.ktl.params }, drv := h.drv
        amg := { t.amg with autoAmp := h.amg.autoAmp, warmUpTime := h.amg.warmUpTime, ampIdleTime := h.amg.ampIdleTime }
        idu := { t.idu with callsign := h.idu.callsign, params := h.idu.params } } = h ∧
       { t.arb with
        turnGap := h.arb.turnGap, presenceTimeout := h.arb.presenceTimeout, defaultBand := h.arb.defaultBand
        defaultEmission := h.arb.defaultEmission, defaultPower := h.arb.defaultPower } = h.arb) ∧
  (∀ (tag : Nat) (p : StationArgs) (b : BandId) (e : Emission) (q : Polarities) (y : ConfigReason × Option BandId) (s : State),
     let h : State := s.readyToTake
     s.closed = false →
     s.tenthsDue = 0 →
     p.defaultBand = b.val →
     emissionOf p.defaultEmission = some e →
     polaritiesOf p = some q →
     p.autoAmp < 2 →
     p.callsign.length ≤ 10 ∧ p.callsign.all callsignChar = true →
     s.prt.station ≠ .uncommissioned →
     q = s.seq.polarities →
     (clamp 1 200 p.barefootCeiling ≠ s.drv.barefootCeiling ∧
        configFault s.drv.bands s.drv.barefootCal s.drv.amplifiedCal (clamp 1 200 p.barefootCeiling) = some y) ∨
      (p.callsign = [] ∧ y = (.noCallsign, none) ∧ (clamp 1 200 p.barefootCeiling = s.drv.barefootCeiling ∨
        configFault s.drv.bands s.drv.barefootCal s.drv.amplifiedCal (clamp 1 200 p.barefootCeiling) = none)) →
     exec (.setStation tag 0xFF p) s = .next (State.answer 0x04 tag .configInvalid (.configInvalid y.1 y.2) h))

/-- SetClass with a valid index and valid sets stores the record, numbers clamped, and no other class changes; every
WAITING slot of the class whose request the new record does not permit becomes OPEN, and so does a HOLDING holder of
the class whose turn it does not permit. Where the holder keeps its permission, a changed turn limit or idle hang that
the running turn has passed ends the turn at once with TURN_LIMIT or IDLE (limitEnds), else a changed transmission
limit that the transmission on the air has passed ends that alone with TX_LIMIT (in a class without SINGLE_OVER), else
the turn and the sequencer stay as they are (which of them is looked at first is the model's choice, log 27). A
permitted WAITING slot of the class keeps its request, its rank and its presence timer, and its seize mark only if the
class keeps CONTROL, with no REQUEST_DROPPED; configuration, inputs, air time and the link stay as they are. An
invalid index or code, or one named twice (for an emission or a capability the model's choice, log 32), is answered
BAD_ARGUMENT and changes nothing. The earlier reply is taken as sent (the model's choice, log 4). (R2, R3, R12, R13,
R14) -/
def Obligations.SetClassStoresAndRechecks : Prop :=
  (∀ (tag : Nat) (p : ClassArgs) (c : ClassId) (s : State),
     let h : State := s.readyToTake
     let r : ClassRec := {
      bands := Table.build fun b => decide (b.val ∈ p.bands), ceilings := Table.build fun b => clamp 1 4000 (p.ceilings.read b)
      cw := decide (0 ∈ p.emissions), phone := decide (1 ∈ p.emissions), data := decide (2 ∈ p.emissions)
      priority := clamp 0 3 p.priority, control := decide (0 ∈ p.capabilities), singleOver := decide (1 ∈ p.capabilities)
      turnLimit := clamp 1 120 p.turnLimit, idleHang := clamp 10 900 p.idleHang, txLimit := clamp 30 600 p.txLimit }
     s.closed = false →
     s.tenthsDue = 0 →
     s.oneHolder →
     p.classIx = c.val →
     ((∀ n ∈ p.bands, n < 12) ∧ (∀ n ∈ p.emissions, n < 3) ∧ (∀ n ∈ p.capabilities, n < 2)) →
     p.bands.Nodup ∧ p.emissions.Nodup ∧ p.capabilities.Nodup →
     Answers (.setClass tag 0xFF p) s fun t =>
       t.clt = { h.clt with classes := h.clt.classes.write c r } ∧
       { t.fixed with clt := h.clt } = h.fixed ∧
       (t.replied 0x05 tag (if (∀ b, p.ceilings.read b = r.ceilings.read b) ∧ p.priority = r.priority ∧ p.turnLimit = r.turnLimit ∧
        p.idleHang = r.idleHang ∧ p.txLimit = r.txLimit then .ok else .okClamped) .empty) ∧
       (∀ w x, h.tenancy w = .waiting x → (h.identity w).classIx = c →
        ((h.drv.bands.read x.band).enabled && r.bands.read x.band && r.allows x.emission) = false → t.tenancy w = .opened) ∧
       (∀ tn ∈ h.turn, h.tenancy tn.holder = .holding → (h.identity tn.holder).classIx = c →
        ((h.drv.bands.read tn.band).enabled && r.bands.read tn.band && r.allows tn.emission) = false → t.tenancy tn.holder = .opened)) ∧
  (∀ (tag : Nat) (p : ClassArgs) (c : ClassId) (tn : Turn) (k : TurnEndCause) (s : State),
     let h : State := s.readyToTake
     let r : ClassRec := {
      bands := Table.build fun b => decide (b.val ∈ p.bands), ceilings := Table.build fun b => clamp 1 4000 (p.ceilings.read b)
      cw := decide (0 ∈ p.emissions), phone := decide (1 ∈ p.emissions), data := decide (2 ∈ p.emissions)
      priority := clamp 0 3 p.priority, control := decide (0 ∈ p.capabilities), singleOver := decide (1 ∈ p.capabilities)
      turnLimit := clamp 1 120 p.turnLimit, idleHang := clamp 10 900 p.idleHang, txLimit := clamp 30 600 p.txLimit }
     s.oneHolder →
     s.turn = some tn →
     s.closed = false →
     s.tenthsDue = 0 →
     p.classIx = c.val →
     ((∀ n ∈ p.bands, n < 12) ∧ (∀ n ∈ p.emissions, n < 3) ∧ (∀ n ∈ p.capabilities, n < 2)) →
     p.bands.Nodup ∧ p.emissions.Nodup ∧ p.capabilities.Nodup →
     (s.identity tn.holder).classIx = c →
     ((s.drv.bands.read tn.band).enabled && r.bands.read tn.band && r.allows tn.emission) = true →
     tn.sub ≠ .paused →
     s.settled →
     s.arb.turnGap ≠ 0 →
     s.idu.due = false →
     s.idu.cycle = .idle →
     s.idu.startWaits = false →
     s.passedLimit tn (s.clt.classes.read c) r = some k →
     Answers (.setClass tag 0xFF p) s fun t =>
       h.limitEnds t tn k) ∧
  (∀ (tag : Nat) (p : ClassArgs) (c : ClassId) (tn : Turn) (s : State),
     let h : State := s.readyToTake
     let r : ClassRec := {
      bands := Table.build fun b => decide (b.val ∈ p.bands), ceilings := Table.build fun b => clamp 1 4000 (p.ceilings.read b)
      cw := decide (0 ∈ p.emissions), phone := decide (1 ∈ p.emissions), data := decide (2 ∈ p.emissions)
      priority := clamp 0 3 p.priority, control := decide (0 ∈ p.capabilities), singleOver := decide (1 ∈ p.capabilities)
      turnLimit := clamp 1 120 p.turnLimit, idleHang := clamp 10 900 p.idleHang, txLimit := clamp 30 600 p.txLimit }
     s.oneHolder →
     s.turn = some tn →
     s.closed = false →
     s.tenthsDue = 0 →
     p.classIx = c.val →
     ((∀ n ∈ p.bands, n < 12) ∧ (∀ n ∈ p.emissions, n < 3) ∧ (∀ n ∈ p.capabilities, n < 2)) →
     p.bands.Nodup ∧ p.emissions.Nodup ∧ p.capabilities.Nodup →
     (s.identity tn.holder).classIx = c →
     ((s.drv.bands.read tn.band).enabled && r.bands.read tn.band && r.allows tn.emission) = true →
     s.passedLimit tn (s.clt.classes.read c) r = none →
     s.passedTxLimit (s.clt.classes.read c) r = true →
     r.singleOver = false →
     s.seq.active.tail ≠ 0 →
     s.settled →
     Answers (.setClass tag 0xFF p) s fun t =>
       t.txLimitEnds tn) ∧
  (∀ (tag : Nat) (p : ClassArgs) (c : ClassId) (tn : Turn) (s : State),
     let h : State := s.readyToTake
     let r : ClassRec := {
      bands := Table.build fun b => decide (b.val ∈ p.bands), ceilings := Table.build fun b => clamp 1 4000 (p.ceilings.read b)
      cw := decide (0 ∈ p.emissions), phone := decide (1 ∈ p.emissions), data := decide (2 ∈ p.emissions)
      priority := clamp 0 3 p.priority, control := decide (0 ∈ p.capabilities), singleOver := decide (1 ∈ p.capabilities)
      turnLimit := clamp 1 120 p.turnLimit, idleHang := clamp 10 900 p.idleHang, txLimit := clamp 30 600 p.txLimit }
     s.oneHolder →
     s.turn = some tn →
     s.closed = false →
     s.tenthsDue = 0 →
     p.classIx = c.val →
     ((∀ n ∈ p.bands, n < 12) ∧ (∀ n ∈ p.emissions, n < 3) ∧ (∀ n ∈ p.capabilities, n < 2)) →
     p.bands.Nodup ∧ p.emissions.Nodup ∧ p.capabilities.Nodup →
     (s.identity tn.holder).classIx = c →
     ((s.drv.bands.read tn.band).enabled && r.bands.read tn.band && r.allows tn.emission) = true →
     s.passedLimit tn (s.clt.classes.read c) r = none →
     s.passedTxLimit (s.clt.classes.read c) r = false →
     s.settled →
     Answers (.setClass tag 0xFF p) s fun t =>
       t.turn = some tn ∧ t.seq = h.seq ∧ t.acu = h.acu) ∧
  (∀ (tag : Nat) (p : ClassArgs) (c : ClassId) (w : SlotId) (x : RequestRec) (s : State),
     let h : State := s.readyToTake
     let r : ClassRec := {
      bands := Table.build fun b => decide (b.val ∈ p.bands), ceilings := Table.build fun b => clamp 1 4000 (p.ceilings.read b)
      cw := decide (0 ∈ p.emissions), phone := decide (1 ∈ p.emissions), data := decide (2 ∈ p.emissions)
      priority := clamp 0 3 p.priority, control := decide (0 ∈ p.capabilities), singleOver := decide (1 ∈ p.capabilities)
      turnLimit := clamp 1 120 p.turnLimit, idleHang := clamp 10 900 p.idleHang, txLimit := clamp 30 600 p.txLimit }
     s.oneHolder →
     s.tenancy w = .waiting x →
     s.closed = false →
     s.tenthsDue = 0 →
     p.classIx = c.val →
     ((∀ n ∈ p.bands, n < 12) ∧ (∀ n ∈ p.emissions, n < 3) ∧ (∀ n ∈ p.capabilities, n < 2)) →
     p.bands.Nodup ∧ p.emissions.Nodup ∧ p.capabilities.Nodup →
     (s.identity w).classIx = c →
     ((s.drv.bands.read x.band).enabled && r.bands.read x.band && r.allows x.emission) = true →
     s.settled →
     s.arb.turnGap ≠ 0 →
     Answers (.setClass tag 0xFF p) s fun t =>
       t.tenancy w = .waiting { x with mark := x.mark && r.control } ∧
       t.arb.ranks = h.arb.ranks ∧ t.arb.presence.read w = h.arb.presence.read w ∧
       ((∀ v, v ≠ w → (h.tenancy v).record = none) → t.lnk.flags &&& kindBit 4 = h.lnk.flags &&& kindBit 4)) ∧
  (∀ (tag : Nat) (p : ClassArgs) (s : State),
     let h : State := s.readyToTake
     s.closed = false →
     s.tenthsDue = 0 →
     (8 ≤ p.classIx ∨ (∃ n ∈ p.bands, 12 ≤ n) ∨ (∃ n ∈ p.emissions, 3 ≤ n) ∨ (∃ n ∈ p.capabilities, 2 ≤ n) ∨ ¬p.bands.Nodup ∨
      ¬p.emissions.Nodup ∨ ¬p.capabilities.Nodup) →
     exec (.setClass tag 0xFF p) s = .next (State.answer 0x05 tag .badArgument .empty h))

/-- A valid SetBand, taken in UNCOMMISSIONED or else with SEQ QUIET, no turn on the band and the commission checks
kept, stores the record with its ceilings and FS clamped, and no other band record or context changes; a changed relay
code of the current band unsets it, in UNCOMMISSIONED with SEQ QUIET and in service, where the BAND lines keep their
code, the quiet timer stops and nothing else of SEQ, MSR and IDU moves; configuration, inputs, air time and the link
stay. While commissioned, with SEQ outside QUIET or a turn on the band, it is answered BUSY; with an invalid index or
code BAD_ARGUMENT; a record that would break a commission check CONFIG_INVALID (with the lowest band when several
fail, the model's choice, log 50); these change nothing. A SetBand that disables an enabled band makes every WAITING
slot whose request names the band OPEN. The earlier reply is taken as sent (the model's choice, log 4). (R12, R94,
R95, R96, R99) -/
def Obligations.SetBandStores : Prop :=
  (∀ (tag : Nat) (p : BandArgs) (b : BandId) (c : Fin 16) (s : State),
     let h : State := s.readyToTake
     let r : BandRec := ⟨decide (p.enabled = 1), c, clamp 1 4000 p.stationCeiling, clamp 1 4000 p.dutyCeiling, clamp 10 4000 p.fullScale⟩
     s.closed = false →
     s.tenthsDue = 0 →
     p.band = b.val →
     p.enabled < 2 →
     p.relayCode = c.val →
     (s.prt.station = .uncommissioned ∨ (s.seq.state = .quiet ∧ (∀ tn ∈ s.turn, tn.band ≠ b) ∧
      configFault (s.drv.bands.write b ⟨decide (p.enabled = 1), c, clamp 1 4000 p.stationCeiling, clamp 1 4000 p.dutyCeiling, clamp 10 4000 p.fullScale⟩) s.drv.barefootCal s.drv.amplifiedCal s.drv.barefootCeiling = none)) →
     Answers (.setBand tag 0xFF p) s fun t =>
       t.drv.bands = h.drv.bands.write b r ∧
       { t.fixed with bands := h.drv.bands } = h.fixed ∧
       (t.replied 0x06 tag (
        if p.stationCeiling = r.stationCeiling ∧ p.dutyCeiling = r.dutyCeiling ∧ p.fullScale = r.fullScale then .ok else .okClamped) .empty) ∧
       (h.prt.station = .uncommissioned → h.seq.state = .quiet → t.seq.currentBand =
        if (h.drv.bands.read b).relayCode ≠ c ∧ h.seq.currentBand = some b then none else h.seq.currentBand) ∧
       (h.prt.station = .uncommissioned → h.seq.state = .quiet → t.seq.bandCode = h.seq.bandCode)) ∧
  (∀ (tag : Nat) (p : BandArgs) (b : BandId) (c : Fin 16) (s : State),
     let h : State := s.readyToTake
     s.closed = false →
     s.tenthsDue = 0 →
     p.band = b.val →
     p.enabled < 2 →
     p.relayCode = c.val →
     s.prt.station ≠ .uncommissioned →
     s.seq.state = .quiet →
     (∀ tn ∈ s.turn, tn.band ≠ b) →
     configFault (s.drv.bands.write b ⟨decide (p.enabled = 1), c, clamp 1 4000 p.stationCeiling, clamp 1 4000 p.dutyCeiling, clamp 10 4000 p.fullScale⟩) s.drv.barefootCal s.drv.amplifiedCal s.drv.barefootCeiling = none →
     s.seq.currentBand = some b →
     (s.drv.bands.read b).relayCode ≠ c →
     (s.drv.bands.read b).enabled = false ∨ p.enabled = 1 ∨ s.turn = none →
     s.settled →
     Answers (.setBand tag 0xFF p) s fun t =>
       t.seq = { h.seq with currentBand := none } ∧
       t.arb.arbiter = h.arb.arbiter ∧ t.arb.gap = h.arb.gap ∧ t.msr = h.msr ∧ t.ktl = h.ktl ∧ t.amg = h.amg ∧ t.prt = h.prt ∧
       t.idu = { h.idu with quiet := none }) ∧
  (∀ (tag : Nat) (p : BandArgs) (b : BandId) (s : State),
     let h : State := s.readyToTake
     s.closed = false →
     s.tenthsDue = 0 →
     p.band = b.val →
     p.enabled < 2 →
     p.relayCode < 16 →
     s.prt.station ≠ .uncommissioned →
     (s.seq.state ≠ .quiet ∨ ∃ tn, s.turn = some tn ∧ tn.band = b) →
     exec (.setBand tag 0xFF p) s = .next (State.answer 0x06 tag .busy .empty h)) ∧
  (∀ (tag : Nat) (p : BandArgs) (s : State),
     let h : State := s.readyToTake
     s.closed = false →
     s.tenthsDue = 0 →
     12 ≤ p.band ∨ 2 ≤ p.enabled ∨ 16 ≤ p.relayCode →
     exec (.setBand tag 0xFF p) s = .next (State.answer 0x06 tag .badArgument .empty h)) ∧
  (∀ (tag : Nat) (p : BandArgs) (b : BandId) (c : Fin 16) (y : ConfigReason × Option BandId) (s : State),
     let h : State := s.readyToTake
     s.closed = false →
     s.tenthsDue = 0 →
     p.band = b.val →
     p.enabled < 2 →
     p.relayCode = c.val →
     s.prt.station ≠ .uncommissioned →
     s.seq.state = .quiet →
     (∀ tn ∈ s.turn, tn.band ≠ b) →
     configFault (s.drv.bands.write b ⟨decide (p.enabled = 1), c, clamp 1 4000 p.stationCeiling, clamp 1 4000 p.dutyCeiling, clamp 10 4000 p.fullScale⟩) s.drv.barefootCal s.drv.amplifiedCal s.drv.barefootCeiling = some y →
     exec (.setBand tag 0xFF p) s = .next (State.answer 0x06 tag .configInvalid (.configInvalid y.1 y.2) h)) ∧
  (∀ (tag : Nat) (p : BandArgs) (b : BandId) (c : Fin 16) (s : State),
     let h : State := s.readyToTake
     let r : BandRec := ⟨decide (p.enabled = 1), c, clamp 1 4000 p.stationCeiling, clamp 1 4000 p.dutyCeiling, clamp 10 4000 p.fullScale⟩
     s.closed = false →
     s.tenthsDue = 0 →
     s.oneHolder →
     p.band = b.val →
     p.enabled = 0 →
     p.relayCode = c.val →
     (s.drv.bands.read b).enabled = true →
     (s.prt.station = .uncommissioned ∨ (s.seq.state = .quiet ∧ (∀ tn ∈ s.turn, tn.band ≠ b) ∧
      configFault (s.drv.bands.write b ⟨decide (p.enabled = 1), c, clamp 1 4000 p.stationCeiling, clamp 1 4000 p.dutyCeiling, clamp 10 4000 p.fullScale⟩) s.drv.barefootCal s.drv.amplifiedCal s.drv.barefootCeiling = none)) →
     Answers (.setBand tag 0xFF p) s fun t =>
       t.drv.bands = h.drv.bands.write b r ∧
       (∀ w x, h.tenancy w = .waiting x → x.band = b → t.tenancy w = .opened))

/-- With the context not live, in UNCOMMISSIONED or else with the commission checks kept: eight points whose clamped
powers rise strictly and whose codes do not fall become the context of the band and path, no points empty it, and no
other context or record changes; the status is OK_CLAMPED when a power was clamped. Any other number of points, or a
bad index or path, is BAD_ARGUMENT; so is a point out of order after clamping, and the reply names the first; a live
context is BUSY; in service a context that would break a commission check is CONFIG_INVALID (with the lowest band when
several fail, the model's choice, log 50); these change nothing. In service means any station state but
UNCOMMISSIONED, KILLED with the commissioned item clear included (the model's reading of R95's words, DEDUCED, log 7).
The earlier reply is taken as sent (the model's choice, log 4). (R97, R98, R99) -/
def Obligations.SetCalibrationStores : Prop :=
  (∀ (tag : Nat) (b : BandId) (l : List (Nat × Nat)) (amplified : Bool) (s : State),
     let h : State := s.readyToTake
     s.closed = false →
     s.tenthsDue = 0 →
     (s.prt.station = .uncommissioned ∨ configFault s.drv.bands
        (if amplified then s.drv.barefootCal else s.drv.barefootCal.write b (contextOf (l.map fun q => ⟨clamp 1 4000 q.1, q.2⟩)))
        (if amplified then s.drv.amplifiedCal.write b (contextOf (l.map fun q => ⟨clamp 1 4000 q.1, q.2⟩)) else s.drv.amplifiedCal)
        s.drv.barefootCeiling = none) →
     (s.live b (if amplified then .amplified else .barefoot) = false) →
     l.length = 8 ∨ l = [] →
     (∀ q ∈ l, q.2 < 256) →
     (l.Pairwise (fun x y => clamp 1 4000 x.1 < clamp 1 4000 y.1 ∧ x.2 ≤ y.2)) →
     Answers (.setCalibration tag 0xFF ⟨b.val, if amplified then 1 else 0, l⟩) s fun t =>
       (((t.context b (if amplified then .amplified else .barefoot)).map fun v => v.toList) =
        if l = [] then none else some (l.map fun q => ⟨clamp 1 4000 q.1, q.2⟩)) ∧
       (∀ c, c ≠ b → t.drv.barefootCal.read c = h.drv.barefootCal.read c ∧ t.drv.amplifiedCal.read c = h.drv.amplifiedCal.read c) ∧
       (t.context b (if amplified then .barefoot else .amplified) = h.context b (if amplified then .barefoot else .amplified)) ∧
       { t with drv := h.drv, lnk := { t.lnk with reply := h.lnk.reply } } = h ∧
       { t.drv with barefootCal := h.drv.barefootCal, amplifiedCal := h.drv.amplifiedCal } = h.drv ∧
       (t.replied 0x07 tag (if l.all (fun q => decide (1 ≤ q.1 ∧ q.1 ≤ 4000)) then .ok else .okClamped) .empty)) ∧
  (∀ (tag : Nat) (p : CalArgs) (s : State),
     let h : State := s.readyToTake
     s.closed = false →
     s.tenthsDue = 0 →
     12 ≤ p.band ∨ 2 ≤ p.path ∨ (p.points.length ≠ 0 ∧ p.points.length ≠ 8) →
     exec (.setCalibration tag 0xFF p) s = .next (State.answer 0x07 tag .badArgument (.calibrationPoint none) h)) ∧
  (∀ (tag : Nat) (b : BandId) (amplified : Bool) (l : List (Nat × Nat)) (s : State),
     let h : State := s.readyToTake
     s.closed = false →
     s.tenthsDue = 0 →
     (s.live b (if amplified then .amplified else .barefoot) = true) →
     l.length = 8 →
     (∀ q ∈ l, q.2 < 256) →
     (l.Pairwise (fun x y => clamp 1 4000 x.1 < clamp 1 4000 y.1 ∧ x.2 ≤ y.2)) →
     exec (.setCalibration tag 0xFF ⟨b.val, if amplified then 1 else 0, l⟩) s = .next (State.answer 0x07 tag .busy .empty h)) ∧
  (∀ (tag : Nat) (b : BandId) (l : List (Nat × Nat)) (amplified : Bool) (y : ConfigReason × Option BandId) (s : State),
     let h : State := s.readyToTake
     s.closed = false →
     s.tenthsDue = 0 →
     s.prt.station ≠ .uncommissioned →
     (configFault s.drv.bands
        (if amplified then s.drv.barefootCal else s.drv.barefootCal.write b (contextOf (l.map fun q => ⟨clamp 1 4000 q.1, q.2⟩)))
        (if amplified then s.drv.amplifiedCal.write b (contextOf (l.map fun q => ⟨clamp 1 4000 q.1, q.2⟩)) else s.drv.amplifiedCal)
        s.drv.barefootCeiling = some y) →
     (s.live b (if amplified then .amplified else .barefoot) = false) →
     l.length = 8 ∨ l = [] →
     (∀ q ∈ l, q.2 < 256) →
     (l.Pairwise (fun x y => clamp 1 4000 x.1 < clamp 1 4000 y.1 ∧ x.2 ≤ y.2)) →
     exec (.setCalibration tag 0xFF ⟨b.val, if amplified then 1 else 0, l⟩) s = .next (State.answer 0x07 tag .configInvalid (.configInvalid y.1 y.2) h)) ∧
  (∀ (tag : Nat) (b : BandId) (amplified : Bool) (l : List (Nat × Nat)) (k : Nat) (x : Nat × Nat) (y : Nat × Nat) (s : State),
     let h : State := s.readyToTake
     s.closed = false →
     s.tenthsDue = 0 →
     l.length = 8 →
     (∀ q ∈ l, q.2 < 256) →
     l[k]? = some x →
     l[k + 1]? = some y →
     ¬(clamp 1 4000 x.1 < clamp 1 4000 y.1 ∧ x.2 ≤ y.2) →
     ((l.take (k + 1)).Pairwise (fun x y => clamp 1 4000 x.1 < clamp 1 4000 y.1 ∧ x.2 ≤ y.2)) →
     exec (.setCalibration tag 0xFF ⟨b.val, if amplified then 1 else 0, l⟩) s = .next (State.answer 0x07 tag .badArgument (.calibrationPoint (some (k + 1))) h))

/-- StageProfile stores the six delays clamped to 255 (the band settle to 500 units of 10 ms) as the staged profile;
in QUIET it is active at once and no change is pending, in any other sequencer state the active profile stays and the
change is pending; nothing else changes. The earlier reply is taken as sent (the model's choice, log 4). (R51, R52) -/
def Obligations.StageProfileStages : Prop :=
  ∀ (tag : Nat) (p : ProfileArgs) (s : State),
    let h : State := s.readyToTake
    let q : Profile := ⟨min p.relayOn 255, min p.ampOn 255, min p.tail 255, min p.ampOff 255, min p.relayOff 255, min p.bandSettle 500⟩
    s.closed = false →
    s.tenthsDue = 0 →
    exec (.stageProfile tag 0xFF p) s = .next (State.answer 0x08 tag (if q = ⟨p.relayOn, p.ampOn, p.tail, p.ampOff, p.relayOff, p.bandSettle⟩ then .ok else .okClamped) .empty
      { h with seq := { h.seq with
        staged := q, active := if h.seq.state = .quiet then q else h.seq.active, changePending := decide (h.seq.state ≠ .quiet) } })

/-- SetInput with valid codes stores the function, trigger, polarity and debounce (clamped to 50 ms) of one input and
answers with the entry; the other inputs, every raw level, KILL and the kill latch stay, and so does all
configuration. An invalid index or code, or EDGE with another function, is BAD_ARGUMENT and changes nothing. The
earlier reply is taken as sent (the model's choice, log 4). (R173, R174) -/
def Obligations.SetInputRoutes : Prop :=
  (∀ (tag : Nat) (i : InputId) (p : InputArgs) (f : InputFunction) (g : Trigger) (y : InputPolarity) (s : State),
     let h : State := s.readyToTake
     s.closed = false →
     s.tenthsDue = 0 →
     p.input = i.val →
     functionOf p.function = some f →
     triggerOf p.trigger = some g →
     inputPolarityOf p.polarity = some y →
     g = .level ∨ f = .localRequest ∨ f = .none →
     Answers (.setInput tag 0xFF p) s fun t =>
       (t.inr.inputs.read i).function = f ∧ (t.inr.inputs.read i).trigger = g ∧ (t.inr.inputs.read i).polarity = y ∧
        (t.inr.inputs.read i).debounce = min p.debounce 50 ∧ (t.inr.inputs.read i).raw = (h.inr.inputs.read i).raw ∧
       (∀ j, j ≠ i → t.inr.inputs.read j = h.inr.inputs.read j) ∧
       t.inr.kill = h.inr.kill ∧
       { t.fixed with inr := h.inr } = h.fixed ∧
       (t.replied 0x09 tag (if 50 < p.debounce then .okClamped else .ok) (.input i (t.inr.inputs.read i)))) ∧
  (∀ (tag : Nat) (p : InputArgs) (s : State),
     let h : State := s.readyToTake
     s.closed = false →
     s.tenthsDue = 0 →
     4 ≤ p.input ∨ 6 ≤ p.function ∨ 2 ≤ p.trigger ∨ 2 ≤ p.polarity ∨
      (p.trigger = 0 ∧ p.function ≠ 0 ∧ p.function ≠ 3) →
     exec (.setInput tag 0xFF p) s = .next (State.answer 0x09 tag .badArgument .empty h))

/-- SetLimits stores every limit clamped (r_trip raised to r_start + 10, the hysteresis lowered to the temperature
limit, the supply high raised to the supply low), sets the three condition counts to 0, and raises f to a higher
f_min; the reply carries what is stored. Outside EXCITING, and where f is not raised, nothing else changes. In
EXCITING a raised f makes the applied-power state anew, with P_eff and the drive code at the new f (drivenAt): for the
holder's transmission from the turn's power, for an identification from the ID power captured at its start. The
earlier reply is taken as sent (the model's choice, log 4). (R112, R121, R123, R125, R128, R132) -/
def Obligations.SetLimitsClamps : Prop :=
  ∀ (tag : Nat) (p : LimitsArgs) (s : State),
    let h : State := s.readyToTake
    let l : Limits := {
      rStart := clamp 20 500 p.rStart, rTrip := max (clamp 20 500 p.rStart + 10) (clamp 30 900 p.rTrip)
      fMin := clamp 16 256 p.fMin, step := clamp 1 64 p.step, floor := clamp 1 255 p.floor, scans := clamp 1 16 p.scans
      current := clamp 0 1023 p.current, temperature := clamp 0 1023 p.temperature
      hysteresis := min (clamp 0 1023 p.temperature) (clamp 0 255 p.hysteresis), supplyLow := clamp 0 1023 p.supplyLow
      supplyHigh := max (clamp 0 1023 p.supplyLow) (clamp 0 1023 p.supplyHigh) }
    let g : State := { h with msr := { h.msr with factor := l.fMin } }
    s.closed = false →
    s.tenthsDue = 0 →
    Answers (.setLimits tag 0xFF p) s fun t =>
      t.msr = { h.msr with limits := l, overcurrentCount := 0, overtempCount := 0, supplyCount := 0, factor := max h.msr.factor l.fMin } ∧
      (t.replied 0x0A tag (if l = ⟨p.rStart, p.rTrip, p.fMin, p.step, p.floor, p.scans, p.current, p.temperature, p.hysteresis,
        p.supplyLow, p.supplyHigh⟩ then .ok else .okClamped) (.limits l)) ∧
      (h.seq.state ≠ .exciting ∨ l.fMin ≤ h.msr.factor → t.drv = h.drv) ∧
      (h.seq.state = .exciting → h.msr.factor < l.fMin → ∀ x, h.seq.tx = some x →
        (∀ v ∈ h.turn, x.kind = .member v.holder →
          t.drv = { g.drv with applied := g.drivenAt x (g.target x.path (g.uncapped v.holder x.band x.emission v.power)) }) ∧
        (∀ c ∈ h.idu.context, x.kind = .ident →
          t.drv = { g.drv with applied := g.drivenAt x (g.target x.path (g.idUncapped x.band c.power)) })) ∧
      { t with msr := h.msr, drv := { t.drv with applied := h.drv.applied }, lnk := { t.lnk with reply := h.lnk.reply } } = h

/-- ClearCounters is accepted from STATION alone, in every station state. With a payload that names any of the six
counters, each at most once: the value and the remainder of each named counter become 0, the others and all else stay,
and the reply carries the named values as they stood, in the order of R168. A code outside the six or one named twice
is BAD_ARGUMENT and nothing is cleared; an empty set is OK and clears nothing. A counter whose condition holds goes on
counting from 0 (100 further ms of it complete exactly one tenth). A tenth that was complete before and not added yet
stays owed (a field of the model's own, log 8), so that the counter reads 0, then 1 (R172). Query COUNTERS returns the
six values in order and clears nothing. The earlier reply is taken as sent (the model's choice, log 4). (R168, R169,
R172) -/
def Obligations.ClearCountersReadsAndClears : Prop :=
  (∀ (tag : Nat) (l : List Nat) (s : State),
     let h : State := s.readyToTake
     s.closed = false →
     s.tenthsDue = 0 →
     (∀ n ∈ l, n < 6) →
     l.Nodup →
     Answers (.clearCounters tag 0xFF l) s fun t =>
       (∀ i : Fin 6, i.val ∈ l → (t.acu.counters.read i).value = 0 ∧ (t.acu.counters.read i).remainder = 0 ∧
        (t.acu.counters.read i).owed = (h.acu.counters.read i).owed) ∧
       (∀ i : Fin 6, i.val ∉ l → t.acu.counters.read i = h.acu.counters.read i) ∧
       (t.replied 0x0D tag .ok (.counts (((numbers 6).filter fun i => decide (i.val ∈ l)).map fun i => (h.acu.counters.read i).value))) ∧
       { t with acu := { t.acu with counters := h.acu.counters }, lnk := { t.lnk with reply := h.lnk.reply } } = h) ∧
  (∀ (tag : Nat) (l : List Nat) (s : State),
     let h : State := s.readyToTake
     s.closed = false →
     s.tenthsDue = 0 →
     ((∃ n ∈ l, 6 ≤ n) ∨ ¬l.Nodup) →
     exec (.clearCounters tag 0xFF l) s = .next (State.answer 0x0D tag .badArgument .empty h)) ∧
  (∀ (i : Fin 6) (m : Nat) (s : State),
     s.resides (resOf i) = true →
     (s.acu.counters.read i).value < 4294967295 →
     ((s.elapse m).acu.counters.read i).remainder + 100 * ((s.elapse m).acu.counters.read i).owed =
      (s.acu.counters.read i).remainder + 100 * (s.acu.counters.read i).owed + m) ∧
  (∀ (tag : Nat) (actor : Nat) (l : List Nat) (q : Asked),
     asked (.clearCounters tag actor l) = some q →
     q = ⟨0x0D, tag, actor, .stationOnly⟩) ∧
  (∀ (tag : Nat) (actor : Nat) (a : Actor) (s : State),
     let h : State := s.heard a
     s.takes .anyActor actor a →
     exec (.queryCounters tag actor) s = .next (State.answer 0x0E tag .ok (.counts ((numbers 6).map fun i => (s.acu.counters.read i).value)) h))

/-- ClearAirtime is accepted from STATION alone, in every station state and for a slot in any request state. With a
slot number it sets that slot's air time used to 0, with ALL (0xFF) every slot's, and the reply carries each cleared
value as it stood (the 32 in slot order, the model's choice, log 45); any other value is BAD_ARGUMENT. The cleared
slot is not exhausted whatever its allowance of 1 s or more; the turn, the running transmission with its 100 ms
measurement, and the records stay, and the next tenth raises the air time from 0 to 1. The earlier reply is taken as
sent (the model's choice, log 4). (R167) -/
def Obligations.ClearAirtimeReadsAndClears : Prop :=
  (∀ (tag : Nat) (w : SlotId) (s : State),
     let h : State := s.readyToTake
     s.closed = false →
     s.tenthsDue = 0 →
     Answers (.clearAirtime tag 0xFF w.val) s fun t =>
       (t.acu.used.read w = 0 ∧ (∀ v, v ≠ w → t.acu.used.read v = h.acu.used.read v)) ∧
       t.replied 0x15 tag .ok (.counts [h.acu.used.read w]) ∧
       { t with acu := { t.acu with used := h.acu.used }, lnk := { t.lnk with reply := h.lnk.reply } } = h ∧
       (∀ n ∈ (h.identity w).allowance, 0 < n → t.exhausted w = false) ∧
       (t.memberTenths w 1).acu.used.read w = 1) ∧
  (∀ (tag : Nat) (s : State),
     let h : State := s.readyToTake
     s.closed = false →
     s.tenthsDue = 0 →
     Answers (.clearAirtime tag 0xFF 0xFF) s fun t =>
       (∀ v, t.acu.used.read v = 0) ∧
       (t.replied 0x15 tag .ok (.counts ((numbers 32).map fun v => h.acu.used.read v))) ∧
       { t with acu := { t.acu with used := h.acu.used }, lnk := { t.lnk with reply := h.lnk.reply } } = h) ∧
  (∀ (tag : Nat) (n : Nat) (s : State),
     let h : State := s.readyToTake
     s.closed = false →
     s.tenthsDue = 0 →
     32 ≤ n →
     n ≠ 255 →
     exec (.clearAirtime tag 0xFF n) s = .next (State.answer 0x15 tag .badArgument .empty h)) ∧
  (∀ (tag : Nat) (actor : Nat) (n : Nat) (q : Asked),
     asked (.clearAirtime tag actor n) = some q →
     q = ⟨0x15, tag, actor, .stationOnly⟩)

/-- For a slot that is not VACANT: the allowance is stored clamped to 1 to 86,400 s, or made absent, and no other
identity field changes; when the write exhausts a slot that was not exhausted, ALLOWANCE_EXHAUSTED is raised, and a
holder becomes OPEN and is the holder no more, TURN_ENDED is raised with cause ALLOWANCE, and a running transmission
of it leaves EXCITING. A VACANT slot is WRONG_STATE; a slot above 31 or a bad indication BAD_ARGUMENT, VACANT or not
(the model's choice, log 33). The earlier reply is taken as sent (the model's choice, log 4). (R15, R28, R35, R166) -/
def Obligations.AllowancesExhaust : Prop :=
  (∀ (tag : Nat) (w : SlotId) (n : Nat) (p : Bool) (s : State),
     let h : State := s.readyToTake
     let x : Option Nat := if p then some (clamp 1 86400 n) else none
     s.closed = false →
     s.tenthsDue = 0 →
     s.tenancy w ≠ .vacant →
     Answers (.setAllowance tag 0xFF w.val p.toNat n) s fun t =>
       t.clt = { h.clt with ids := h.clt.ids.write w { h.identity w with allowance := x } } ∧
       { t.fixed with clt := h.clt } = h.fixed ∧
       (t.replied 0x14 tag (if p = true ∧ clamp 1 86400 n ≠ n then .okClamped else .ok) .empty) ∧
       (∀ k ∈ x, h.exhausted w = false → 10 * k ≤ h.acu.used.read w →
        h.raised t (.allowanceExhausted w k (h.acu.used.read w) (t.tenancy w).shown) ∧
        (h.holder = some w → t.tenancy w = .opened ∧ t.holder ≠ some w ∧ h.raised t (.turnEnded w .allowance false) ∧
          (h.memberExciting = true → h.seq.active.tail ≠ 0 → t.seq.state = .drain)))) ∧
  (∀ (tag : Nat) (w : SlotId) (n : Nat) (p : Bool) (s : State),
     let h : State := s.readyToTake
     s.closed = false →
     s.tenthsDue = 0 →
     s.tenancy w = .vacant →
     exec (.setAllowance tag 0xFF w.val p.toNat n) s = .next (State.answer 0x14 tag .wrongState .empty h)) ∧
  (∀ (tag : Nat) (k : Nat) (n : Nat) (p : Nat) (s : State),
     let h : State := s.readyToTake
     s.closed = false →
     s.tenthsDue = 0 →
     32 ≤ k ∨ 2 ≤ p →
     exec (.setAllowance tag 0xFF k p n) s = .next (State.answer 0x14 tag .badArgument .empty h))

/-- In UNCOMMISSIONED with SEQ QUIET: when some band is enabled, every enabled band has a BAREFOOT context, every
enabled band with a station ceiling above the barefoot ceiling an AMPLIFIED one, and a callsign is present, Commission
is answered OK with the new station state (TRIPPED, HELD or READY by the fault list and the hold conditions), the
commissioned item is set, the current band is unset (and stays so unless the entry to READY grants a waiting slot,
which retunes) and configuration stays. The checks come in this order, each with the lowest band that fails it:
NO_BAND, NO_BAREFOOT_CAL, NO_AMPLIFIED_CAL, NO_CALLSIGN. The first that fails is CONFIG_INVALID with its reason and
changes nothing; another station state is WRONG_STATE; SEQ outside QUIET is BUSY. The earlier reply is taken as sent
(the model's choice, log 4). (R99, R142, R148) -/
def Obligations.CommissionChecks : Prop :=
  (∀ (tag : Nat) (s : State),
     let h : State := s.readyToTake
     let x : StationState := if (h.prt.faults.any fun r => tripKind r.kind) = true then .tripped
      else if (h.msr.overtemp || h.msr.supply) = true then .held else .ready
     s.closed = false →
     s.tenthsDue = 0 →
     s.prt.station = .uncommissioned →
     s.prt.killLatch = false →
     s.seq.state = .quiet →
     (∃ b, (s.drv.bands.read b).enabled = true) →
     (∀ b, (s.drv.bands.read b).enabled = true → s.drv.barefootCal.read b ≠ none ∧
      (s.drv.barefootCeiling < (s.drv.bands.read b).stationCeiling → s.drv.amplifiedCal.read b ≠ none)) →
     s.idu.callsign ≠ none →
     Answers (.commission tag 0xFF) s fun t =>
       t.prt.commissioned = true ∧ t.prt.station = x ∧
       t.replied 0x03 tag .ok (.station x) ∧
       h.raised t (.stationChanged .uncommissioned x .commission none) ∧
       (h.settled → x ≠ .ready ∨ h.arb.arbiter ≠ .free ∨ h.winner = none → t.seq.currentBand = none) ∧
       { t.fixed with latch := h.fixed.latch } = h.fixed) ∧
  (∀ (s : State),
     (∀ b, (s.drv.bands.read b).enabled = false) →
     s.commissionFault = some (.noBand, none)) ∧
  (∀ (tag : Nat) (y : ConfigReason × Option BandId) (s : State),
     let h : State := s.readyToTake
     s.closed = false →
     s.tenthsDue = 0 →
     s.prt.station = .uncommissioned →
     s.seq.state = .quiet →
     s.commissionFault = some y →
     exec (.commission tag 0xFF) s = .next (State.answer 0x03 tag .configInvalid (.configInvalid y.1 y.2) h)) ∧
  (∀ (b : BandId) (s : State),
     (s.drv.bands.read b).enabled = true →
     s.drv.barefootCal.read b = none →
     (∀ c, c < b → (s.drv.bands.read c).enabled = false ∨ s.drv.barefootCal.read c ≠ none) →
     s.commissionFault = some (.noBarefootCal, some b)) ∧
  (∀ (b : BandId) (s : State),
     (∀ c, (s.drv.bands.read c).enabled = true → s.drv.barefootCal.read c ≠ none) →
     s.drv.barefootCeiling < (s.drv.bands.read b).stationCeiling →
     (s.drv.bands.read b).enabled = true →
     s.drv.amplifiedCal.read b = none →
     (∀ c, c < b → (s.drv.bands.read c).enabled = true → s.drv.barefootCeiling < (s.drv.bands.read c).stationCeiling →
      s.drv.amplifiedCal.read c ≠ none) →
     s.commissionFault = some (.noAmplifiedCal, some b)) ∧
  (∀ (s : State),
     (∃ b, (s.drv.bands.read b).enabled = true) →
     (∀ c, (s.drv.bands.read c).enabled = true → s.drv.barefootCal.read c ≠ none) →
     (∀ c, (s.drv.bands.read c).enabled = true → s.drv.barefootCeiling < (s.drv.bands.read c).stationCeiling →
      s.drv.amplifiedCal.read c ≠ none) →
     s.commissionFault = if s.idu.callsign = none then some (.noCallsign, none) else none) ∧
  (∀ (tag : Nat) (s : State),
     let h : State := s.readyToTake
     s.closed = false →
     s.tenthsDue = 0 →
     s.prt.station ≠ .uncommissioned ∨ s.seq.state ≠ .quiet →
     exec (.commission tag 0xFF) s = .next (State.answer 0x03 tag (if s.prt.station ≠ .uncommissioned then .wrongState else .busy) .empty h))

/-- While commissioned, Decommission is answered OK with the number of WAITING slots, the ended turn's slot, whether a
running identification was abandoned and the station state afterwards (KILLED with the latch set, else
UNCOMMISSIONED). Afterwards there is no turn and no gap and the arbiter is FREE, every WAITING slot and the holder are
OPEN and all other slots as they were, the sequencer is not in ARM_RELAY, ARM_AMP or EXCITING, the timeline is empty,
f is 256 and the foldback-reported mark clear, and all configuration, air time and ranks are kept. Not commissioned,
it is WRONG_STATE. The earlier reply is taken as sent (the model's choice, log 4). (R44, R69, R117, R125, R149) -/
def Obligations.DecommissionTakesOutOfService : Prop :=
  (∀ (tag : Nat) (s : State),
     let h : State := s.readyToTake
     s.closed = false →
     s.tenthsDue = 0 →
     s.prt.commissioned = true →
     s.oneHolder →
     Answers (.decommission tag 0xFF) s fun t =>
       (t.prt.commissioned = false ∧ t.prt.station = (if h.prt.killLatch then .killed else .uncommissioned)) ∧
       t.arb.arbiter = .free ∧ t.arb.gap = none ∧ t.arb.ranks = h.arb.ranks ∧
       (∀ w, t.tenancy w = if h.tenancy w = .vacant then .vacant else .opened) ∧
       t.arming = false ∧ t.seq.state ≠ .exciting ∧ t.seq.pttDemand = false ∧ t.seq.queuedRetune = none ∧
       t.ktl.timeline = [] ∧ t.ktl.state = .up ∧ t.ktl.burst = none ∧ t.msr.factor = 256 ∧ t.msr.reported = false ∧
       (t.replied 0x02 tag .ok (
        .decommission ((numbers 32).countP fun w => (h.tenancy w).record.isSome) h.holder
          (decide (h.idu.cycle = .starting ∨ h.idu.cycle = .sending)) t.prt.station)) ∧
       { t.fixed with latch := h.fixed.latch } = h.fixed) ∧
  (∀ (tag : Nat) (s : State),
     let h : State := s.readyToTake
     s.closed = false →
     s.tenthsDue = 0 →
     s.prt.commissioned = false →
     exec (.decommission tag 0xFF) s = .next (State.answer 0x02 tag .wrongState .empty h))

/-- ClearFault from STATION or a CONTROL slot: a kind code above 7 is BAD_ARGUMENT; with no record of the kind it is
OK and changes nothing; while the condition is present by the test of R135 it is STILL_PRESENT and changes nothing;
otherwise the record of that kind alone leaves the list, the station state is derived anew, and the reply OK carries
it. The earlier reply is taken as sent (the model's choice, log 4). (R135, R139, R142) -/
def Obligations.FaultsAreClearedWhenGone : Prop :=
  (∀ (tag : Nat) (actor : Nat) (a : Actor) (n : Nat) (s : State),
     let h : State := s.heard a
     s.takes .controlSlot actor a →
     7 < n →
     exec (.clearFault tag actor n) s = .next (State.answer 0x0F tag .badArgument .empty h)) ∧
  (∀ (tag : Nat) (actor : Nat) (a : Actor) (n : Nat) (k : FaultKind) (s : State),
     let h : State := s.heard a
     s.takes .controlSlot actor a →
     faultOf n = some k →
     (∀ r ∈ s.prt.faults, r.kind ≠ k) →
     exec (.clearFault tag actor n) s = .next (State.answer 0x0F tag .ok (.station s.prt.station) h)) ∧
  (∀ (tag : Nat) (actor : Nat) (a : Actor) (n : Nat) (k : FaultKind) (r : FaultRec) (s : State),
     let h : State := s.heard a
     s.takes .controlSlot actor a →
     faultOf n = some k →
     r ∈ s.prt.faults →
     r.kind = k →
     s.present k = true →
     exec (.clearFault tag actor n) s = .next (State.answer 0x0F tag .stillPresent .empty h)) ∧
  (∀ (tag : Nat) (actor : Nat) (a : Actor) (n : Nat) (k : FaultKind) (r : FaultRec) (s : State),
     let h : State := s.heard a
     s.takes .controlSlot actor a →
     faultOf n = some k →
     r ∈ s.prt.faults →
     r.kind = k →
     s.present k = false →
     Answers (.clearFault tag actor n) s fun t =>
       (t.prt.faults.map (·.kind) = (h.prt.faults.map (·.kind)).filter fun j => decide (j ≠ k)) ∧
       t.prt.station = t.derived ∧
       t.replied 0x0F tag .ok (.station t.prt.station) ∧
       t.fixed = h.fixed)

/-- Resume from STATION or a CONTROL slot: with the latch clear it is OK and changes nothing; with KILL asserted it is
STILL_PRESENT and changes nothing; otherwise the latch is cleared, the station state is derived anew from the
commissioned item, the fault list and the hold conditions, and the reply OK carries it. The earlier reply is taken as
sent (the model's choice, log 4). (R140, R141) -/
def Obligations.ResumeClearsTheLatch : Prop :=
  (∀ (tag : Nat) (actor : Nat) (a : Actor) (s : State),
     let h : State := s.heard a
     s.takes .controlSlot actor a →
     s.prt.killLatch = false →
     exec (.resume tag actor) s = .next (State.answer 0x10 tag .ok (.station s.prt.station) h)) ∧
  (∀ (tag : Nat) (actor : Nat) (a : Actor) (s : State),
     let h : State := s.heard a
     s.takes .controlSlot actor a →
     s.prt.killLatch = true →
     s.inr.kill.debounced = true →
     exec (.resume tag actor) s = .next (State.answer 0x10 tag .stillPresent .empty h)) ∧
  (∀ (tag : Nat) (actor : Nat) (a : Actor) (s : State),
     let h : State := s.heard a
     let x : StationState := if h.prt.commissioned = false then .uncommissioned
      else if (h.prt.faults.any fun r => tripKind r.kind) = true then .tripped
      else if (h.msr.overtemp || h.msr.supply) = true then .held else .ready
     s.takes .controlSlot actor a →
     s.prt.killLatch = true →
     s.inr.kill.debounced = false →
     Answers (.resume tag actor) s fun t =>
       t.prt.killLatch = false ∧ t.prt.station = x ∧
       t.replied 0x10 tag .ok (.station x) ∧
       { t.fixed with latch := h.fixed.latch } = h.fixed ∧ t.prt.commissioned = h.prt.commissioned)

/-- OpenSlot of a VACANT slot stores the callsign, the class and the clamped allowance, clears the held-back flag and
the air time used, and makes the slot OPEN; nothing else changes. CloseSlot makes any slot VACANT with its identity
fields as after a reset, its presence timer stopped and its request or turn gone; other identities, the settings and
the air time used stay; a VACANT slot is answered OK and nothing changes. OpenSlot of a slot that is not VACANT is
WRONG_STATE, and with a slot above 31, a class above 7 or a bad callsign or indication BAD_ARGUMENT, whatever the
slot's state (the model's choice, log 33). The earlier reply is taken as sent (the model's choice, log 4). (R4, R9,
R10, R22) -/
def Obligations.SlotsOpenAndClose : Prop :=
  (∀ (tag : Nat) (w : SlotId) (l : List Char) (c : ClassId) (p : Bool) (n : Nat) (s : State),
     let h : State := s.readyToTake
     s.closed = false →
     s.tenthsDue = 0 →
     s.tenancy w = .vacant →
     l.length ≤ 10 ∧ l.all callsignChar = true →
     exec (.openSlot tag 0xFF ⟨w.val, l, c.val, p.toNat, n⟩) s = .next (State.answer 0x11 tag (if p = true ∧ clamp 1 86400 n ≠ n then .okClamped else .ok) .empty
      { h with
        clt := { h.clt with
          ids := h.clt.ids.write w ⟨if l = [] then none else some l, c, if p then some (clamp 1 86400 n) else none, false⟩ }
        arb := { h.arb with slots := h.arb.slots.write w .opened }, acu := { h.acu with used := h.acu.used.write w 0 } })) ∧
  (∀ (tag : Nat) (w : SlotId) (l : List Char) (c : ClassId) (p : Bool) (n : Nat) (s : State),
     let h : State := s.readyToTake
     s.closed = false →
     s.tenthsDue = 0 →
     s.tenancy w ≠ .vacant →
     l.length ≤ 10 ∧ l.all callsignChar = true →
     exec (.openSlot tag 0xFF ⟨w.val, l, c.val, p.toNat, n⟩) s = .next (State.answer 0x11 tag .wrongState .empty h)) ∧
  (∀ (tag : Nat) (w : SlotId) (s : State),
     let h : State := s.readyToTake
     s.closed = false →
     s.tenthsDue = 0 →
     s.tenancy w ≠ .vacant →
     Answers (.closeSlot tag 0xFF w.val) s fun t =>
       t.tenancy w = .vacant ∧ t.arb.presence.read w = none ∧ t.holder ≠ some w ∧
       t.clt = { h.clt with ids := h.clt.ids.write w ⟨none, 0, none, false⟩ } ∧
       { t.fixed with clt := h.clt } = h.fixed ∧
       (h.holder = some w → h.raised t (.turnEnded w .closed false)) ∧
       t.replied 0x12 tag .ok .empty) ∧
  (∀ (tag : Nat) (w : SlotId) (s : State),
     let h : State := s.readyToTake
     s.closed = false →
     s.tenthsDue = 0 →
     s.tenancy w = .vacant →
     exec (.closeSlot tag 0xFF w.val) s = .next (State.answer 0x12 tag .ok .empty h)) ∧
  (∀ (tag : Nat) (p : OpenArgs) (s : State),
     let h : State := s.readyToTake
     s.closed = false →
     s.tenthsDue = 0 →
     32 ≤ p.slot ∨ 8 ≤ p.classIx ∨ 2 ≤ p.allowancePresent ∨ 10 < p.callsign.length ∨ p.callsign.all callsignChar = false →
     exec (.openSlot tag 0xFF p) s = .next (State.answer 0x11 tag .badArgument .empty h))

/-- For a slot that is not VACANT: Reclass writes the class index alone, and the slot becomes OPEN when its request or
its turn is not permitted by the new class. Of a permitted holder, a turn limit or idle hang that differs in the new
class and that the turn has passed ends the turn with TURN_LIMIT or IDLE (limitEnds), else a transmission limit that
differs and is passed ends the transmission on the air alone with TX_LIMIT (in a class without SINGLE_OVER), else the
turn and the sequencer stay as they are (which is looked at first is the model's choice, log 27). A permitted WAITING
slot keeps its request, rank and presence timer, and its seize mark only if the new class has CONTROL, with no
REQUEST_DROPPED. HoldSlot sets the held-back flag and nothing else; UnholdSlot clears it, and outside FREE, or in FREE
with no winner or the station not READY, does nothing else; in FREE with the station READY the winner of R25 is
granted and becomes the holder. A VACANT slot is WRONG_STATE for all three, a slot above 31 BAD_ARGUMENT, and for
Reclass so is a class above 7, of a VACANT slot too (the model's choice, log 33). The earlier reply is taken as sent
(the model's choice, log 4). (R11, R12, R13, R14, R27, R43) -/
def Obligations.ClassesAndHoldsOfSlots : Prop :=
  (∀ (tag : Nat) (w : SlotId) (c : ClassId) (s : State),
     let h : State := s.readyToTake
     s.closed = false →
     s.tenthsDue = 0 →
     s.oneHolder →
     s.tenancy w ≠ .vacant →
     Answers (.reclass tag 0xFF w.val c.val) s fun t =>
       t.clt = { h.clt with ids := h.clt.ids.write w { h.identity w with classIx := c } } ∧
       { t.fixed with clt := h.clt } = h.fixed ∧
       (∀ x, h.tenancy w = .waiting x → ((h.drv.bands.read x.band).enabled && (h.clt.classes.read c).bands.read x.band &&
        (h.clt.classes.read c).allows x.emission) = false → t.tenancy w = .opened) ∧
       (∀ tn ∈ h.turn, tn.holder = w → ((h.drv.bands.read tn.band).enabled && (h.clt.classes.read c).bands.read tn.band &&
        (h.clt.classes.read c).allows tn.emission) = false → t.tenancy w = .opened) ∧
       t.replied 0x13 tag .ok .empty) ∧
  (∀ (tag : Nat) (c : ClassId) (tn : Turn) (k : TurnEndCause) (s : State),
     let h : State := s.readyToTake
     let r : ClassRec := s.clt.classes.read c
     s.oneHolder →
     s.turn = some tn →
     s.closed = false →
     s.tenthsDue = 0 →
     ((s.drv.bands.read tn.band).enabled && r.bands.read tn.band && r.allows tn.emission) = true →
     tn.sub ≠ .paused →
     s.settled →
     s.arb.turnGap ≠ 0 →
     s.idu.due = false →
     s.idu.cycle = .idle →
     s.idu.startWaits = false →
     s.passedLimit tn (s.classOf tn.holder) r = some k →
     Answers (.reclass tag 0xFF tn.holder.val c.val) s fun t =>
       h.limitEnds t tn k) ∧
  (∀ (tag : Nat) (c : ClassId) (tn : Turn) (s : State),
     let h : State := s.readyToTake
     let r : ClassRec := s.clt.classes.read c
     s.oneHolder →
     s.turn = some tn →
     s.closed = false →
     s.tenthsDue = 0 →
     ((s.drv.bands.read tn.band).enabled && r.bands.read tn.band && r.allows tn.emission) = true →
     s.passedLimit tn (s.classOf tn.holder) r = none →
     s.passedTxLimit (s.classOf tn.holder) r = true →
     r.singleOver = false →
     s.seq.active.tail ≠ 0 →
     s.settled →
     Answers (.reclass tag 0xFF tn.holder.val c.val) s fun t =>
       t.txLimitEnds tn) ∧
  (∀ (tag : Nat) (c : ClassId) (tn : Turn) (s : State),
     let h : State := s.readyToTake
     let r : ClassRec := s.clt.classes.read c
     s.oneHolder →
     s.turn = some tn →
     s.closed = false →
     s.tenthsDue = 0 →
     ((s.drv.bands.read tn.band).enabled && r.bands.read tn.band && r.allows tn.emission) = true →
     s.passedLimit tn (s.classOf tn.holder) r = none →
     s.passedTxLimit (s.classOf tn.holder) r = false →
     s.settled →
     Answers (.reclass tag 0xFF tn.holder.val c.val) s fun t =>
       t.turn = some tn ∧ t.seq = h.seq ∧ t.acu = h.acu) ∧
  (∀ (tag : Nat) (c : ClassId) (w : SlotId) (x : RequestRec) (s : State),
     let h : State := s.readyToTake
     let r : ClassRec := s.clt.classes.read c
     s.oneHolder →
     s.tenancy w = .waiting x →
     s.closed = false →
     s.tenthsDue = 0 →
     ((s.drv.bands.read x.band).enabled && r.bands.read x.band && r.allows x.emission) = true →
     s.settled →
     s.arb.turnGap ≠ 0 →
     Answers (.reclass tag 0xFF w.val c.val) s fun t =>
       t.tenancy w = .waiting { x with mark := x.mark && r.control } ∧
       t.arb.ranks = h.arb.ranks ∧ t.arb.presence.read w = h.arb.presence.read w ∧
       ((∀ v, v ≠ w → (h.tenancy v).record = none) → t.lnk.flags &&& kindBit 4 = h.lnk.flags &&& kindBit 4)) ∧
  (∀ (tag : Nat) (actor : Nat) (a : Actor) (w : SlotId) (s : State),
     let h : State := s.heard a
     s.takes .controlSlot actor a →
     s.tenancy w ≠ .vacant →
     exec (.holdSlot tag actor w.val) s = .next (State.answer 0x32 tag .ok .empty { h with clt := { h.clt with ids := h.clt.ids.write w { h.identity w with heldBack := true } } })) ∧
  (∀ (tag : Nat) (actor : Nat) (a : Actor) (w : SlotId) (s : State),
     let h : State := s.heard a
     s.takes .controlSlot actor a →
     s.tenancy w ≠ .vacant →
     s.arb.arbiter ≠ .free →
     s.settled →
     exec (.unholdSlot tag actor w.val) s = .next (State.answer 0x33 tag .ok .empty { h with clt := { h.clt with ids := h.clt.ids.write w { h.identity w with heldBack := false } } })) ∧
  (∀ (tag : Nat) (actor : Nat) (a : Actor) (w : SlotId) (s : State),
     let h : State := s.heard a
     s.takes .controlSlot actor a →
     s.tenancy w ≠ .vacant →
     s.arb.arbiter = .free →
     s.prt.station ≠ .ready ∨ (s.setHeldBack w false).winner = none →
     s.settled →
     exec (.unholdSlot tag actor w.val) s = .next (State.answer 0x33 tag .ok .empty { h with clt := { h.clt with ids := h.clt.ids.write w { h.identity w with heldBack := false } } })) ∧
  (∀ (tag : Nat) (actor : Nat) (a : Actor) (w : SlotId) (v : SlotId) (s : State),
     let h : State := s.heard a
     s.takes .controlSlot actor a →
     s.tenancy w ≠ .vacant →
     s.arb.arbiter = .free →
     s.prt.station = .ready →
     (s.setHeldBack w false).winner = some v →
     Answers (.unholdSlot tag actor w.val) s fun t =>
       t.holder = some v ∧
       (t.identity w).heldBack = false ∧
       (∀ u, t.arb.ranks.read u = if u = v then 0 else if h.arb.ranks.read u < h.arb.ranks.read v then h.arb.ranks.read u + 1 else h.arb.ranks.read u)) ∧
  (∀ (tag : Nat) (actor : Nat) (a : Actor) (w : SlotId) (c : ClassId) (s : State),
     let h : State := s.heard a
     s.takes .controlSlot actor a →
     actor = 255 →
     s.tenancy w = .vacant →
     exec (.holdSlot tag actor w.val) s = .next (State.answer 0x32 tag .wrongState .empty h) ∧
    exec (.unholdSlot tag actor w.val) s = .next (State.answer 0x33 tag .wrongState .empty h) ∧
    exec (.reclass tag actor w.val c.val) s = .next (State.answer 0x13 tag .wrongState .empty h)) ∧
  (∀ (tag : Nat) (actor : Nat) (a : Actor) (n : Nat) (c : Nat) (s : State),
     let h : State := s.heard a
     s.takes .controlSlot actor a →
     actor = 255 →
     31 < n →
     exec (.holdSlot tag actor n) s = .next (State.answer 0x32 tag .badArgument .empty h) ∧
    exec (.unholdSlot tag actor n) s = .next (State.answer 0x33 tag .badArgument .empty h) ∧
    exec (.reclass tag actor n c) s = .next (State.answer 0x13 tag .badArgument .empty h)) ∧
  (∀ (tag : Nat) (w : SlotId) (n : Nat) (s : State),
     let h : State := s.readyToTake
     s.closed = false →
     s.tenthsDue = 0 →
     7 < n →
     exec (.reclass tag 0xFF w.val n) s = .next (State.answer 0x13 tag .badArgument .empty h))

/-- A Request with valid codes from a slot that is not HOLDING, permitted and not exhausted: outside FREE the slot is
WAITING with the payload's record (power clamped, origin FRAME, no mark), its presence timer started if it was OPEN,
and nothing else changes. In FREE with the station READY, no other slot waiting, the slot not held back, another band
set and SEQ QUIET, it is granted: HOLDING with a turn in TUNING, RETUNE entered with the band's relay code, f 256, the
ranks rotated, the amplifier warmed when auto-amp calls for it, TURN_GRANTED raised. HOLDING is WRONG_STATE, not
permitted NOT_PERMITTED, exhausted NO_ALLOWANCE, a bad code BAD_ARGUMENT; these change nothing. The earlier reply is
taken as sent (the model's choice, log 4). (R18, R19, R22, R23, R27, R30, R66, R67, R103) -/
def Obligations.RequestsWaitOrAreGranted : Prop :=
  (∀ (tag : Nat) (w : SlotId) (b : BandId) (e : Emission) (ec : Nat) (n : Nat) (m : Mode) (mc : Nat) (s : State),
     let h : State := s.heard (.slot w)
     s.closed = false →
     s.tenthsDue = 0 →
     s.tenancy w ≠ .vacant →
     emissionOf ec = some e →
     modeOf mc = some m →
     s.tenancy w ≠ .holding →
     s.permit w b e = true →
     s.exhausted w = false →
     s.arb.arbiter ≠ .free →
     s.settled →
     exec (.request tag w.val b.val ec n mc) s = .next (State.answer 0x20 tag (if clamp 1 4000 n = n then .ok else .okClamped) (.requestState .waiting)
      { h with arb := { h.arb with
        slots := h.arb.slots.write w (.waiting ⟨b, e, clamp 1 4000 n, m, .frame, false⟩)
        presence :=
          if h.tenancy w = .opened ∧ w ≠ 0 then h.arb.presence.write w (some ⟨h.clock, h.arb.presenceTimeout * 1000⟩)
          else h.arb.presence } })) ∧
  (∀ (tag : Nat) (w : SlotId) (b : BandId) (e : Emission) (ec : Nat) (n : Nat) (m : Mode) (mc : Nat) (s : State),
     let h : State := s.heard (.slot w)
     let p : Nat := clamp 1 4000 n
     s.closed = false →
     s.tenthsDue = 0 →
     s.tenancy w ≠ .vacant →
     emissionOf ec = some e →
     modeOf mc = some m →
     s.tenancy w ≠ .holding →
     s.permit w b e = true →
     s.exhausted w = false →
     s.arb.arbiter = .free →
     s.prt.station = .ready →
     (∀ v, v ≠ w → (s.tenancy v).record = none) →
     (s.identity w).heldBack = false →
     s.seq.currentBand ≠ some b →
     s.seq.state = .quiet →
     s.seq.active.bandSettle ≠ 0 →
     w ≠ 0 →
     s.settled →
     Answers (.request tag w.val b.val ec n mc) s fun t =>
       t.turn = some ⟨w, b, e, p, m, .tuning, h.seconds, h.clock, 0, 0, false, none⟩ ∧
       t.tenancy w = .holding ∧ t.seq.state = .retune ∧ t.seq.bandCode = (h.drv.bands.read b).relayCode ∧ t.seq.currentBand = some b ∧
       t.seq.step = some ⟨h.clock, h.seq.active.bandSettle * 10⟩ ∧ t.msr.factor = 256 ∧
       (∀ v, t.arb.ranks.read v = if v = w then 0 else if h.arb.ranks.read v < h.arb.ranks.read w then h.arb.ranks.read v + 1 else h.arb.ranks.read v) ∧
       (t.amg.state = (if h.amg.autoAmp = true ∧ h.drv.barefootCeiling < h.uncapped w b e p ∧ h.amg.state = .off then
          (if h.ampReady then .on else .warming) else h.amg.state)) ∧
       (h.raised t (.turnGranted w b e p) ∧ t.replied 0x20 tag (if p = n then .ok else .okClamped) (.requestState .holding) ∧ t.fixed = h.fixed)) ∧
  (∀ (tag : Nat) (w : SlotId) (b : BandId) (e : Emission) (ec : Nat) (n : Nat) (mc : Nat) (s : State),
     let h : State := s.heard (.slot w)
     s.closed = false →
     s.tenthsDue = 0 →
     s.tenancy w ≠ .vacant →
     emissionOf ec = some e →
     mc < 2 →
     s.tenancy w = .holding ∨ s.permit w b e = false ∨ s.exhausted w = true →
     exec (.request tag w.val b.val ec n mc) s = .next (State.answer 0x20 tag (if s.tenancy w = .holding then .wrongState
      else if s.permit w b e = false then .notPermitted else .noAllowance) .empty h)) ∧
  (∀ (tag : Nat) (w : SlotId) (b : Nat) (ec : Nat) (n : Nat) (mc : Nat) (s : State),
     let h : State := s.heard (.slot w)
     s.closed = false →
     s.tenthsDue = 0 →
     s.tenancy w ≠ .vacant →
     12 ≤ b ∨ 3 ≤ ec ∨ 2 ≤ mc →
     exec (.request tag w.val b ec n mc) s = .next (State.answer 0x20 tag .badArgument .empty h))

/-- R20 whole. The payload of a Withdraw frame is empty (any other length is BAD_LENGTH). From a WAITING slot it
removes the request record with any seize mark: the slot becomes OPEN, its presence timer stops, the reply is OK, and
nothing else changes, so no REQUEST_DROPPED is raised and no arbitration runs. From a HOLDING or OPEN slot it is
refused with WRONG_STATE and changes nothing. The earlier reply is taken as sent (the model's choice, log 4). (R20) -/
def Obligations.WithdrawCancels : Prop :=
  (∀ (tag : Nat) (w : SlotId) (x : RequestRec) (s : State),
     let h : State := s.heard (.slot w)
     s.closed = false →
     s.tenthsDue = 0 →
     s.tenancy w = .waiting x →
     exec (.withdraw tag w.val) s = .next (State.answer 0x21 tag .ok .empty { h with arb := { h.arb with
      slots := h.arb.slots.write w .opened, presence := h.arb.presence.write w none } })) ∧
  (∀ (tag : Nat) (w : SlotId) (s : State),
     let h : State := s.heard (.slot w)
     s.closed = false →
     s.tenthsDue = 0 →
     s.tenancy w = .holding ∨ s.tenancy w = .opened →
     exec (.withdraw tag w.val) s = .next (State.answer 0x21 tag .wrongState .empty h)) ∧
  (∀ (f : RawFrame),
     f.kind = 0x21 →
     parseFrame f = if f.payload = [] then .command (.withdraw f.tag.toNat f.actor.toNat) else .badLength)

/-- Presence is answered OK and restarts a running presence timer with the timeout in force; nothing else changes but
that a reply still owed is taken as sent, with the reports ahead of it (the model's choice, log 4). The expiry of a
WAITING slot's presence timer makes it OPEN with REQUEST_DROPPED (PRESENCE) and nothing else. The gap's expiry stops
it; in GAP with the station READY the winner is granted and becomes the holder with the ranks rotated; with no winner
or outside READY the arbiter is FREE and no slot changes; in ID_TURN the timer alone stops. An occurrence commanded
before its instant brings the clock forward to it (the model's choice, log 1). (R22, R23, R24, R25, R27, R28) -/
def Obligations.PresenceAndGapTimers : Prop :=
  (∀ (tag : Nat) (w : SlotId) (tm : Timer) (s : State),
     s.closed = false →
     s.tenthsDue = 0 →
     s.tenancy w ≠ .vacant →
     w ≠ 0 →
     s.arb.presence.read w = some tm →
     exec (.presence tag w.val) s = .next (State.answer 0x23 tag .ok .empty { s.readyToTake with arb := { s.arb with
      presence := s.arb.presence.write w (some ⟨s.clock, s.arb.presenceTimeout * 1000⟩) } })) ∧
  (∀ (tag : Nat) (w : SlotId) (s : State),
     s.closed = false →
     s.tenthsDue = 0 →
     s.tenancy w ≠ .vacant →
     s.arb.presence.read w = none →
     exec (.presence tag w.val) s = .next (State.answer 0x23 tag .ok .empty s.readyToTake)) ∧
  (∀ (w : SlotId) (tm : Timer) (x : RequestRec) (s : State),
     let h : State := s.bringTo tm.due
     s.rst = false →
     s.arb.presence.read w = some tm →
     s.tenancy w = .waiting x →
     s.holder ≠ some w →
     s.settled →
     (s.bringTo tm.due).tenthsDue = 0 →
     exec (.presenceExpiry w) s = .next (State.raise (.requestDropped w .presence none) { h with arb := { h.arb with
      slots := h.arb.slots.write w .opened, presence := h.arb.presence.write w none } })) ∧
  (∀ (tm : Timer) (v : SlotId) (s : State),
     let h : State := s.bringTo tm.due
     s.rst = false →
     s.arb.gap = some tm →
     s.arb.arbiter = .gap →
     s.prt.station = .ready →
     (s.bringTo tm.due).winner = some v →
     (s.bringTo tm.due).tenthsDue = 0 →
     Answers (.gapExpiry) s fun t =>
       t.holder = some v ∧ t.arb.gap = none ∧ t.fixed = h.fixed ∧
       (∀ u, t.arb.ranks.read u = if u = v then 0 else if h.arb.ranks.read u < h.arb.ranks.read v then h.arb.ranks.read u + 1 else h.arb.ranks.read u)) ∧
  (∀ (tm : Timer) (s : State),
     let h : State := s.bringTo tm.due
     s.rst = false →
     s.arb.gap = some tm →
     s.arb.arbiter = .gap →
     s.idu.due = false →
     s.settled →
     s.prt.station ≠ .ready ∨ (s.bringTo tm.due).winner = none →
     (s.bringTo tm.due).tenthsDue = 0 →
     Answers (.gapExpiry) s fun t =>
       t.arb = { h.arb with arbiter := .free, gap := none } ∧
       { t with arb := h.arb, idu := h.idu } = h ∧
       { t.idu with quiet := h.idu.quiet } = h.idu) ∧
  (∀ (tm : Timer) (s : State),
     let h : State := s.bringTo tm.due
     s.rst = false →
     s.arb.gap = some tm →
     s.arb.arbiter = .idTurn →
     s.settled →
     (s.bringTo tm.due).tenthsDue = 0 →
     exec (.gapExpiry) s = .next ({ h with arb := { h.arb with gap := none } }))

/-- With no identification pending, a turn that is not PAUSED ends by the holder's Release (RELEASED), by EndTurn
naming the holder (ENDED_BY_CONTROL), at the turn limit (TURN_LIMIT), at the idle hang (IDLE), all re-queuing a
STANDING turn, and at the expiry of the holder's presence timer (PRESENCE_LOST, never re-queued): turnEndedAs says
what holds afterwards. Release by another slot and EndTurn naming a slot that is not the holder are WRONG_STATE.
Ending a PAUSED turn while the station is READY hands its running identification to ID_TURN with the gap running
alongside. The earlier reply is taken as sent (the model's choice, log 4). An occurrence commanded before its instant
brings the clock forward to it (the model's choice, log 1). (R21, R22, R28, R33, R34, R35, R36, R38, R42, R170) -/
def Obligations.TurnsEndAsTheRulesSay : Prop :=
  (∀ (tag : Nat) (w : SlotId) (tn : Turn) (s : State),
     let h : State := s.heard (.slot w)
     s.closed = false →
     s.tenthsDue = 0 →
     s.tenancy w ≠ .vacant →
     s.turn = some tn →
     tn.holder = w →
     s.settled →
     s.arb.turnGap ≠ 0 →
     s.idu.due = false →
     s.idu.cycle = .idle →
     s.idu.startWaits = false →
     tn.sub ≠ .paused →
     Answers (.release tag w.val) s fun t =>
       h.turnEndedAs t tn .released (decide (tn.mode = .standing)) ∧
       t.replied 0x22 tag .ok .empty) ∧
  (∀ (tag : Nat) (actor : Nat) (a : Actor) (w : SlotId) (tn : Turn) (s : State),
     let h : State := s.heard a
     s.takes .controlSlot actor a →
     s.turn = some tn →
     tn.holder = w →
     s.settled →
     s.arb.turnGap ≠ 0 →
     s.idu.due = false →
     s.idu.cycle = .idle →
     s.idu.startWaits = false →
     tn.sub ≠ .paused →
     Answers (.endTurn tag actor w.val) s fun t =>
       h.turnEndedAs t tn .endedByControl (decide (tn.mode = .standing)) ∧
       t.replied 0x31 tag .ok .empty) ∧
  (∀ (tn : Turn) (s : State),
     let h : State := s.bringTo (tn.grantClock + BitVec.ofNat 32 ((s.classOf tn.holder).turnLimit * 60000))
     s.rst = false →
     s.turn = some tn →
     s.settled →
     s.arb.turnGap ≠ 0 →
     s.idu.due = false →
     s.idu.cycle = .idle →
     s.idu.startWaits = false →
     tn.sub ≠ .paused →
     (s.bringTo (tn.grantClock + BitVec.ofNat 32 ((s.classOf tn.holder).turnLimit * 60000))).tenthsDue = 0 →
     Answers (.turnLimitExpiry) s fun t =>
       h.turnEndedAs t tn .turnLimit (decide (tn.mode = .standing))) ∧
  (∀ (tn : Turn) (i : Clock) (s : State),
     let h : State := s.bringTo (i + BitVec.ofNat 32 ((s.classOf tn.holder).idleHang * 1000))
     s.rst = false →
     s.turn = some tn →
     tn.idleStart = some i →
     s.settled →
     s.arb.turnGap ≠ 0 →
     s.idu.due = false →
     s.idu.cycle = .idle →
     s.idu.startWaits = false →
     tn.sub ≠ .paused →
     (s.bringTo (i + BitVec.ofNat 32 ((s.classOf tn.holder).idleHang * 1000))).tenthsDue = 0 →
     Answers (.idleHangExpiry) s fun t =>
       h.turnEndedAs t tn .idle (decide (tn.mode = .standing))) ∧
  (∀ (tn : Turn) (tm : Timer) (s : State),
     let h : State := s.bringTo tm.due
     s.rst = false →
     s.turn = some tn →
     s.arb.presence.read tn.holder = some tm →
     s.settled →
     s.arb.turnGap ≠ 0 →
     s.idu.due = false →
     s.idu.cycle = .idle →
     s.idu.startWaits = false →
     tn.sub ≠ .paused →
     (s.bringTo tm.due).tenthsDue = 0 →
     Answers (.presenceExpiry tn.holder) s fun t =>
       h.turnEndedAs t tn .presenceLost false) ∧
  (∀ (tag : Nat) (w : SlotId) (s : State),
     let h : State := s.heard (.slot w)
     s.closed = false →
     s.tenthsDue = 0 →
     s.tenancy w ≠ .vacant →
     s.holder ≠ some w →
     exec (.release tag w.val) s = .next (State.answer 0x22 tag .wrongState .empty h)) ∧
  (∀ (tag : Nat) (actor : Nat) (a : Actor) (w : SlotId) (s : State),
     let h : State := s.heard a
     s.takes .controlSlot actor a →
     s.holder ≠ some w →
     exec (.endTurn tag actor w.val) s = .next (State.answer 0x31 tag .wrongState .empty h)) ∧
  (∀ (tag : Nat) (actor : Nat) (a : Actor) (tn : Turn) (s : State),
     let h : State := s.heard a
     s.takes .controlSlot actor a →
     s.turn = some tn →
     tn.sub = .paused →
     s.prt.station = .ready →
     s.idu.cycle = .starting ∨ s.idu.cycle = .sending →
     s.memberTx = false →
     s.settled →
     s.arb.turnGap ≠ 0 →
     s.idu.startWaits = false ∨ s.seq.state ≠ .quiet →
     Answers (.endTurn tag actor tn.holder.val) s fun t =>
       t.arb.arbiter = .idTurn ∧ t.arb.gap = some ⟨h.clock, h.arb.turnGap⟩ ∧
       t.idu.cycle = h.idu.cycle ∧ t.idu.claim = .none ∧
       (∀ c ∈ h.idu.context, c.home = .memberTurn → (t.idu.context.map (·.home)) = some .idTurn) ∧
       t.seq.state = h.seq.state ∧ h.raised t (.turnEnded tn.holder .endedByControl (decide (tn.mode = .standing))))

/-- From the holder of a PHONE or DATA turn with the station READY: in QUIET with the turn ACTIVE the start is taken
(ARM_RELAY with TRR, the context with the path for the uncapped target, the relay-on wait, one more in the
transmission count) and the reply says STARTED; with its transmission on the air ALREADY; in DRAIN, for its own
transmission of the current turn, ACTIVE, and with the amplifier ON on the AMPLIFIED path, EXCITING is entered again
as onAirAs says, with the over-current count at 0 (DEDUCED, log 34) and a pending start that was set left as it is
(DEDUCED, log 22), one more in the count, and the reply says STARTED; in RETUNE, DISARM_AMP and DISARM_RELAY, in QUIET
outside ACTIVE, while another transmission is in SEQ and in DRAIN otherwise the pending-start flag is set and the
reply says PENDING. LOCAL_PTT becoming active for slot 0's PHONE or DATA turn is the same start, without the PTT
demand: taken in QUIET, a return out of DRAIN, pending in the same cases, and without effect with the transmission on
the air or on a station that is not READY. Before the first EXCITING entry of a context its clock reads 0 (the model's
choice, log 39). A slot that is not the holder and a CW turn are WRONG_STATE, a station that is not READY HELD; these
change nothing. The earlier reply is taken as sent (the model's choice, log 4). An occurrence commanded before its
instant brings the clock forward to it (the model's choice, log 1). (R53, R54, R55, R56, R57, R58, R60, R110) -/
def Obligations.PttOnStarts : Prop :=
  (∀ (tag : Nat) (w : SlotId) (tn : Turn) (s : State),
     let h : State := s.heard (.slot w)
     s.closed = false →
     s.tenthsDue = 0 →
     s.tenancy w ≠ .vacant →
     s.turn = some tn →
     tn.holder = w →
     tn.emission ≠ .cw →
     tn.sub = .active →
     s.prt.station = .ready →
     s.seq.state = .quiet →
     s.seq.active.relayOn ≠ 0 →
     s.settled →
     Answers (.pttOn tag w.val) s fun t =>
       (t.seq = { h.seq with
        pttDemand := true, state := .armRelay, trr := true, idm := false, step := some ⟨h.clock, h.seq.active.relayOn⟩
        tx := some ⟨.member w, tn.band, tn.emission, if h.amg.state = .on ∧ h.drv.barefootCeiling < h.uncapped w tn.band tn.emission tn.power then .amplified else .barefoot,
          0, 0, none, none, true⟩ }) ∧
       t.turn = some { tn with txCount := countUp max16 tn.txCount, pendingStart := false, idleStart := none } ∧
       t.amg = { h.amg with idle := none } ∧ t.drv = h.drv ∧ t.ktl = h.ktl ∧ t.msr = h.msr ∧ t.prt = h.prt ∧ t.idu = h.idu ∧
      t.acu = h.acu ∧ { t.arb with arbiter := h.arb.arbiter } = h.arb ∧ t.fixed = h.fixed ∧
       t.replied 0x24 tag .ok (.ptt .started)) ∧
  (∀ (tag : Nat) (w : SlotId) (tn : Turn) (s : State),
     let h : State := s.heard (.slot w)
     s.closed = false →
     s.tenthsDue = 0 →
     s.tenancy w ≠ .vacant →
     s.turn = some tn →
     tn.holder = w →
     tn.emission ≠ .cw →
     s.prt.station = .ready →
     s.running = true →
     s.settled →
     exec (.pttOn tag w.val) s = .next (State.answer 0x24 tag .ok (.ptt .already) { h with seq := { h.seq with pttDemand := true } })) ∧
  (∀ (tag : Nat) (w : SlotId) (tn : Turn) (s : State),
     let h : State := s.heard (.slot w)
     s.closed = false →
     s.tenthsDue = 0 →
     s.tenancy w ≠ .vacant →
     s.turn = some tn →
     tn.holder = w →
     tn.emission ≠ .cw →
     s.prt.station = .ready →
     (s.seq.state = .retune ∨ s.seq.state = .disarmAmp ∨ s.seq.state = .disarmRelay ∨ (s.seq.state = .quiet ∧ tn.sub ≠ .active) ∨
      ((s.seq.state = .armRelay ∨ s.seq.state = .armAmp ∨ s.seq.state = .exciting) ∧ s.memberTx = false) ∨
      (s.seq.state = .drain ∧ (tn.sub ≠ .active ∨ ∀ x, s.seq.tx = some x →
        x.kind = .ident ∨ x.current = false ∨ (x.path = .amplified ∧ s.amg.state ≠ .on)))) →
     s.settled →
     exec (.pttOn tag w.val) s = .next (State.answer 0x24 tag .ok (.ptt .pending) { h with
      seq := { h.seq with pttDemand := true }, arb := { h.arb with arbiter := .turn { tn with pendingStart := true, idleStart := none } } })) ∧
  (∀ (tag : Nat) (w : SlotId) (tn : Turn) (x : Tx) (s : State),
     let h : State := s.heard (.slot w)
     let v : Turn := { tn with txCount := countUp max16 tn.txCount }
     let g : State := { h with seq := { h.seq with pttDemand := true }, arb := { h.arb with arbiter := .turn v } }
     s.closed = false →
     s.tenthsDue = 0 →
     s.tenancy w ≠ .vacant →
     s.turn = some tn →
     tn.holder = w →
     tn.emission ≠ .cw →
     tn.sub = .active →
     s.prt.station = .ready →
     s.seq.state = .drain →
     s.seq.tx = some x →
     x.kind = .member w →
     x.current = true →
     x.path = .barefoot ∨ s.amg.state = .on →
     s.settled →
     Answers (.pttOn tag w.val) s fun t =>
       g.onAirAs t w v x ∧
       t.replied 0x24 tag .ok (.ptt .started)) ∧
  (∀ (i : InputId) (y : Input) (n : Clock) (tn : Turn) (s : State),
     let h : State := s.bringTo (n + BitVec.ofNat 32 y.debounce)
     s.rst = false →
     s.inr.inputs.read i = y →
     y.since = some n →
     y.function = .localPtt →
     y.trigger = .level →
     s.functionActive .localPtt = false →
     ({ y with debounced := y.raw }).active = true →
     s.turn = some tn →
     tn.holder = 0 →
     tn.emission ≠ .cw →
     tn.sub = .active →
     s.prt.station = .ready →
     s.seq.state = .quiet →
     s.seq.active.relayOn ≠ 0 →
     s.settled →
     Answers (.debounceExpiry i) s fun t =>
       t.seq.state = .armRelay ∧ t.seq.trr = true ∧ t.seq.step = some ⟨h.clock, h.seq.active.relayOn⟩ ∧ t.seq.pttDemand = h.seq.pttDemand ∧
       ((t.seq.tx.map fun z => (z.kind, z.band, z.emission, z.current)) = some (.member 0, tn.band, tn.emission, true)) ∧
       t.turn = some { tn with txCount := countUp max16 tn.txCount, pendingStart := false, idleStart := none } ∧
       t.drv = h.drv ∧ t.ktl = h.ktl ∧ t.msr = h.msr ∧ t.prt = h.prt ∧ t.idu = h.idu ∧ t.acu = h.acu ∧ { t.fixed with inr := h.inr } = h.fixed) ∧
  (∀ (i : InputId) (y : Input) (n : Clock) (tn : Turn) (s : State),
     let h : State := s.bringTo (n + BitVec.ofNat 32 y.debounce)
     let u : State := { h with inr := { h.inr with inputs := h.inr.inputs.write i { y with debounced := y.raw, since := none } } }
     s.rst = false →
     s.inr.inputs.read i = y →
     y.since = some n →
     y.function = .localPtt →
     y.trigger = .level →
     s.functionActive .localPtt = false →
     ({ y with debounced := y.raw }).active = true →
     s.turn = some tn →
     tn.holder = 0 →
     tn.emission ≠ .cw →
     s.prt.station = .ready →
     (s.seq.state = .retune ∨ s.seq.state = .disarmAmp ∨ s.seq.state = .disarmRelay ∨ (s.seq.state = .quiet ∧ tn.sub ≠ .active) ∨
      ((s.seq.state = .armRelay ∨ s.seq.state = .armAmp ∨ s.seq.state = .exciting) ∧ s.memberTx = false) ∨
      (s.seq.state = .drain ∧ (tn.sub ≠ .active ∨ ∀ x, s.seq.tx = some x →
        x.kind = .ident ∨ x.current = false ∨ (x.path = .amplified ∧ s.amg.state ≠ .on)))) →
     s.settled →
     (s.bringTo (n + BitVec.ofNat 32 y.debounce)).tenthsDue = 0 →
     exec (.debounceExpiry i) s = .next ({ u with arb := { h.arb with arbiter := .turn { tn with pendingStart := true, idleStart := none } } })) ∧
  (∀ (i : InputId) (y : Input) (n : Clock) (tn : Turn) (x : Tx) (s : State),
     let h : State := s.bringTo (n + BitVec.ofNat 32 y.debounce)
     let u : State := { h with inr := { h.inr with inputs := h.inr.inputs.write i { y with debounced := y.raw, since := none } } }
     let v : Turn := { tn with txCount := countUp max16 tn.txCount }
     let g : State := { u with arb := { h.arb with arbiter := .turn v } }
     s.rst = false →
     s.inr.inputs.read i = y →
     y.since = some n →
     y.function = .localPtt →
     y.trigger = .level →
     s.functionActive .localPtt = false →
     ({ y with debounced := y.raw }).active = true →
     s.turn = some tn →
     tn.holder = 0 →
     tn.emission ≠ .cw →
     tn.sub = .active →
     s.prt.station = .ready →
     s.seq.state = .drain →
     s.seq.tx = some x →
     x.kind = .member 0 →
     x.current = true →
     x.path = .barefoot ∨ s.amg.state = .on →
     s.settled →
     Answers (.debounceExpiry i) s fun t =>
       g.onAirAs t 0 v x) ∧
  (∀ (i : InputId) (y : Input) (n : Clock) (tn : Turn) (s : State),
     let h : State := s.bringTo (n + BitVec.ofNat 32 y.debounce)
     let u : State := { h with inr := { h.inr with inputs := h.inr.inputs.write i { y with debounced := y.raw, since := none } } }
     s.rst = false →
     s.inr.inputs.read i = y →
     y.since = some n →
     y.function = .localPtt →
     y.trigger = .level →
     s.functionActive .localPtt = false →
     ({ y with debounced := y.raw }).active = true →
     s.turn = some tn →
     tn.holder = 0 →
     tn.emission ≠ .cw →
     s.prt.station ≠ .ready ∨ s.running = true →
     s.settled →
     (s.bringTo (n + BitVec.ofNat 32 y.debounce)).tenthsDue = 0 →
     exec (.debounceExpiry i) s = .next (u)) ∧
  (∀ (tag : Nat) (w : SlotId) (s : State),
     let h : State := s.heard (.slot w)
     s.closed = false →
     s.tenthsDue = 0 →
     s.tenancy w ≠ .vacant →
     s.holder ≠ some w →
     exec (.pttOn tag w.val) s = .next (State.answer 0x24 tag .wrongState .empty h)) ∧
  (∀ (tag : Nat) (w : SlotId) (tn : Turn) (s : State),
     let h : State := s.heard (.slot w)
     s.closed = false →
     s.tenthsDue = 0 →
     s.tenancy w ≠ .vacant →
     s.turn = some tn →
     tn.holder = w →
     tn.emission = .cw ∨ s.prt.station ≠ .ready →
     exec (.pttOn tag w.val) s = .next (State.answer 0x24 tag (if tn.emission = .cw then .wrongState else .held) .empty h))

/-- With the holder's transmission in EXCITING: PttOff that leaves no demand (cause PTT_OFF), LOCAL_PTT becoming
inactive with the flag clear (LOCAL_RELEASE), the transmission limit (TX_LIMIT), the hang timer (CW_HANG) and the
deadline timer (ID_DEADLINE) end it normally; txEndedAs says what holds afterwards. When the holder's class has
SINGLE_OVER the first four also end the turn with TURN_ENDED (SINGLE_OVER); ID_DEADLINE does not. With the holder's
transmission in ARM_RELAY or ARM_AMP, the same PttOff, LOCAL_PTT let go, the deadline timer, and an end of the turn
(EndTurn, the turn limit) abandon the arming with the causes PTT_OFF, LOCAL_RELEASE, ID_DEADLINE and TURN_END, as
armingEndedAs says (no TX_STARTED, no TX_ENDED); it is no complete over: the turn and its transmission count stay but
for an end of the turn, and a claim that waits for the transmission's end pauses the turn. The demand is cleared at an
abandoned arming too (DEDUCED, log 26). With no transmission of the holder running PttOff clears the demand and a
pending start, a PAUSED turn's too (whatever ID_DONE had made of the demand, the model's reading, log 31), and the
idle hang starts where its conditions then hold. PttOff of a slot that is not the holder or of a CW turn is
WRONG_STATE. The earlier reply is taken as sent (the model's choice, log 4). An occurrence commanded before its
instant brings the clock forward to it (the model's choice, log 1). (R37, R55, R57, R61, R62, R64, R88, R157, R162) -/
def Obligations.TransmissionsEndNormally : Prop :=
  (∀ (tag : Nat) (w : SlotId) (tn : Turn) (x : Tx) (s : State),
     let h : State := s.heard (.slot w)
     s.closed = false →
     s.tenthsDue = 0 →
     s.tenancy w ≠ .vacant →
     s.turn = some tn →
     tn.holder = w →
     tn.emission ≠ .cw →
     w ≠ 0 ∨ s.functionActive .localPtt = false →
     s.seq.tx = some x →
     s.memberExciting = true →
     s.seq.active.tail ≠ 0 →
     s.settled →
     Answers (.pttOff tag w.val) s fun t =>
       h.txEndedAs t x .pttOff ∧
       ((h.classOf w).singleOver = true → h.raised t (.turnEnded w .singleOver (decide (tn.mode = .standing)))) ∧
       ((h.classOf w).singleOver = false → h.idu.claim ≠ .atTxEnd → t.holder = some w) ∧
       t.replied 0x25 tag .ok .empty) ∧
  (∀ (tn : Turn) (x : Tx) (l : Clock) (s : State),
     let h : State := s.bringTo (l + BitVec.ofNat 32 ((s.classOf tn.holder).txLimit * 1000))
     s.rst = false →
     s.turn = some tn →
     x.limitStart = some l →
     s.seq.tx = some x →
     s.memberExciting = true →
     s.seq.active.tail ≠ 0 →
     s.settled →
     (s.bringTo (l + BitVec.ofNat 32 ((s.classOf tn.holder).txLimit * 1000))).tenthsDue = 0 →
     Answers (.txLimitExpiry) s fun t =>
       h.txEndedAs t x .txLimit ∧
       ((h.classOf tn.holder).singleOver = true → h.raised t (.turnEnded tn.holder .singleOver (decide (tn.mode = .standing))))) ∧
  (∀ (tn : Turn) (x : Tx) (tm : Timer) (s : State),
     let h : State := s.bringTo tm.due
     s.rst = false →
     s.turn = some tn →
     s.ktl.hang = some tm →
     s.seq.tx = some x →
     s.memberExciting = true →
     s.seq.active.tail ≠ 0 →
     s.settled →
     (s.bringTo tm.due).tenthsDue = 0 →
     Answers (.hangExpiry) s fun t =>
       h.txEndedAs t x .cwHang ∧
       ((h.classOf tn.holder).singleOver = true → h.raised t (.turnEnded tn.holder .singleOver (decide (tn.mode = .standing))))) ∧
  (∀ (tn : Turn) (x : Tx) (s : State),
     let h : State := s.bringTo s.idu.deadlineAt
     s.rst = false →
     s.turn = some tn →
     s.idu.deadlineRuns = true →
     s.seq.tx = some x →
     s.memberExciting = true →
     s.seq.active.tail ≠ 0 →
     s.settled →
     (s.bringTo s.idu.deadlineAt).tenthsDue = 0 →
     Answers (.deadlineExpiry) s fun t =>
       h.txEndedAs t x .idDeadline ∧
       t.holder = some tn.holder ∧
       t.idu.deadlineRuns = false) ∧
  (∀ (i : InputId) (y : Input) (n : Clock) (tn : Turn) (x : Tx) (s : State),
     let h : State := s.bringTo (n + BitVec.ofNat 32 y.debounce)
     let g : State := { h with inr := { h.inr with inputs := h.inr.inputs.write i { y with debounced := y.raw, since := none } } }
     s.rst = false →
     s.inr.inputs.read i = y →
     y.since = some n →
     y.function = .localPtt →
     y.trigger = .level →
     y.raw = false →
     y.debounced = true →
     y.polarity = .activeHigh →
     (∀ j, j ≠ i → (s.inr.inputs.read j).function ≠ .localPtt) →
     s.turn = some tn →
     tn.holder = 0 →
     tn.emission ≠ .cw →
     s.seq.pttDemand = false →
     s.seq.tx = some x →
     s.memberExciting = true →
     s.seq.active.tail ≠ 0 →
     s.settled →
     (s.bringTo (n + BitVec.ofNat 32 y.debounce)).tenthsDue = 0 →
     Answers (.debounceExpiry i) s fun t =>
       g.txEndedAs t x .localRelease ∧
       ((h.classOf 0).singleOver = true → h.raised t (.turnEnded 0 .singleOver (decide (tn.mode = .standing))))) ∧
  (∀ (tag : Nat) (w : SlotId) (tn : Turn) (s : State),
     let h : State := s.heard (.slot w)
     s.closed = false →
     s.tenthsDue = 0 →
     s.tenancy w ≠ .vacant →
     s.turn = some tn →
     tn.holder = w →
     tn.emission ≠ .cw →
     tn.pendingStart = true →
     w ≠ 0 ∨ s.functionActive .localPtt = false →
     s.running = false →
     s.settled →
     exec (.pttOff tag w.val) s = .next (State.answer 0x25 tag .ok .empty { h with
      seq := { h.seq with pttDemand := false }
      arb := { h.arb with arbiter := .turn { tn with
        pendingStart := false, idleStart := if tn.sub = .active ∧ s.memberTx = false then some h.clock else none } } })) ∧
  (∀ (tag : Nat) (w : SlotId) (tn : Turn) (x : Tx) (s : State),
     let h : State := s.heard (.slot w)
     s.closed = false →
     s.tenthsDue = 0 →
     s.tenancy w ≠ .vacant →
     s.turn = some tn →
     tn.holder = w →
     tn.emission ≠ .cw →
     w ≠ 0 ∨ s.functionActive .localPtt = false →
     s.arming = true →
     s.memberTx = true →
     s.seq.tx = some x →
     (s.seq.ampkey = true → x.path = .amplified) →
     s.seq.active.ampOff ≠ 0 →
     s.seq.active.relayOff ≠ 0 →
     s.settled →
     Answers (.pttOff tag w.val) s fun t =>
       h.armingEndedAs t x .pttOff ∧
       t.holder = h.holder ∧ (t.turn.map (·.txCount)) = h.turn.map (·.txCount) ∧
       (h.idu.claim ≠ .atTxEnd → t.turn = some { tn with pendingStart := false, idleStart := none } ∧ t.idu = h.idu) ∧
       (h.idu.claim = .atTxEnd → t.idu.claim = .holdingPause ∧ (t.turn.map (·.sub)) = some .paused) ∧
       t.replied 0x25 tag .ok .empty) ∧
  (∀ (i : InputId) (y : Input) (n : Clock) (tn : Turn) (x : Tx) (s : State),
     let h : State := s.bringTo (n + BitVec.ofNat 32 y.debounce)
     let g : State := { h with inr := { h.inr with inputs := h.inr.inputs.write i { y with debounced := y.raw, since := none } } }
     s.rst = false →
     s.inr.inputs.read i = y →
     y.since = some n →
     y.function = .localPtt →
     y.trigger = .level →
     y.raw = false →
     y.debounced = true →
     y.polarity = .activeHigh →
     (∀ j, j ≠ i → (s.inr.inputs.read j).function ≠ .localPtt) →
     s.turn = some tn →
     tn.holder = 0 →
     tn.emission ≠ .cw →
     s.seq.pttDemand = false →
     s.arming = true →
     s.memberTx = true →
     s.seq.tx = some x →
     (s.seq.ampkey = true → x.path = .amplified) →
     s.seq.active.ampOff ≠ 0 →
     s.seq.active.relayOff ≠ 0 →
     s.settled →
     (s.bringTo (n + BitVec.ofNat 32 y.debounce)).tenthsDue = 0 →
     Answers (.debounceExpiry i) s fun t =>
       g.armingEndedAs t x .localRelease ∧
       t.holder = h.holder ∧ (t.turn.map (·.txCount)) = h.turn.map (·.txCount) ∧
       (h.idu.claim ≠ .atTxEnd → t.turn = some { tn with pendingStart := false, idleStart := none } ∧ t.idu = h.idu) ∧
       (h.idu.claim = .atTxEnd → t.idu.claim = .holdingPause ∧ (t.turn.map (·.sub)) = some .paused)) ∧
  (∀ (tn : Turn) (x : Tx) (s : State),
     let h : State := s.bringTo s.idu.deadlineAt
     s.rst = false →
     s.turn = some tn →
     s.idu.deadlineRuns = true →
     s.arming = true →
     s.memberTx = true →
     s.seq.tx = some x →
     (s.seq.ampkey = true → x.path = .amplified) →
     s.seq.active.ampOff ≠ 0 →
     s.seq.active.relayOff ≠ 0 →
     s.settled →
     (s.bringTo s.idu.deadlineAt).tenthsDue = 0 →
     Answers (.deadlineExpiry) s fun t =>
       h.armingEndedAs t x .idDeadline ∧
       t.idu.deadlineRuns = false ∧
       t.holder = h.holder ∧ (t.turn.map (·.txCount)) = h.turn.map (·.txCount) ∧
       (h.idu.claim = .atTxEnd → t.idu.claim = .holdingPause ∧ (t.turn.map (·.sub)) = some .paused)) ∧
  (∀ (tag : Nat) (actor : Nat) (a : Actor) (w : SlotId) (tn : Turn) (x : Tx) (s : State),
     let h : State := s.heard a
     s.takes .controlSlot actor a →
     s.turn = some tn →
     tn.holder = w →
     s.arb.turnGap ≠ 0 →
     s.idu.due = false →
     s.idu.cycle = .idle →
     s.idu.startWaits = false →
     tn.sub ≠ .paused →
     s.arming = true →
     s.memberTx = true →
     s.seq.tx = some x →
     (s.seq.ampkey = true → x.path = .amplified) →
     s.seq.active.ampOff ≠ 0 →
     s.seq.active.relayOff ≠ 0 →
     s.settled →
     Answers (.endTurn tag actor w.val) s fun t =>
       h.armingEndedAs t x .turnEnd ∧
       h.turnEndedAs t tn .endedByControl (decide (tn.mode = .standing)) ∧
       t.replied 0x31 tag .ok .empty) ∧
  (∀ (tn : Turn) (x : Tx) (s : State),
     let h : State := s.bringTo (tn.grantClock + BitVec.ofNat 32 ((s.classOf tn.holder).turnLimit * 60000))
     s.rst = false →
     s.turn = some tn →
     s.arb.turnGap ≠ 0 →
     s.idu.due = false →
     s.idu.cycle = .idle →
     s.idu.startWaits = false →
     tn.sub ≠ .paused →
     s.arming = true →
     s.memberTx = true →
     s.seq.tx = some x →
     (s.seq.ampkey = true → x.path = .amplified) →
     s.seq.active.ampOff ≠ 0 →
     s.seq.active.relayOff ≠ 0 →
     s.settled →
     (s.bringTo (tn.grantClock + BitVec.ofNat 32 ((s.classOf tn.holder).turnLimit * 60000))).tenthsDue = 0 →
     Answers (.turnLimitExpiry) s fun t =>
       h.armingEndedAs t x .turnEnd ∧
       h.turnEndedAs t tn .turnLimit (decide (tn.mode = .standing))) ∧
  (∀ (tag : Nat) (w : SlotId) (s : State),
     let h : State := s.heard (.slot w)
     s.closed = false →
     s.tenthsDue = 0 →
     s.tenancy w ≠ .vacant →
     (∀ tn ∈ s.turn, tn.holder = w → tn.emission = .cw) →
     exec (.pttOff tag w.val) s = .next (State.answer 0x25 tag .wrongState .empty h))

/-- From the holder: P_req becomes the power clamped to 1 to 4000 W in the turn context. When the holder's
transmission is not in EXCITING nothing else changes and the reply carries the stored power. In EXCITING the applied-
power state becomes P_target (the least of power, class ceiling, station ceiling and, for DATA, duty ceiling; on
BAREFOOT at most the barefoot ceiling), P_eff = floor(P_target x f / 256) and the code of the path's context, and the
reply carries them. Another slot is WRONG_STATE. The earlier reply is taken as sent (the model's choice, log 4).
(R111, R112, R113, R115) -/
def Obligations.SetPowerRecomputes : Prop :=
  (∀ (tag : Nat) (w : SlotId) (tn : Turn) (n : Nat) (s : State),
     let h : State := s.heard (.slot w)
     let p : Nat := clamp 1 4000 n
     s.closed = false →
     s.tenthsDue = 0 →
     s.tenancy w ≠ .vacant →
     s.turn = some tn →
     tn.holder = w →
     s.memberExciting = false →
     exec (.setPower tag w.val n) s = .next (State.answer 0x27 tag (if p = n then .ok else .okClamped) (.power p none) { h with arb := { h.arb with arbiter := .turn { tn with power := p } } })) ∧
  (∀ (tag : Nat) (w : SlotId) (tn : Turn) (x : Tx) (n : Nat) (s : State),
     let h : State := s.heard (.slot w)
     let p : Nat := clamp 1 4000 n
     let u : Nat := min p (min ((s.classOf w).ceilings.read x.band) (s.drv.bands.read x.band).stationCeiling)
     let v : Nat := if x.emission = .data then min u (s.drv.bands.read x.band).dutyCeiling else u
     let q : Nat := if x.path = .barefoot then min v s.drv.barefootCeiling else v
     let f : Nat := q * s.msr.factor / 256
     let d : Nat := driveCode (s.context x.band x.path) f
     s.closed = false →
     s.tenthsDue = 0 →
     s.tenancy w ≠ .vacant →
     s.turn = some tn →
     tn.holder = w →
     s.memberExciting = true →
     s.seq.tx = some x →
     x.kind = .member w →
     exec (.setPower tag w.val n) s = .next (State.answer 0x27 tag (if p = n then .ok else .okClamped) (.power p (some (q, f, d)))
      { h with
        arb := { h.arb with arbiter := .turn { tn with power := p } }
        drv := { h.drv with applied := ⟨true, some x.path, q, s.msr.factor, f, d⟩ } })) ∧
  (∀ (tag : Nat) (w : SlotId) (n : Nat) (s : State),
     let h : State := s.heard (.slot w)
     s.closed = false →
     s.tenthsDue = 0 →
     s.tenancy w ≠ .vacant →
     s.holder ≠ some w →
     exec (.setPower tag w.val n) s = .next (State.answer 0x27 tag .wrongState .empty h))

/-- From the holder in an ACTIVE turn with SEQ QUIET and the band and emission permitted: a new band puts its relay
code on BAND, makes it the current band, f 256, the band settle running in RETUNE, and the turn TUNING with the
timeline flushed; the same band with another emission writes the emission alone, clears the PTT demand on entering CW
and flushes on leaving it; neither changes nothing. Not permitted is NOT_PERMITTED, not ACTIVE or not QUIET BUSY,
another slot WRONG_STATE, a bad code BAD_ARGUMENT; these change nothing. The earlier reply is taken as sent (the
model's choice, log 4). (R66, R67, R68, R92) -/
def Obligations.RetuneMovesTheTurn : Prop :=
  (∀ (tag : Nat) (w : SlotId) (b : BandId) (e : Emission) (ec : Nat) (tn : Turn) (s : State),
     let h : State := s.heard (.slot w)
     s.closed = false →
     s.tenthsDue = 0 →
     s.tenancy w ≠ .vacant →
     emissionOf ec = some e →
     s.turn = some tn →
     tn.holder = w →
     s.permit w b e = true →
     tn.sub = .active →
     s.seq.state = .quiet →
     b ≠ tn.band →
     s.seq.active.bandSettle ≠ 0 →
     s.settled →
     Answers (.retune tag w.val b.val ec) s fun t =>
       t.turn = some { tn with band := b, emission := e, sub := .tuning, idleStart := none } ∧
       t.seq.state = .retune ∧ t.seq.bandCode = (h.drv.bands.read b).relayCode ∧ t.seq.currentBand = some b ∧
        t.seq.step = some ⟨h.clock, h.seq.active.bandSettle * 10⟩ ∧
       t.msr.factor = 256 ∧ t.ktl.timeline = [] ∧ t.ktl.burst = none ∧ t.amg.idle = none ∧
       t.seq.trr = h.seq.trr ∧ t.seq.exc = h.seq.exc ∧ t.replied 0x28 tag .ok .empty ∧
       { t.arb with arbiter := h.arb.arbiter } = h.arb ∧ t.drv = h.drv ∧ t.prt = h.prt ∧ t.idu = h.idu ∧ t.acu = h.acu ∧
        t.fixed = h.fixed) ∧
  (∀ (tag : Nat) (w : SlotId) (e : Emission) (ec : Nat) (tn : Turn) (s : State),
     let h : State := s.heard (.slot w)
     s.closed = false →
     s.tenthsDue = 0 →
     s.tenancy w ≠ .vacant →
     emissionOf ec = some e →
     s.turn = some tn →
     tn.holder = w →
     s.permit w tn.band e = true →
     tn.sub = .active →
     s.seq.state = .quiet →
     s.settled →
     Answers (.retune tag w.val tn.band.val ec) s fun t =>
       t.turn = some { tn with emission := e } ∧
       (t.seq = (if e = .cw ∧ tn.emission ≠ .cw then { h.seq with pttDemand := false } else h.seq)) ∧
       (tn.emission = .cw → e ≠ .cw → t.ktl.timeline = [] ∧ t.ktl.burst = none) ∧
       t.msr = h.msr ∧ t.drv = h.drv ∧ t.amg = h.amg ∧ t.prt = h.prt ∧ t.idu = h.idu ∧ t.acu = h.acu ∧ t.fixed = h.fixed ∧
       { t.arb with arbiter := h.arb.arbiter } = h.arb ∧ t.replied 0x28 tag .ok .empty) ∧
  (∀ (tag : Nat) (w : SlotId) (b : BandId) (e : Emission) (ec : Nat) (tn : Turn) (s : State),
     let h : State := s.heard (.slot w)
     s.closed = false →
     s.tenthsDue = 0 →
     s.tenancy w ≠ .vacant →
     emissionOf ec = some e →
     s.turn = some tn →
     tn.holder = w →
     s.permit w b e = false ∨ tn.sub ≠ .active ∨ s.seq.state ≠ .quiet →
     exec (.retune tag w.val b.val ec) s = .next (State.answer 0x28 tag (if s.permit w b e = false then .notPermitted else .busy) .empty h)) ∧
  (∀ (tag : Nat) (w : SlotId) (b : Nat) (ec : Nat) (s : State),
     let h : State := s.heard (.slot w)
     s.closed = false →
     s.tenthsDue = 0 →
     s.tenancy w ≠ .vacant →
     s.holder ≠ some w ∨ 12 ≤ b ∨ 3 ≤ ec →
     exec (.retune tag w.val b ec) s = .next (State.answer 0x28 tag (if 12 ≤ b ∨ 3 ≤ ec then .badArgument else .wrongState) .empty h))

/-- In an ACTIVE CW turn of the holder with the station READY. With no burst open, SEQ QUIET and a playout delay d: a
DOWN at z and an UP at z + k (d + k below 32,768) are queued at now + d and now + d + k, the burst's offset is now - z
+ d, and the start is taken. With a burst open, the timeline empty and UP, a DOWN whose scheduled time v = z + O is
earlier than the last accepted time is discarded (OUT_OF_ORDER), one late by more than the allowance is discarded
(LATE with its lateness), both leaving the timeline as it was; on the air one late by 1 ms up to the allowance plays
at once; an UP is ignored. With the timeline empty and DOWN, an in-order UP that is late, by however much, plays at
arrival: the key goes up, and as a last UP it starts the burst gap, and on the air the hang. An in-order event of
either direction that is not late and finds 64 entries in the timeline is discarded (OVERRUN, with its scheduled
time), all else as it was. In a TUNING or PAUSED turn every event is discarded and each DOWN raises NOT_ACTIVE. On a
station that is not READY the frame is refused with HELD, no event taken. No events or more than 80 are BAD_ARGUMENT;
another slot or emission is WRONG_STATE. The earlier reply is taken as sent (the model's choice, log 4). (R74, R75,
R76, R77, R79, R80, R81, R82, R86) -/
def Obligations.KeyEventsAreScheduled : Prop :=
  (∀ (tag : Nat) (w : SlotId) (tn : Turn) (z : KeyTime) (k : KeyTime) (s : State),
     let h : State := s.heard (.slot w)
     let n : KeyTime := s.keyNow
     let d : KeyTime := BitVec.ofNat 16 s.ktl.params.playoutDelay
     s.closed = false →
     s.tenthsDue = 0 →
     s.tenancy w ≠ .vacant →
     s.turn = some tn →
     tn.holder = w →
     tn.emission = .cw →
     tn.sub = .active →
     s.prt.station = .ready →
     s.settled →
     s.ktl.burst = none →
     s.ktl.timeline = [] →
     s.ktl.state = .up →
     s.seq.state = .quiet →
     s.seq.active.relayOn ≠ 0 →
     0 < s.ktl.params.playoutDelay →
     s.ktl.params.playoutDelay + k.toNat < 32768 →
     Answers (.keyEvents tag w.val [(1, z), (0, z + k)]) s fun t =>
       t.ktl.timeline = [⟨.down, n + d, z⟩, ⟨.up, n + d + k, z + k⟩] ∧ t.ktl.burst = some ⟨n - z + d, n + d + k⟩ ∧
       t.ktl.state = .up ∧ t.seq.state = .armRelay ∧ t.seq.trr = true ∧
       t.drv = h.drv ∧ t.msr = h.msr ∧ t.prt = h.prt ∧ t.idu = h.idu ∧ t.acu = h.acu ∧ t.fixed = h.fixed ∧
       t.replied 0x26 tag .ok (.keyEvents 2 0 0 0 2 (some (n - z + d)))) ∧
  (∀ (tag : Nat) (w : SlotId) (tn : Turn) (r : Burst) (z : KeyTime) (s : State),
     let h : State := s.heard (.slot w)
     let v : KeyTime := z + r.offset
     s.closed = false →
     s.tenthsDue = 0 →
     s.tenancy w ≠ .vacant →
     s.turn = some tn →
     tn.holder = w →
     tn.emission = .cw →
     tn.sub = .active →
     s.prt.station = .ready →
     s.settled →
     s.ktl.burst = some r →
     s.ktl.timeline = [] →
     s.ktl.state = .up →
     (z + r.offset - r.last).toInt < 0 →
     exec (.keyEvents tag w.val [(1, z)]) s = .next (State.answer 0x26 tag .ok (.keyEvents 0 0 0 1 0 (some r.offset))
      (h.raise (.keyingLoss .outOfOrder (some w) (some .down) (some z) (some v.toNat))))) ∧
  (∀ (tag : Nat) (w : SlotId) (tn : Turn) (r : Burst) (z : KeyTime) (s : State),
     let h : State := s.heard (.slot w)
     let v : KeyTime := z + r.offset
     s.closed = false →
     s.tenthsDue = 0 →
     s.tenancy w ≠ .vacant →
     s.turn = some tn →
     tn.holder = w →
     tn.emission = .cw →
     tn.sub = .active →
     s.prt.station = .ready →
     s.settled →
     s.ktl.burst = some r →
     s.ktl.timeline = [] →
     s.ktl.state = .up →
     0 ≤ (z + r.offset - r.last).toInt →
     0 < (s.keyNow - (z + r.offset)).toInt →
     s.ktl.params.lateAllowance < (s.keyNow - (z + r.offset)).toInt.toNat →
     exec (.keyEvents tag w.val [(1, z)]) s = .next (State.answer 0x26 tag .ok (.keyEvents 0 0 0 1 0 (some r.offset))
      (h.raise (.keyingLoss .late (some w) (some .down) (some z) (some (s.keyNow - v).toInt.toNat))))) ∧
  (∀ (tag : Nat) (w : SlotId) (tn : Turn) (r : Burst) (z : KeyTime) (s : State),
     let h : State := s.heard (.slot w)
     let v : KeyTime := z + r.offset
     s.closed = false →
     s.tenthsDue = 0 →
     s.tenancy w ≠ .vacant →
     s.turn = some tn →
     tn.holder = w →
     tn.emission = .cw →
     tn.sub = .active →
     s.prt.station = .ready →
     s.settled →
     s.ktl.burst = some r →
     s.ktl.timeline = [] →
     s.ktl.state = .up →
     0 ≤ (z + r.offset - r.last).toInt →
     0 < (s.keyNow - (z + r.offset)).toInt →
     (s.keyNow - (z + r.offset)).toInt.toNat ≤ s.ktl.params.lateAllowance →
     s.running = true →
     Answers (.keyEvents tag w.val [(1, z)]) s fun t =>
       t.ktl.state = .down ∧ t.ktl.timeline = [] ∧ t.ktl.burst = some ⟨r.offset, v⟩ ∧ t.ktl.burstGap = none ∧ t.ktl.hang = none ∧
       t.ktl.stuck = some (h.ktl.stuck.getD ⟨h.clock, h.ktl.params.stuckLimit * 1000⟩) ∧ t.seq = h.seq ∧ t.fixed = h.fixed ∧
       t.arb = h.arb ∧ t.drv = h.drv ∧ t.amg = h.amg ∧ t.msr = h.msr ∧ t.prt = h.prt ∧ t.idu = h.idu ∧ t.acu = h.acu ∧
       t.replied 0x26 tag .ok (.keyEvents 0 1 0 0 0 (some r.offset))) ∧
  (∀ (tag : Nat) (w : SlotId) (tn : Turn) (r : Burst) (z : KeyTime) (s : State),
     let h : State := s.heard (.slot w)
     s.closed = false →
     s.tenthsDue = 0 →
     s.tenancy w ≠ .vacant →
     s.turn = some tn →
     tn.holder = w →
     tn.emission = .cw →
     tn.sub = .active →
     s.prt.station = .ready →
     s.settled →
     s.ktl.burst = some r →
     s.ktl.timeline = [] →
     s.ktl.state = .up →
     exec (.keyEvents tag w.val [(0, z)]) s = .next (State.answer 0x26 tag .ok (.keyEvents 0 0 1 0 0 (some r.offset)) h)) ∧
  (∀ (tag : Nat) (w : SlotId) (tn : Turn) (r : Burst) (z : KeyTime) (s : State),
     let h : State := s.heard (.slot w)
     let v : KeyTime := z + r.offset
     s.closed = false →
     s.tenthsDue = 0 →
     s.tenancy w ≠ .vacant →
     s.turn = some tn →
     tn.holder = w →
     tn.emission = .cw →
     tn.sub = .active →
     s.prt.station = .ready →
     s.settled →
     s.ktl.burst = some r →
     s.ktl.timeline = [] →
     s.ktl.state = .down →
     w ≠ 0 ∨ s.functionActive .localKey = false →
     0 ≤ (z + r.offset - r.last).toInt →
     0 < (s.keyNow - (z + r.offset)).toInt →
     Answers (.keyEvents tag w.val [(0, z)]) s fun t =>
       (t.ktl = { h.ktl with
        state := .up, burst := some ⟨r.offset, v⟩, stuck := none, burstGap := some ⟨h.clock, h.ktl.params.burstGap⟩
        hang := if h.memberExciting then some (h.ktl.hang.getD ⟨h.clock, h.ktl.params.cwHang⟩) else none, gated := t.ktl.gated }) ∧
       (t.turn.map (·.pendingStart)) = some false ∧ t.holder = h.holder ∧ t.seq = h.seq ∧ t.fixed = h.fixed ∧
       t.drv = h.drv ∧ t.amg = h.amg ∧ t.msr = h.msr ∧ t.prt = h.prt ∧ t.idu = h.idu ∧ t.acu = h.acu ∧
       t.replied 0x26 tag .ok (.keyEvents 0 1 0 0 0 (some r.offset))) ∧
  (∀ (tag : Nat) (w : SlotId) (tn : Turn) (r : Burst) (z : KeyTime) (dc : Nat) (k : Key) (s : State),
     let h : State := s.heard (.slot w)
     let v : KeyTime := z + r.offset
     s.closed = false →
     s.tenthsDue = 0 →
     s.tenancy w ≠ .vacant →
     s.turn = some tn →
     tn.holder = w →
     tn.emission = .cw →
     tn.sub = .active →
     s.prt.station = .ready →
     s.settled →
     s.ktl.burst = some r →
     keyOf dc = some k →
     64 ≤ s.ktl.timeline.length →
     (s.ktl.timeline.getLast?.map (·.dir)) ≠ some k →
     (∀ e ∈ s.ktl.timeline, 0 < (e.at_ - s.keyNow).toInt) →
     0 ≤ (z + r.offset - r.last).toInt →
     (s.keyNow - (z + r.offset)).toInt ≤ 0 →
     exec (.keyEvents tag w.val [(dc, z)]) s = .next (State.answer 0x26 tag .ok (.keyEvents 0 0 0 1 s.ktl.timeline.length (some r.offset))
      (h.raise (.keyingLoss .overrun (some w) (some k) (some z) (some v.toNat))))) ∧
  (∀ (tag : Nat) (w : SlotId) (tn : Turn) (z : KeyTime) (y : KeyTime) (s : State),
     let h : State := s.heard (.slot w)
     s.closed = false →
     s.tenthsDue = 0 →
     s.tenancy w ≠ .vacant →
     s.turn = some tn →
     tn.holder = w →
     tn.emission = .cw →
     tn.sub ≠ .active →
     s.prt.station = .ready →
     s.ktl.timeline = [] →
     s.settled →
     exec (.keyEvents tag w.val [(1, z), (0, y)]) s = .next (State.answer 0x26 tag .ok (.keyEvents 0 0 0 2 0 (s.ktl.burst.map (·.offset)))
      (h.raise (.keyingLoss .notActive (some w) (some .down) (some z) none)))) ∧
  (∀ (tag : Nat) (w : SlotId) (tn : Turn) (l : List (Nat × KeyTime)) (s : State),
     let h : State := s.heard (.slot w)
     s.closed = false →
     s.tenthsDue = 0 →
     s.tenancy w ≠ .vacant →
     s.turn = some tn →
     tn.holder = w →
     tn.emission = .cw →
     s.prt.station ≠ .ready →
     l ≠ [] ∧ l.length ≤ 80 →
     (∀ x ∈ l, x.1 < 2) →
     exec (.keyEvents tag w.val l) s = .next (State.answer 0x26 tag .held .empty h)) ∧
  (∀ (tag : Nat) (w : SlotId) (l : List (Nat × KeyTime)) (s : State),
     let h : State := s.heard (.slot w)
     s.closed = false →
     s.tenthsDue = 0 →
     s.tenancy w ≠ .vacant →
     (l = [] ∨ 80 < l.length ∨ ∃ x ∈ l, 2 ≤ x.1) →
     exec (.keyEvents tag w.val l) s = .next (State.answer 0x26 tag .badArgument .empty h)) ∧
  (∀ (tag : Nat) (w : SlotId) (z : KeyTime) (s : State),
     let h : State := s.heard (.slot w)
     s.closed = false →
     s.tenthsDue = 0 →
     s.tenancy w ≠ .vacant →
     (∀ tn ∈ s.turn, tn.holder = w → tn.emission ≠ .cw) →
     exec (.keyEvents tag w.val [(1, z)]) s = .next (State.answer 0x26 tag .wrongState .empty h))

/-- From STATION or the seizing slot itself, READY, for a slot with CONTROL that is not held back or exhausted. With
no member turn and no ID turn: the slot is granted the payload's band, emission and clamped power. With another
holder's turn that is not PAUSED: that turn ends with SEIZED (a STANDING one is WAITING again), and the seizer is
granted the holder's band, emission and power. Either way it is the holder in ONCE mode, the gap is stopped, the ranks
rotate and the reply says GRANTED. With another holder's PAUSED turn: that turn ends with SEIZED, no gap starts, the
identification goes on in ID_TURN, and the seizer waits with the holder's band, emission and power and a seize mark;
the reply says MARKED. In an ID turn it waits with the payload's and a seize mark and the reply says MARKED. When the
permit check is false for the seize band and emission the Seize is refused with NOT_PERMITTED, else when its allowance
is exhausted with NO_ALLOWANCE. The holder itself is answered HELD_ALREADY; a slot actor seizing for another is
BAD_ARGUMENT; outside READY HELD; a VACANT slot or one held back or without CONTROL WRONG_STATE. The earlier reply is
taken as sent (the model's choice, log 4). (R14, R22, R23, R36, R39, R40) -/
def Obligations.SeizePutsTheSlotOnTheAir : Prop :=
  (∀ (tag : Nat) (actor : Nat) (a : Actor) (w : SlotId) (b : BandId) (e : Emission) (ec : Nat) (n : Nat) (s : State),
     let h : State := s.heard a
     s.takes .controlSlot actor a →
     a = .slot w ∨ a = .station →
     emissionOf ec = some e →
     s.prt.station = .ready →
     s.tenancy w ≠ .vacant →
     (s.identity w).heldBack = false →
     (s.classOf w).control = true →
     s.exhausted w = false →
     s.permit w b e = true →
     s.arb.arbiter = .free ∨ s.arb.arbiter = .gap →
     Answers (.seize tag actor w.val b.val ec n) s fun t =>
       ((t.turn.map fun x => (x.holder, x.band, x.emission, x.power, x.mode)) = some (w, b, e, clamp 1 4000 n, .once)) ∧
       t.tenancy w = .holding ∧ t.arb.gap = none ∧
       (∀ u, t.arb.ranks.read u = if u = w then 0 else if h.arb.ranks.read u < h.arb.ranks.read w then h.arb.ranks.read u + 1 else h.arb.ranks.read u) ∧
       h.raised t (.turnGranted w b e (clamp 1 4000 n)) ∧
       (t.replied 0x30 tag (if clamp 1 4000 n = n then .ok else .okClamped) (.seize .granted) ∧ t.fixed = h.fixed)) ∧
  (∀ (tag : Nat) (actor : Nat) (a : Actor) (w : SlotId) (b : BandId) (e : Emission) (ec : Nat) (n : Nat) (tn : Turn) (s : State),
     let h : State := s.heard a
     s.takes .controlSlot actor a →
     a = .slot w ∨ a = .station →
     emissionOf ec = some e →
     s.prt.station = .ready →
     s.tenancy w ≠ .vacant →
     (s.identity w).heldBack = false →
     (s.classOf w).control = true →
     s.exhausted w = false →
     s.turn = some tn →
     tn.holder ≠ w →
     tn.sub ≠ .paused →
     s.permit w tn.band tn.emission = true →
     Answers (.seize tag actor w.val b.val ec n) s fun t =>
       ((t.turn.map fun x => (x.holder, x.band, x.emission, x.power, x.mode)) = some (w, tn.band, tn.emission, tn.power, .once)) ∧
       t.tenancy w = .holding ∧ t.arb.gap = none ∧
       (t.tenancy tn.holder = (if tn.mode = .standing then .waiting ⟨tn.band, tn.emission, tn.power, .standing, .frame, false⟩ else .opened)) ∧
       (∀ u, t.arb.ranks.read u = if u = w then 0 else if h.arb.ranks.read u < h.arb.ranks.read w then h.arb.ranks.read u + 1 else h.arb.ranks.read u) ∧
       h.raised t (.turnEnded tn.holder .seized (decide (tn.mode = .standing))) ∧ h.raised t (.turnGranted w tn.band tn.emission tn.power) ∧
       t.replied 0x30 tag .ok (.seize .granted) ∧ t.fixed = h.fixed) ∧
  (∀ (tag : Nat) (actor : Nat) (a : Actor) (w : SlotId) (b : BandId) (e : Emission) (ec : Nat) (n : Nat) (s : State),
     let h : State := s.heard a
     s.takes .controlSlot actor a →
     a = .slot w ∨ a = .station →
     emissionOf ec = some e →
     s.prt.station = .ready →
     s.tenancy w ≠ .vacant →
     (s.identity w).heldBack = false →
     (s.classOf w).control = true →
     s.exhausted w = false →
     s.permit w b e = true →
     s.arb.arbiter = .idTurn →
     s.settled →
     Answers (.seize tag actor w.val b.val ec n) s fun t =>
       t.tenancy w = .waiting ⟨b, e, clamp 1 4000 n, .once, .frame, true⟩ ∧ t.arb.arbiter = .idTurn ∧ t.arb.ranks = h.arb.ranks ∧
       t.seq = h.seq ∧ t.ktl = h.ktl ∧ t.drv = h.drv ∧ t.amg = h.amg ∧ t.msr = h.msr ∧ t.prt = h.prt ∧ t.idu = h.idu ∧ t.acu = h.acu ∧
       (t.replied 0x30 tag (if clamp 1 4000 n = n then .ok else .okClamped) (.seize .marked) ∧ t.fixed = h.fixed)) ∧
  (∀ (tag : Nat) (actor : Nat) (a : Actor) (w : SlotId) (b : BandId) (e : Emission) (ec : Nat) (n : Nat) (tn : Turn) (s : State),
     let h : State := s.heard a
     s.takes .controlSlot actor a →
     a = .slot w ∨ a = .station →
     emissionOf ec = some e →
     s.prt.station = .ready →
     s.tenancy w ≠ .vacant →
     (s.identity w).heldBack = false →
     (s.classOf w).control = true →
     s.exhausted w = false →
     s.turn = some tn →
     tn.holder ≠ w →
     tn.sub = .paused →
     s.running = false →
     s.permit w tn.band tn.emission = true →
     s.settled →
     Answers (.seize tag actor w.val b.val ec n) s fun t =>
       t.arb.arbiter = .idTurn ∧ t.arb.gap = none ∧ t.arb.ranks = h.arb.ranks ∧
       t.tenancy w = .waiting ⟨tn.band, tn.emission, tn.power, .once, .frame, true⟩ ∧
       (t.arb.presence.read w = (if h.tenancy w = .opened ∧ w ≠ 0 then some ⟨h.clock, h.arb.presenceTimeout * 1000⟩ else h.arb.presence.read w)) ∧
       (t.tenancy tn.holder = (if tn.mode = .standing then .waiting ⟨tn.band, tn.emission, tn.power, .standing, .frame, false⟩ else .opened)) ∧
       h.raised t (.turnEnded tn.holder .seized (decide (tn.mode = .standing))) ∧
       t.prt = h.prt ∧ t.replied 0x30 tag .ok (.seize .marked) ∧ t.fixed = h.fixed) ∧
  (∀ (tag : Nat) (actor : Nat) (a : Actor) (w : SlotId) (b : BandId) (e : Emission) (ec : Nat) (n : Nat) (s : State),
     let h : State := s.heard a
     let q : BandId × Emission := (s.turn.map fun v => (v.band, v.emission)).getD (b, e)
     s.takes .controlSlot actor a →
     a = .slot w ∨ a = .station →
     emissionOf ec = some e →
     s.prt.station = .ready →
     s.holder ≠ some w →
     s.tenancy w ≠ .vacant →
     (s.identity w).heldBack = false →
     (s.classOf w).control = true →
     s.permit w q.1 q.2 = false ∨ s.exhausted w = true →
     exec (.seize tag actor w.val b.val ec n) s = .next (State.answer 0x30 tag (if s.permit w q.1 q.2 = false then .notPermitted else .noAllowance) .empty h)) ∧
  (∀ (tag : Nat) (actor : Nat) (a : Actor) (w : SlotId) (b : BandId) (ec : Nat) (n : Nat) (s : State),
     let h : State := s.heard a
     s.takes .controlSlot actor a →
     a = .slot w ∨ a = .station →
     ec < 3 →
     s.prt.station ≠ .ready ∨ s.holder = some w →
     exec (.seize tag actor w.val b.val ec n) s = .next (if s.prt.station = .ready then State.answer 0x30 tag .ok (.seize .heldAlready) h else State.answer 0x30 tag .held .empty h)) ∧
  (∀ (tag : Nat) (actor : Nat) (a : Actor) (w : SlotId) (v : SlotId) (b : BandId) (ec : Nat) (n : Nat) (s : State),
     let h : State := s.heard a
     s.takes .controlSlot actor a →
     a = .slot v →
     v ≠ w →
     exec (.seize tag actor w.val b.val ec n) s = .next (State.answer 0x30 tag .badArgument .empty h)) ∧
  (∀ (tag : Nat) (actor : Nat) (a : Actor) (w : SlotId) (b : BandId) (ec : Nat) (n : Nat) (s : State),
     let h : State := s.heard a
     s.takes .controlSlot actor a →
     a = .slot w ∨ a = .station →
     ec < 3 →
     s.prt.station = .ready →
     s.holder ≠ some w →
     s.tenancy w = .vacant ∨ (s.identity w).heldBack = true ∨ (s.classOf w).control = false →
     exec (.seize tag actor w.val b.val ec n) s = .next (State.answer 0x30 tag .wrongState .empty h))

/-- AmpOn in OFF gives WARMING with AMPPWR asserted and the warm-up timer running, and goes on to ON at once when
AMP_READY is routed and active; in WARMING or ON it is OK and changes nothing; in FAILED WRONG_STATE. AmpReset in
FAILED gives OFF with the AMP_NO_READY and AMP_DROP conditions gone and the records kept; elsewhere it is WRONG_STATE.
The warm-up timer's expiry gives ON with no input routed to AMP_READY and, with one, FAILED with a new AMP_NO_READY
record (with the current band and no slot: DEDUCED, log 29); the idle timer's expiry gives OFF. AMP_READY becoming
active in WARMING gives ON. Becoming inactive in ON it gives FAILED with an AMP_DROP record: with no AMPLIFIED
transmission nothing else changes; a holder's AMPLIFIED transmission on the air is cut to DISARM_AMP with AMP_DROP and
the turn goes on. A SetInput that first routes an inactive input to AMP_READY in ON is such a drop. Every change
raises AMP_CHANGED. The earlier reply is taken as sent (the model's choice, log 4). An occurrence commanded before its
instant brings the clock forward to it (the model's choice, log 1). (R101, R102, R104, R105, R106, R108, R109, R174,
R176, R178) -/
def Obligations.AmplifierWarmsAndRests : Prop :=
  (∀ (tag : Nat) (actor : Nat) (a : Actor) (s : State),
     let h : State := s.heard a
     s.takes .controlSlot actor a →
     s.amg.state = .off →
     s.ampReady = false →
     exec (.ampOn tag actor) s = .next (State.answer 0x34 tag .ok .empty (State.raise (.ampChanged .off .warming .ampOn)
      { h with amg := { h.amg with
        state := .warming, amppwr := true, warm := some ⟨h.clock, h.amg.warmUpTime * 1000⟩, idle := none } }))) ∧
  (∀ (tag : Nat) (actor : Nat) (a : Actor) (s : State),
     let h : State := s.heard a
     s.takes .controlSlot actor a →
     s.amg.state = .off →
     s.ampReady = true →
     exec (.ampOn tag actor) s = .next (State.answer 0x34 tag .ok .empty (State.raise (.ampChanged .warming .on .ready) (State.raise (.ampChanged .off .warming .ampOn)
      { h with amg := { h.amg with
        state := .on, amppwr := true, warm := none
        idle := if h.seq.state = .quiet then some ⟨h.clock, h.amg.ampIdleTime * 60000⟩ else none } })))) ∧
  (∀ (tag : Nat) (actor : Nat) (a : Actor) (s : State),
     let h : State := s.heard a
     s.takes .controlSlot actor a →
     s.amg.state = .warming ∨ s.amg.state = .on →
     exec (.ampOn tag actor) s = .next (State.answer 0x34 tag .ok .empty h)) ∧
  (∀ (tag : Nat) (actor : Nat) (a : Actor) (s : State),
     let h : State := s.heard a
     s.takes .controlSlot actor a →
     s.amg.state = .failed →
     exec (.ampOn tag actor) s = .next (State.answer 0x34 tag .wrongState .empty h) ∧
    exec (.ampReset tag actor) s = .next (State.answer 0x36 tag .ok .empty (State.raise (.ampChanged .failed .off .reset)
      { h with
        amg := { h.amg with state := .off, amppwr := false, warm := none, idle := none }
        prt := { h.prt with faults := h.prt.faults.map fun r =>
          if r.kind = .ampNoReady ∨ r.kind = .ampDrop then { r with present := false } else r } }))) ∧
  (∀ (tag : Nat) (actor : Nat) (a : Actor) (s : State),
     let h : State := s.heard a
     s.takes .controlSlot actor a →
     s.amg.state ≠ .failed →
     exec (.ampReset tag actor) s = .next (State.answer 0x36 tag .wrongState .empty h)) ∧
  (∀ (tm : Timer) (s : State),
     let h : State := s.bringTo tm.due
     s.rst = false →
     s.amg.warm = some tm →
     s.isRouted .ampReady = false →
     s.settled →
     (s.bringTo tm.due).tenthsDue = 0 →
     exec (.warmUpExpiry) s = .next (State.raise (.ampChanged h.amg.state .on .warmTime)
      { h with amg := { h.amg with
        state := .on, amppwr := true, warm := none
        idle := if h.seq.state = .quiet then some ⟨h.clock, h.amg.ampIdleTime * 60000⟩ else none } })) ∧
  (∀ (tm : Timer) (s : State),
     let h : State := s.bringTo tm.due
     s.rst = false →
     s.amg.warm = some tm →
     s.isRouted .ampReady = true →
     s.settled →
     s.stationFollows →
     (∀ r ∈ s.prt.faults, r.kind ≠ .ampNoReady) →
     (s.bringTo tm.due).tenthsDue = 0 →
     Answers (.warmUpExpiry) s fun t =>
       t.amg = { h.amg with state := .failed, amppwr := false, warm := none, idle := none } ∧
       t.prt = { h.prt with faults := h.prt.faults ++ [⟨.ampNoReady, h.seconds, h.seconds, 1, none, h.seq.currentBand, none, true⟩] } ∧
       h.raised t (.ampChanged h.amg.state .failed .noReady) ∧ h.raised t (.faultRaised .ampNoReady 1 none h.seq.currentBand none true) ∧
       t.seq = h.seq ∧ t.arb = h.arb ∧ t.ktl = h.ktl ∧ t.drv = h.drv ∧ t.msr = h.msr ∧ t.idu = h.idu ∧ t.acu = h.acu ∧ t.fixed = h.fixed) ∧
  (∀ (tm : Timer) (s : State),
     let h : State := s.bringTo tm.due
     s.rst = false →
     s.amg.idle = some tm →
     (s.bringTo tm.due).tenthsDue = 0 →
     exec (.ampIdleExpiry) s = .next (State.raise (.ampChanged h.amg.state .off .idle)
      { h with amg := { h.amg with state := .off, amppwr := false, warm := none, idle := none } })) ∧
  (∀ (i : InputId) (y : Input) (n : Clock) (s : State),
     let h : State := s.bringTo (n + BitVec.ofNat 32 y.debounce)
     let v : Input := { y with debounced := y.raw, since := none }
     s.rst = false →
     s.inr.inputs.read i = y →
     y.since = some n →
     y.function = .ampReady →
     y.trigger = .level →
     s.functionActive .ampReady = false →
     ({ y with debounced := y.raw }).active = true →
     s.amg.state = .warming →
     s.settled →
     (s.bringTo (n + BitVec.ofNat 32 y.debounce)).tenthsDue = 0 →
     exec (.debounceExpiry i) s = .next (State.raise (.ampChanged .warming .on .ready)
      { h with
        inr := { h.inr with inputs := h.inr.inputs.write i v }
        amg := { h.amg with
          state := .on, amppwr := true, warm := none
          idle := if h.seq.state = .quiet then some ⟨h.clock, h.amg.ampIdleTime * 60000⟩ else none } })) ∧
  (∀ (i : InputId) (y : Input) (n : Clock) (s : State),
     let h : State := s.bringTo (n + BitVec.ofNat 32 y.debounce)
     let v : Input := { y with debounced := y.raw, since := none }
     s.rst = false →
     s.inr.inputs.read i = y →
     y.since = some n →
     y.function = .ampReady →
     y.trigger = .level →
     s.functionActive .ampReady = true →
     ({ y with debounced := y.raw }).active = false →
     (∀ j, j ≠ i → (s.inr.inputs.read j).function = .ampReady → (s.inr.inputs.read j).active = false) →
     s.amg.state = .on →
     s.stationFollows →
     (∀ x ∈ s.seq.tx, x.path = .barefoot) →
     (∀ r ∈ s.prt.faults, r.kind ≠ .ampDrop) →
     s.settled →
     (s.bringTo (n + BitVec.ofNat 32 y.debounce)).tenthsDue = 0 →
     Answers (.debounceExpiry i) s fun t =>
       t.amg = { h.amg with state := .failed, amppwr := false, warm := none, idle := none } ∧
       t.prt = { h.prt with faults := h.prt.faults ++ [⟨.ampDrop, h.seconds, h.seconds, 1, h.holder, h.seq.currentBand, none, true⟩] } ∧
       h.raised t (.ampChanged .on .failed .drop) ∧ h.raised t (.faultRaised .ampDrop 1 h.holder h.seq.currentBand none true) ∧
       t.inr = { h.inr with inputs := h.inr.inputs.write i v } ∧ { t.fixed with inr := h.inr } = h.fixed ∧
       t.seq = h.seq ∧ t.arb = h.arb ∧ t.ktl = h.ktl ∧ t.drv = h.drv ∧ t.msr = h.msr ∧ t.idu = h.idu ∧ t.acu = h.acu) ∧
  (∀ (i : InputId) (y : Input) (n : Clock) (x : Tx) (s : State),
     let h : State := s.bringTo (n + BitVec.ofNat 32 y.debounce)
     let v : Input := { y with debounced := y.raw, since := none }
     s.rst = false →
     s.inr.inputs.read i = y →
     y.since = some n →
     y.function = .ampReady →
     y.trigger = .level →
     s.functionActive .ampReady = true →
     ({ y with debounced := y.raw }).active = false →
     (∀ j, j ≠ i → (s.inr.inputs.read j).function = .ampReady → (s.inr.inputs.read j).active = false) →
     s.amg.state = .on →
     s.stationFollows →
     s.seq.tx = some x →
     s.memberExciting = true →
     x.path = .amplified →
     s.seq.ampkey = true →
     s.seq.active.ampOff ≠ 0 →
     s.settled →
     (s.bringTo (n + BitVec.ofNat 32 y.debounce)).tenthsDue = 0 →
     Answers (.debounceExpiry i) s fun t =>
       t.amg.state = .failed ∧ t.amg.amppwr = false ∧ t.holder = h.holder ∧ t.prt.station = h.prt.station ∧
       t.seq.state = .disarmAmp ∧ t.seq.step = some ⟨h.clock, h.seq.active.ampOff⟩ ∧ t.seq.exc = false ∧ t.seq.keyGate = false ∧ t.seq.ampkey = false ∧
        t.drv.applied = { h.drv.applied with active := false } ∧
       ((t.seq.tx.map fun z => (z.kind, z.path, z.endCause)) = some (x.kind, .amplified, some .ampDrop)) ∧
       (t.seq.pttDemand = false ∧ (∀ v ∈ t.turn, v.pendingStart = false) ∧ h.raised t (.txEnded x.kind .ampDrop x.airTime h.msr.peak)) ∧
       ((∃ r ∈ t.prt.faults, r.kind = .ampDrop ∧ r.last = h.seconds ∧ r.present = true) ∧ h.raised t (.ampChanged .on .failed .drop)) ∧
       t.inr = { h.inr with inputs := h.inr.inputs.write i v } ∧ { t.fixed with inr := h.inr } = h.fixed) ∧
  (∀ (tag : Nat) (p : InputArgs) (i : InputId) (q : InputPolarity) (s : State),
     let h : State := s.readyToTake
     s.closed = false →
     s.tenthsDue = 0 →
     p.input = i.val →
     p.function = 4 →
     p.trigger = 1 →
     inputPolarityOf p.polarity = some q →
     (s.inr.inputs.read i).function = .none →
     (s.inr.inputs.read i).since = none →
     ({ s.inr.inputs.read i with polarity := q }).active = false →
     s.isRouted .ampReady = false →
     s.amg.state = .on →
     (∀ x ∈ s.seq.tx, x.path = .barefoot) →
     (∀ r ∈ s.prt.faults, r.kind ≠ .ampDrop) →
     s.stationFollows →
     s.settled →
     Answers (.setInput tag 0xFF p) s fun t =>
       t.amg = { h.amg with state := .failed, amppwr := false, warm := none, idle := none } ∧
       t.prt = { h.prt with faults := h.prt.faults ++ [⟨.ampDrop, h.seconds, h.seconds, 1, h.holder, h.seq.currentBand, none, true⟩] } ∧
       h.raised t (.ampChanged .on .failed .drop) ∧
       (t.inr.inputs.read i).function = .ampReady ∧ { t.fixed with inr := h.inr } = h.fixed ∧
       t.seq = h.seq ∧ t.arb = h.arb ∧ t.ktl = h.ktl ∧ t.drv = h.drv ∧ t.msr = h.msr ∧ t.idu = h.idu ∧ t.acu = h.acu)

/-- R107 whole. AmpOff has an empty payload and the actors of AmpOn. In WARMING or ON with no AMPLIFIED transmission
in SEQ (none, or a BAREFOOT one) the amplifier goes to OFF, AMPPWR is deasserted, the running timer stops and the
reply is OK (AMP_CHANGED is raised, and nothing else changes); with one it is BUSY and nothing changes; in OFF it is
OK and nothing changes; in FAILED WRONG_STATE. A transmission is in SEQ from its start until QUIET, DRAIN and both
disarm steps included. The earlier reply is taken as sent (the model's choice, log 4). (R107, R109) -/
def Obligations.AmpOffPutsIntoStandby : Prop :=
  (∀ (tag : Nat) (actor : Nat) (a : Actor) (s : State),
     let h : State := s.heard a
     s.takes .controlSlot actor a →
     s.amg.state = .warming ∨ s.amg.state = .on →
     (∀ x ∈ s.seq.tx, x.path = .barefoot) →
     exec (.ampOff tag actor) s = .next (State.answer 0x35 tag .ok .empty (State.raise (.ampChanged s.amg.state .off .ampOff)
      { h with amg := { h.amg with state := .off, amppwr := false, warm := none, idle := none } }))) ∧
  (∀ (tag : Nat) (actor : Nat) (a : Actor) (x : Tx) (s : State),
     let h : State := s.heard a
     s.takes .controlSlot actor a →
     s.amg.state = .warming ∨ s.amg.state = .on →
     s.seq.tx = some x →
     x.path = .amplified →
     exec (.ampOff tag actor) s = .next (State.answer 0x35 tag .busy .empty h)) ∧
  (∀ (tag : Nat) (actor : Nat) (a : Actor) (s : State),
     let h : State := s.heard a
     s.takes .controlSlot actor a →
     s.amg.state = .off →
     exec (.ampOff tag actor) s = .next (State.answer 0x35 tag .ok .empty h)) ∧
  (∀ (tag : Nat) (actor : Nat) (a : Actor) (s : State),
     let h : State := s.heard a
     s.takes .controlSlot actor a →
     s.amg.state = .failed →
     exec (.ampOff tag actor) s = .next (State.answer 0x35 tag .wrongState .empty h)) ∧
  (∀ (f : RawFrame),
     f.kind = 0x35 →
     parseFrame f = if f.payload = [] then .command (.ampOff f.tag.toNat f.actor.toNat) else .badLength) ∧
  (∀ (tag : Nat) (actor : Nat),
     (asked (.ampOff tag actor)).map (·.who) = some .controlSlot ∧ (asked (.ampOn tag actor)).map (·.who) = some .controlSlot)

/-- The end of the relay-on wait in ARM_RELAY: for an AMPLIFIED transmission with the amplifier ON, ARM_AMP with
AMPKEY asserted and the amp-on wait running; with the amplifier in another state, the arming is abandoned to
DISARM_RELAY with cause AMP_DROP and TRR deasserted; on the BAREFOOT path EXCITING at once. The end of the amp-on wait
in ARM_AMP: EXCITING. For a holder's transmission onAirAs says what holds in EXCITING, for an identification
identOnAirAs: SENDING, the first element keyed, TX_STARTED with a count of 0, and no limit timer. The over-current
count restarts at 0 (DEDUCED, log 34). An occurrence commanded before its instant brings the clock forward to it (the
model's choice, log 1). (R58, R59, R60, R64, R111, R112, R113, R120, R129, R153, R158, R159) -/
def Obligations.TheSequencerArms : Prop :=
  (∀ (tm : Timer) (x : Tx) (s : State),
     let h : State := s.bringTo tm.due
     s.rst = false →
     s.seq.state = .armRelay →
     s.seq.step = some tm →
     s.seq.tx = some x →
     x.path = .amplified →
     s.amg.state = .on →
     s.seq.active.ampOn ≠ 0 →
     s.settled →
     exec (.relayOnExpiry) s = .next ({ h with seq := { h.seq with state := .armAmp, ampkey := true, step := some ⟨h.clock, h.seq.active.ampOn⟩ } })) ∧
  (∀ (tm : Timer) (x : Tx) (s : State),
     let h : State := s.bringTo tm.due
     s.rst = false →
     s.seq.state = .armRelay →
     s.seq.step = some tm →
     s.seq.tx = some x →
     x.path = .amplified →
     s.amg.state ≠ .on →
     s.seq.ampkey = false →
     s.seq.active.relayOff ≠ 0 →
     s.settled →
     Answers (.relayOnExpiry) s fun t =>
       t.seq.state = .disarmRelay ∧ t.seq.step = some ⟨h.clock, h.seq.active.relayOff⟩ ∧ t.seq.trr = false ∧ t.seq.ampkey = false ∧ t.seq.idm = false ∧
       ((t.seq.tx.map fun y => (y.kind, y.path, y.endCause)) = some (x.kind, .amplified, some .ampDrop)) ∧
       t.seq.pttDemand = false ∧ t.holder = h.holder ∧ t.drv = h.drv ∧ t.amg = h.amg ∧ t.msr = h.msr ∧ t.fixed = h.fixed) ∧
  (∀ (tm : Timer) (x : Tx) (w : SlotId) (tn : Turn) (s : State),
     let h : State := s.bringTo tm.due
     s.rst = false →
     s.seq.state = .armRelay →
     s.seq.step = some tm →
     s.seq.tx = some x →
     x.path = .barefoot →
     s.turn = some tn →
     tn.holder = w →
     x.kind = .member w →
     x.current = true →
     s.settled →
     Answers (.relayOnExpiry) s fun t =>
       h.onAirAs t w tn x) ∧
  (∀ (tm : Timer) (x : Tx) (w : SlotId) (tn : Turn) (s : State),
     let h : State := s.bringTo tm.due
     s.rst = false →
     s.seq.state = .armAmp →
     s.seq.step = some tm →
     s.seq.tx = some x →
     s.turn = some tn →
     tn.holder = w →
     x.kind = .member w →
     x.current = true →
     s.settled →
     Answers (.ampOnExpiry) s fun t =>
       h.onAirAs t w tn x) ∧
  (∀ (tm : Timer) (x : Tx) (y : Cycle) (s : State),
     let h : State := s.bringTo tm.due
     s.rst = false →
     s.seq.state = .armRelay →
     s.seq.step = some tm →
     s.seq.tx = some x →
     x.path = .barefoot →
     x.kind = .ident →
     s.idu.cycle = .starting →
     s.idu.context = some y →
     s.settled →
     Answers (.relayOnExpiry) s fun t =>
       h.identOnAirAs t x y) ∧
  (∀ (tm : Timer) (x : Tx) (y : Cycle) (s : State),
     let h : State := s.bringTo tm.due
     s.rst = false →
     s.seq.state = .armAmp →
     s.seq.step = some tm →
     s.seq.tx = some x →
     x.kind = .ident →
     s.idu.cycle = .starting →
     s.idu.context = some y →
     s.settled →
     Answers (.ampOnExpiry) s fun t =>
       h.identOnAirAs t x y)

/-- The end of the tail in DRAIN: AMPKEY deasserted and, on the AMPLIFIED path, DISARM_AMP with the amp-off wait; on
the BAREFOOT path DISARM_RELAY at once. Entering DISARM_RELAY (also at the amp-off wait's end) deasserts TRR and IDM
and starts the relay-off wait. At its end SEQ enters QUIET: the context is gone, the idle hang of an ACTIVE turn
restarts (whoever's transmission ended: DEDUCED, log 42), a staged profile becomes active, the idle timer of an ON
amplifier starts; then a queued retune is entered, or a pending start of an ACTIVE turn is taken with the station
READY. The end of the band settle enters QUIET, raises BAND_SET with the retune's band and moves the turn that asked
for it to ACTIVE. At QUIET a waiting ID start is taken with the captured callsign, speed and power. A cycle in CLOSING
ends there with a COMPLETE record: a PAUSED turn becomes ACTIVE and its pending start, if set, is taken; an ID turn
ends in GAP while the gap runs and no eligible slot carries a seize mark, otherwise the gap stops and the winner is
granted, if there is one and the station is READY, and with no gap running the arbiter is FREE if there is none. An
occurrence commanded before its instant brings the clock forward to it (the model's choice, log 1). (R29, R32, R52,
R57, R63, R66, R67, R71, R106, R158, R160, R170) -/
def Obligations.TheSequencerDisarms : Prop :=
  (∀ (tm : Timer) (x : Tx) (s : State),
     let h : State := s.bringTo tm.due
     s.rst = false →
     s.seq.state = .drain →
     s.seq.step = some tm →
     s.seq.tx = some x →
     x.path = .amplified →
     s.seq.active.ampOff ≠ 0 →
     s.settled →
     exec (.tailExpiry) s = .next ({ h with seq := { h.seq with state := .disarmAmp, ampkey := false, step := some ⟨h.clock, h.seq.active.ampOff⟩ } })) ∧
  (∀ (tm : Timer) (x : Tx) (s : State),
     let h : State := s.bringTo tm.due
     s.rst = false →
     s.seq.state = .drain →
     s.seq.step = some tm →
     s.seq.tx = some x →
     x.path = .barefoot →
     s.seq.active.relayOff ≠ 0 →
     s.settled →
     exec (.tailExpiry) s = .next ({ h with seq := { h.seq with
      state := .disarmRelay, ampkey := false, trr := false, idm := false, step := some ⟨h.clock, h.seq.active.relayOff⟩ } })) ∧
  (∀ (tm : Timer) (s : State),
     let h : State := s.bringTo tm.due
     s.rst = false →
     s.seq.state = .disarmAmp →
     s.seq.step = some tm →
     s.seq.active.relayOff ≠ 0 →
     s.settled →
     exec (.ampOffExpiry) s = .next ({ h with seq := { h.seq with state := .disarmRelay, trr := false, idm := false, step := some ⟨h.clock, h.seq.active.relayOff⟩ } })) ∧
  (∀ (tm : Timer) (s : State),
     let h : State := s.bringTo tm.due
     s.rst = false →
     s.seq.state = .disarmRelay →
     s.seq.step = some tm →
     s.seq.queuedRetune = none →
     s.idu.cycle ≠ .closing →
     s.idu.startWaits = false →
     (∀ tn ∈ s.turn, tn.pendingStart = false) →
     s.settled →
     Answers (.relayOffExpiry) s fun t =>
       (t.seq = { h.seq with
        state := .quiet, step := none, tx := none, active := if h.seq.changePending then h.seq.staged else h.seq.active, changePending := false }) ∧
       (t.amg = { h.amg with idle := if h.amg.state = .on then some ⟨h.clock, h.amg.ampIdleTime * 60000⟩ else h.amg.idle }) ∧
       (t.turn = h.turn.map fun y => { y with idleStart := if y.sub = .active then some h.clock else none }) ∧
       { t.arb with arbiter := h.arb.arbiter } = h.arb ∧ t.drv = h.drv ∧ t.ktl = h.ktl ∧ t.msr = h.msr ∧ t.prt = h.prt ∧
        t.idu = h.idu ∧ t.acu = h.acu ∧ t.fixed = h.fixed) ∧
  (∀ (tm : Timer) (tn : Turn) (s : State),
     let h : State := s.bringTo tm.due
     s.rst = false →
     s.seq.state = .disarmRelay →
     s.seq.step = some tm →
     s.seq.queuedRetune = none →
     s.idu.cycle ≠ .closing →
     s.idu.startWaits = false →
     s.turn = some tn →
     tn.pendingStart = true →
     tn.sub = .active →
     s.prt.station = .ready →
     s.seq.active.relayOn ≠ 0 →
     s.seq.changePending = false →
     s.settled →
     Answers (.relayOffExpiry) s fun t =>
       t.seq.state = .armRelay ∧ t.seq.trr = true ∧ t.seq.step = some ⟨h.clock, h.seq.active.relayOn⟩ ∧
       ((t.seq.tx.map fun y => (y.kind, y.band, y.emission, y.current)) = some (.member tn.holder, tn.band, tn.emission, true)) ∧
       t.turn = some { tn with pendingStart := false, idleStart := none, txCount := countUp max16 tn.txCount } ∧ t.fixed = h.fixed ∧
       t.drv = h.drv ∧ t.ktl = h.ktl ∧ t.prt = h.prt ∧ t.idu = h.idu ∧ t.acu = h.acu ∧ t.msr = h.msr) ∧
  (∀ (tm : Timer) (b : BandId) (s : State),
     let h : State := s.bringTo tm.due
     s.rst = false →
     s.seq.state = .disarmRelay →
     s.seq.step = some tm →
     s.seq.queuedRetune = some b →
     s.idu.cycle ≠ .closing →
     s.seq.active.bandSettle ≠ 0 →
     s.seq.changePending = false →
     s.settled →
     Answers (.relayOffExpiry) s fun t =>
       t.seq.state = .retune ∧ t.seq.tx = none ∧ t.seq.currentBand = some b ∧ t.seq.bandCode = (h.drv.bands.read b).relayCode ∧ t.seq.queuedRetune = none ∧
        t.seq.retuneBand = some b ∧ t.seq.retuneCurrent = true ∧
       t.seq.step = some ⟨h.clock, h.seq.active.bandSettle * 10⟩ ∧ t.msr.factor = 256 ∧ t.amg.idle = none ∧ t.fixed = h.fixed ∧
       t.drv = h.drv ∧ t.ktl = h.ktl ∧ t.prt = h.prt ∧ t.acu = h.acu ∧
       (h.seq.currentBand ≠ none → t.idu = h.idu)) ∧
  (∀ (tm : Timer) (tn : Turn) (b : BandId) (s : State),
     let h : State := s.bringTo tm.due
     s.rst = false →
     s.seq.state = .retune →
     s.seq.step = some tm →
     s.seq.queuedRetune = none →
     s.idu.cycle = .idle →
     s.idu.startWaits = false →
     s.idu.due = false →
     s.turn = some tn →
     tn.pendingStart = false →
     s.seq.retuneCurrent = true →
     s.seq.retuneBand = some b →
     s.memberTx = false →
     s.settled →
     Answers (.bandSettleExpiry) s fun t =>
       t.seq.state = .quiet ∧ t.seq.tx = none ∧ t.seq.retuneCurrent = false ∧ t.seq.retuneBand = none ∧ t.seq.currentBand = h.seq.currentBand ∧
        t.seq.bandCode = h.seq.bandCode ∧
       t.turn = some { tn with sub := .active, idleStart := some (tn.idleStart.getD h.clock) } ∧
       h.raised t (.bandSet b h.seq.bandCode.val) ∧ t.fixed = h.fixed ∧
       t.drv = h.drv ∧ t.msr = h.msr ∧ t.prt = h.prt ∧ t.idu = h.idu ∧ t.acu = h.acu) ∧
  (∀ (tm : Timer) (y : Cycle) (b : BandId) (c : List Char) (s : State),
     let h : State := s.bringTo tm.due
     s.rst = false →
     s.seq.state = .disarmRelay →
     s.seq.step = some tm →
     s.seq.queuedRetune = none →
     s.idu.cycle = .starting →
     s.idu.startWaits = true →
     s.idu.context = some y →
     s.prt.station = .ready →
     s.seq.currentBand = some b →
     s.idu.callsign = some c →
     s.seq.changePending = false →
     s.seq.active.relayOn ≠ 0 →
     s.settled →
     Answers (.relayOffExpiry) s fun t =>
       t.idu.cycle = .starting ∧ t.seq.state = .armRelay ∧ t.seq.trr = true ∧ t.seq.idm = true ∧
       ((t.seq.tx.map fun y => (y.kind, y.band, y.emission)) = some (.ident, b, .cw)) ∧
       ((t.idu.context.map fun y => (y.callsign, y.speed, y.power)) = some (c, h.idu.params.speed, h.idu.params.power)) ∧
       t.drv = h.drv ∧ t.msr = h.msr ∧ t.prt = h.prt ∧ t.acu = h.acu ∧ t.fixed = h.fixed ∧
       t.idu.startWaits = false ∧ t.holder = h.holder) ∧
  (∀ (tm : Timer) (x : Tx) (y : Cycle) (s : State),
     let h : State := s.bringTo tm.due
     s.rst = false →
     s.seq.state = .disarmRelay →
     s.seq.step = some tm →
     s.seq.queuedRetune = none →
     s.seq.tx = some x →
     s.idu.cycle = .closing →
     s.idu.context = some y →
     s.idu.startWaits = false →
     s.idu.due = false →
     s.settled →
     y.home = .idTurn →
     s.arb.arbiter = .idTurn →
     (s.prt.station ≠ .ready ∨ ∀ w, s.eligible w = true → s.marked w = false) →
     s.arb.gap ≠ none →
     Answers (.relayOffExpiry) s fun t =>
       (t.idu.cycle = .idle ∧ t.idu.context = none ∧ t.idu.claim = .none ∧
        (h.acu.number < max32 → t.acu.number = h.acu.number + 1 ∧ t.acu.records.getLast? = some ⟨h.acu.number + 1, true, none, none, none,
          h.seq.currentBand, .cw, y.startTime, h.seconds - y.startTime, if y.entered then 1 else 0, if y.entered then x.airTime else 0, .complete⟩)) ∧
       t.arb = { h.arb with arbiter := .gap } ∧
       t.seq.state = .quiet ∧ t.drv = h.drv ∧ t.amg.state = h.amg.state ∧ t.msr = h.msr ∧ t.prt = h.prt ∧ t.fixed = h.fixed) ∧
  (∀ (tm : Timer) (x : Tx) (y : Cycle) (s : State),
     let h : State := s.bringTo tm.due
     s.rst = false →
     s.seq.state = .disarmRelay →
     s.seq.step = some tm →
     s.seq.queuedRetune = none →
     s.seq.tx = some x →
     s.idu.cycle = .closing →
     s.idu.context = some y →
     s.idu.startWaits = false →
     s.idu.due = false →
     s.settled →
     y.home = .idTurn →
     s.arb.arbiter = .idTurn →
     s.prt.station ≠ .ready ∨ s.winner = none →
     s.arb.gap = none →
     Answers (.relayOffExpiry) s fun t =>
       (t.idu.cycle = .idle ∧ t.idu.context = none ∧ t.idu.claim = .none ∧
        (h.acu.number < max32 → t.acu.number = h.acu.number + 1 ∧ t.acu.records.getLast? = some ⟨h.acu.number + 1, true, none, none, none,
          h.seq.currentBand, .cw, y.startTime, h.seconds - y.startTime, if y.entered then 1 else 0, if y.entered then x.airTime else 0, .complete⟩)) ∧
       t.arb = { h.arb with arbiter := .free } ∧
       t.seq.state = .quiet ∧ t.drv = h.drv ∧ t.amg.state = h.amg.state ∧ t.msr = h.msr ∧ t.prt = h.prt ∧ t.fixed = h.fixed) ∧
  (∀ (tm : Timer) (x : Tx) (y : Cycle) (w : SlotId) (s : State),
     let h : State := s.bringTo tm.due
     s.rst = false →
     s.seq.state = .disarmRelay →
     s.seq.step = some tm →
     s.seq.queuedRetune = none →
     s.seq.tx = some x →
     s.idu.cycle = .closing →
     s.idu.context = some y →
     s.idu.startWaits = false →
     s.idu.due = false →
     s.settled →
     y.home = .idTurn →
     s.arb.arbiter = .idTurn →
     s.prt.station = .ready →
     s.winner = some w →
     (s.arb.gap = none ∨ ∃ v, s.eligible v = true ∧ s.marked v = true) →
     Answers (.relayOffExpiry) s fun t =>
       (t.idu.cycle = .idle ∧ t.idu.context = none ∧ t.idu.claim = .none ∧
        (h.acu.number < max32 → t.acu.number = h.acu.number + 1 ∧ t.acu.records.getLast? = some ⟨h.acu.number + 1, true, none, none, none,
          h.seq.currentBand, .cw, y.startTime, h.seconds - y.startTime, if y.entered then 1 else 0, if y.entered then x.airTime else 0, .complete⟩)) ∧
       t.holder = some w ∧ t.tenancy w = .holding ∧ t.arb.gap = none ∧ t.arb.ranks = rotate h.arb.ranks w ∧
       t.prt = h.prt ∧ t.fixed = h.fixed) ∧
  (∀ (tm : Timer) (x : Tx) (y : Cycle) (tn : Turn) (s : State),
     let h : State := s.bringTo tm.due
     s.rst = false →
     s.seq.state = .disarmRelay →
     s.seq.step = some tm →
     s.seq.queuedRetune = none →
     s.seq.tx = some x →
     s.idu.cycle = .closing →
     s.idu.context = some y →
     s.idu.startWaits = false →
     s.idu.due = false →
     s.settled →
     y.home = .memberTurn →
     s.turn = some tn →
     tn.sub = .paused →
     tn.pendingStart = false →
     Answers (.relayOffExpiry) s fun t =>
       (t.idu.cycle = .idle ∧ t.idu.context = none ∧ t.idu.claim = .none ∧
        (h.acu.number < max32 → t.acu.number = h.acu.number + 1 ∧ t.acu.records.getLast? = some ⟨h.acu.number + 1, true, none, none, none,
          h.seq.currentBand, .cw, y.startTime, h.seconds - y.startTime, if y.entered then 1 else 0, if y.entered then x.airTime else 0, .complete⟩)) ∧
       t.turn = some { tn with sub := .active, idleStart := some (tn.idleStart.getD h.clock) } ∧
       t.seq.state = .quiet ∧ t.drv = h.drv ∧ t.amg.state = h.amg.state ∧ t.msr = h.msr ∧ t.prt = h.prt ∧ t.fixed = h.fixed) ∧
  (∀ (tm : Timer) (x : Tx) (y : Cycle) (tn : Turn) (s : State),
     let h : State := s.bringTo tm.due
     s.rst = false →
     s.seq.state = .disarmRelay →
     s.seq.step = some tm →
     s.seq.queuedRetune = none →
     s.seq.tx = some x →
     s.idu.cycle = .closing →
     s.idu.context = some y →
     s.idu.startWaits = false →
     s.idu.due = false →
     s.settled →
     y.home = .memberTurn →
     s.turn = some tn →
     tn.sub = .paused →
     tn.pendingStart = true →
     s.prt.station = .ready →
     s.seq.changePending = false →
     s.seq.active.relayOn ≠ 0 →
     Answers (.relayOffExpiry) s fun t =>
       (t.idu.cycle = .idle ∧ t.idu.context = none ∧ t.idu.claim = .none ∧
        (h.acu.number < max32 → t.acu.number = h.acu.number + 1 ∧ t.acu.records.getLast? = some ⟨h.acu.number + 1, true, none, none, none,
          h.seq.currentBand, .cw, y.startTime, h.seconds - y.startTime, if y.entered then 1 else 0, if y.entered then x.airTime else 0, .complete⟩)) ∧
       t.turn = some { tn with sub := .active, pendingStart := false, idleStart := none, txCount := countUp max16 tn.txCount } ∧
       t.seq.state = .armRelay ∧ t.seq.trr = true ∧ t.seq.step = some ⟨h.clock, h.seq.active.relayOn⟩ ∧
       ((t.seq.tx.map fun z => (z.kind, z.band, z.emission, z.current)) = some (.member tn.holder, tn.band, tn.emission, true)) ∧
       t.prt = h.prt ∧ t.fixed = h.fixed)

/-- In a turn that is not PAUSED, of a holder other than slot 0: the oldest entry leaves the timeline at its time and
the timeline state takes its direction. A DOWN stops the burst-gap timer and starts the stuck-key timer. An UP stops
the stuck-key timer, and when it leaves the timeline empty it starts the burst-gap timer, starts the hang timer of a
CW turn on the air and clears its pending start. BURST_GAP_EXPIRY closes the burst. STUCK_KEY_EXPIRY flushes the
timeline, records a STUCK_KEY fault that leaves the station state alone, and raises KEYING_LOSS (STUCK); with slot 0's
LOCAL_KEY still down it sets local suppression. LOCAL_KEY that becomes active in slot 0's CW turn, unsuppressed, makes
the key state DOWN (UP in a pause), starts the stuck-key timer and, on a READY station, makes a member start: taken at
once in an ACTIVE turn with SEQ QUIET, pending in TUNING and in a pause. Let go, the key state follows the timeline,
and with the timeline UP and empty it is a key-up at rest, as at a last UP; a suppressed one only has its suppression
cleared, whoever holds the turn (DEDUCED, log 13). In every other turn, and suppressed, its activation does nothing
else. An occurrence commanded before its instant brings the clock forward to it (the model's choice, log 1). (R46,
R57, R84, R85, R88, R89, R90, R91, R136, R176, R177) -/
def Obligations.TheTimelinePlays : Prop :=
  (∀ (e : KeyEntry) (l : List KeyEntry) (tn : Turn) (s : State),
     let h : State := s.bringTo (s.clock + BitVec.ofNat 32 (sinceMs e.at_ s.keyNow))
     s.rst = false →
     s.ktl.timeline = e :: l →
     s.turn = some tn →
     tn.holder ≠ 0 →
     tn.sub ≠ .paused →
     s.settled →
     e.dir = .down →
     (s.bringTo (s.clock + BitVec.ofNat 32 (sinceMs e.at_ s.keyNow))).tenthsDue = 0 →
     Answers (.playout) s fun t =>
       t.ktl.timeline = l ∧ t.ktl.state = .down ∧ t.ktl.burst = h.ktl.burst ∧ t.ktl.burstGap = none ∧ t.ktl.hang = none ∧
       t.ktl.stuck = some (h.ktl.stuck.getD ⟨h.clock, h.ktl.params.stuckLimit * 1000⟩) ∧
       t.seq = h.seq ∧ t.arb = h.arb ∧ t.fixed = h.fixed ∧
       t.drv = h.drv ∧ t.amg = h.amg ∧ t.msr = h.msr ∧ t.prt = h.prt ∧ t.idu = h.idu ∧ t.acu = h.acu) ∧
  (∀ (e : KeyEntry) (l : List KeyEntry) (tn : Turn) (s : State),
     let h : State := s.bringTo (s.clock + BitVec.ofNat 32 (sinceMs e.at_ s.keyNow))
     s.rst = false →
     s.ktl.timeline = e :: l →
     s.turn = some tn →
     tn.holder ≠ 0 →
     tn.sub ≠ .paused →
     s.settled →
     e.dir = .up →
     l ≠ [] →
     (s.bringTo (s.clock + BitVec.ofNat 32 (sinceMs e.at_ s.keyNow))).tenthsDue = 0 →
     Answers (.playout) s fun t =>
       t.ktl.timeline = l ∧ t.ktl.state = .up ∧ t.ktl.burst = h.ktl.burst ∧ t.ktl.stuck = none ∧ t.ktl.hang = none ∧
       t.seq = h.seq ∧ t.arb = h.arb ∧ t.fixed = h.fixed ∧
       t.drv = h.drv ∧ t.amg = h.amg ∧ t.msr = h.msr ∧ t.prt = h.prt ∧ t.idu = h.idu ∧ t.acu = h.acu) ∧
  (∀ (e : KeyEntry) (l : List KeyEntry) (tn : Turn) (r : Burst) (s : State),
     let h : State := s.bringTo (s.clock + BitVec.ofNat 32 (sinceMs e.at_ s.keyNow))
     s.rst = false →
     s.ktl.timeline = e :: l →
     s.turn = some tn →
     tn.holder ≠ 0 →
     tn.sub ≠ .paused →
     s.settled →
     e.dir = .up →
     l = [] →
     tn.emission = .cw →
     s.ktl.burst = some r →
     (s.bringTo (s.clock + BitVec.ofNat 32 (sinceMs e.at_ s.keyNow))).tenthsDue = 0 →
     Answers (.playout) s fun t =>
       t.ktl.timeline = [] ∧ t.ktl.state = .up ∧ t.ktl.burst = some r ∧ t.ktl.stuck = none ∧
       t.ktl.burstGap = some ⟨h.clock, h.ktl.params.burstGap⟩ ∧
       (t.ktl.hang = (if h.memberExciting then some (h.ktl.hang.getD ⟨h.clock, h.ktl.params.cwHang⟩) else none)) ∧
       (t.turn.map (·.pendingStart)) = some false ∧
       t.seq = h.seq ∧ t.fixed = h.fixed ∧
       t.drv = h.drv ∧ t.amg = h.amg ∧ t.msr = h.msr ∧ t.prt = h.prt ∧ t.idu = h.idu ∧ t.acu = h.acu) ∧
  (∀ (tm : Timer) (s : State),
     let h : State := s.bringTo tm.due
     s.rst = false →
     s.ktl.burstGap = some tm →
     (s.bringTo tm.due).tenthsDue = 0 →
     exec (.burstGapExpiry) s = .next ({ h with ktl := { h.ktl with burst := none, burstGap := none } })) ∧
  (∀ (tm : Timer) (tn : Turn) (s : State),
     let h : State := s.bringTo tm.due
     s.rst = false →
     s.ktl.stuck = some tm →
     s.turn = some tn →
     s.stationFollows →
     s.settled →
     (s.bringTo tm.due).tenthsDue = 0 →
     Answers (.stuckKeyExpiry) s fun t =>
       t.ktl.timeline = [] ∧ t.ktl.state = .up ∧ t.ktl.burst = none ∧ t.ktl.burstGap = none ∧ t.ktl.stuck = none ∧
       (tn.holder ≠ 0 → t.ktl.suppression = h.ktl.suppression) ∧
       (tn.holder = 0 → tn.emission = .cw → tn.sub ≠ .paused → h.functionActive .localKey = true → t.ktl.suppression = true) ∧
       ((∃ r ∈ t.prt.faults, r.kind = .stuckKey ∧ r.last = h.seconds ∧ r.present = false) ∧ t.prt.station = h.prt.station) ∧
       h.raised t (.keyingLoss .stuck (some tn.holder) none none none) ∧
       t.seq = h.seq ∧ t.drv = h.drv ∧ t.amg = h.amg ∧ t.msr = h.msr ∧ t.idu = h.idu ∧ t.acu = h.acu ∧ t.fixed = h.fixed) ∧
  (∀ (i : InputId) (y : Input) (n : Clock) (tn : Turn) (s : State),
     let h : State := s.bringTo (n + BitVec.ofNat 32 y.debounce)
     let v : Input := { y with debounced := y.raw, since := none }
     let u : State := { h with inr := { h.inr with inputs := h.inr.inputs.write i v } }
     s.rst = false →
     s.inr.inputs.read i = y →
     y.since = some n →
     y.function = .localKey →
     y.trigger = .level →
     s.functionActive .localKey = false →
     ({ y with debounced := y.raw }).active = true →
     s.turn = some tn →
     tn.holder = 0 →
     tn.emission = .cw →
     s.ktl.suppression = false →
     tn.sub = .active →
     s.prt.station = .ready →
     s.seq.state = .quiet →
     s.seq.active.relayOn ≠ 0 →
     s.settled →
     Answers (.debounceExpiry i) s fun t =>
       t.keyState = .down ∧ t.ktl = { h.ktl with stuck := some (h.ktl.stuck.getD ⟨h.clock, h.ktl.params.stuckLimit * 1000⟩), hang := none } ∧
       t.seq.state = .armRelay ∧ t.seq.trr = true ∧ t.seq.step = some ⟨h.clock, h.seq.active.relayOn⟩ ∧
       ((t.seq.tx.map fun z => (z.kind, z.band, z.emission, z.current)) = some (.member 0, tn.band, .cw, true)) ∧
       t.turn = some { tn with pendingStart := false, idleStart := none, txCount := countUp max16 tn.txCount } ∧
       t.inr = u.inr ∧ { t.fixed with inr := h.inr } = h.fixed ∧ t.drv = h.drv ∧ t.msr = h.msr ∧ t.prt = h.prt ∧ t.idu = h.idu ∧ t.acu = h.acu) ∧
  (∀ (i : InputId) (y : Input) (n : Clock) (tn : Turn) (s : State),
     let h : State := s.bringTo (n + BitVec.ofNat 32 y.debounce)
     let v : Input := { y with debounced := y.raw, since := none }
     let u : State := { h with inr := { h.inr with inputs := h.inr.inputs.write i v } }
     s.rst = false →
     s.inr.inputs.read i = y →
     y.since = some n →
     y.function = .localKey →
     y.trigger = .level →
     s.functionActive .localKey = false →
     ({ y with debounced := y.raw }).active = true →
     s.turn = some tn →
     tn.holder = 0 →
     tn.emission = .cw →
     s.ktl.suppression = false →
     s.prt.station ≠ .ready →
     s.settled →
     (s.bringTo (n + BitVec.ofNat 32 y.debounce)).tenthsDue = 0 →
     Answers (.debounceExpiry i) s fun t =>
       (t.keyState = (if tn.sub = .paused then .up else .down) ∧ t.seq = h.seq ∧ t.arb = h.arb ∧ t.amg = h.amg) ∧
       (tn.sub ≠ .paused → t.ktl = { h.ktl with stuck := some (h.ktl.stuck.getD ⟨h.clock, h.ktl.params.stuckLimit * 1000⟩), hang := none }) ∧
       t.inr = u.inr ∧ { t.fixed with inr := h.inr } = h.fixed ∧ t.drv = h.drv ∧ t.msr = h.msr ∧ t.prt = h.prt ∧ t.idu = h.idu ∧ t.acu = h.acu) ∧
  (∀ (i : InputId) (y : Input) (n : Clock) (tn : Turn) (s : State),
     let h : State := s.bringTo (n + BitVec.ofNat 32 y.debounce)
     let v : Input := { y with debounced := y.raw, since := none }
     let u : State := { h with inr := { h.inr with inputs := h.inr.inputs.write i v } }
     s.rst = false →
     s.inr.inputs.read i = y →
     y.since = some n →
     y.function = .localKey →
     y.trigger = .level →
     s.functionActive .localKey = false →
     ({ y with debounced := y.raw }).active = true →
     s.turn = some tn →
     tn.holder = 0 →
     tn.emission = .cw →
     s.ktl.suppression = false →
     tn.sub ≠ .active →
     s.prt.station = .ready →
     s.memberTx = false →
     s.settled →
     (s.bringTo (n + BitVec.ofNat 32 y.debounce)).tenthsDue = 0 →
     Answers (.debounceExpiry i) s fun t =>
       (t.keyState = (if tn.sub = .paused then .up else .down)) ∧
       t.turn = some { tn with pendingStart := true, idleStart := none } ∧ t.seq = h.seq ∧ t.amg = h.amg ∧
       t.inr = u.inr ∧ { t.fixed with inr := h.inr } = h.fixed ∧ t.drv = h.drv ∧ t.msr = h.msr ∧ t.prt = h.prt ∧ t.idu = h.idu ∧ t.acu = h.acu) ∧
  (∀ (i : InputId) (y : Input) (n : Clock) (tn : Turn) (s : State),
     let h : State := s.bringTo (n + BitVec.ofNat 32 y.debounce)
     let v : Input := { y with debounced := y.raw, since := none }
     let u : State := { h with inr := { h.inr with inputs := h.inr.inputs.write i v } }
     s.rst = false →
     s.inr.inputs.read i = y →
     y.since = some n →
     y.function = .localKey →
     y.trigger = .level →
     s.functionActive .localKey = true →
     ({ y with debounced := y.raw }).active = false →
     (∀ j, j ≠ i → (s.inr.inputs.read j).function = .localKey → (s.inr.inputs.read j).active = false) →
     s.turn = some tn →
     tn.holder = 0 →
     tn.emission = .cw →
     s.ktl.suppression = false →
     s.ktl.state = .up →
     s.ktl.timeline = [] →
     s.settled →
     (s.bringTo (n + BitVec.ofNat 32 y.debounce)).tenthsDue = 0 →
     Answers (.debounceExpiry i) s fun t =>
       (t.keyState = .up ∧ t.ktl = { h.ktl with
        stuck := none
        burstGap := if h.ktl.burst.isSome then some ⟨h.clock, h.ktl.params.burstGap⟩ else h.ktl.burstGap
        hang := if h.memberExciting then some (h.ktl.hang.getD ⟨h.clock, h.ktl.params.cwHang⟩) else none }) ∧
       ((t.turn.map fun z => { z with idleStart := none }) = some { tn with pendingStart := false, idleStart := none }) ∧
       t.seq = h.seq ∧ t.amg = h.amg ∧
       t.inr = u.inr ∧ { t.fixed with inr := h.inr } = h.fixed ∧ t.drv = h.drv ∧ t.msr = h.msr ∧ t.prt = h.prt ∧ t.idu = h.idu ∧ t.acu = h.acu) ∧
  (∀ (i : InputId) (y : Input) (n : Clock) (tn : Turn) (s : State),
     let h : State := s.bringTo (n + BitVec.ofNat 32 y.debounce)
     let v : Input := { y with debounced := y.raw, since := none }
     let u : State := { h with inr := { h.inr with inputs := h.inr.inputs.write i v } }
     s.rst = false →
     s.inr.inputs.read i = y →
     y.since = some n →
     y.function = .localKey →
     y.trigger = .level →
     s.functionActive .localKey = true →
     ({ y with debounced := y.raw }).active = false →
     (∀ j, j ≠ i → (s.inr.inputs.read j).function = .localKey → (s.inr.inputs.read j).active = false) →
     s.turn = some tn →
     tn.holder = 0 →
     tn.emission = .cw →
     s.ktl.suppression = false →
     tn.sub ≠ .paused →
     s.ktl.state = .down ∨ s.ktl.timeline ≠ [] →
     s.settled →
     (s.bringTo (n + BitVec.ofNat 32 y.debounce)).tenthsDue = 0 →
     Answers (.debounceExpiry i) s fun t =>
       t.keyState = h.ktl.state ∧ { t.ktl with stuck := h.ktl.stuck, hang := h.ktl.hang } = h.ktl ∧
       (h.ktl.state = .up → t.ktl.stuck = none) ∧
       t.seq = h.seq ∧ t.arb = h.arb ∧ t.amg = h.amg ∧
       t.inr = u.inr ∧ { t.fixed with inr := h.inr } = h.fixed ∧ t.drv = h.drv ∧ t.msr = h.msr ∧ t.prt = h.prt ∧ t.idu = h.idu ∧ t.acu = h.acu) ∧
  (∀ (i : InputId) (y : Input) (n : Clock) (s : State),
     let h : State := s.bringTo (n + BitVec.ofNat 32 y.debounce)
     let v : Input := { y with debounced := y.raw, since := none }
     let u : State := { h with inr := { h.inr with inputs := h.inr.inputs.write i v } }
     s.rst = false →
     s.inr.inputs.read i = y →
     y.since = some n →
     y.function = .localKey →
     y.trigger = .level →
     s.functionActive .localKey = true →
     ({ y with debounced := y.raw }).active = false →
     (∀ j, j ≠ i → (s.inr.inputs.read j).function = .localKey → (s.inr.inputs.read j).active = false) →
     s.ktl.suppression = true →
     s.settled →
     (s.bringTo (n + BitVec.ofNat 32 y.debounce)).tenthsDue = 0 →
     exec (.debounceExpiry i) s = .next ({ u with ktl := { u.ktl with suppression := false } })) ∧
  (∀ (i : InputId) (y : Input) (n : Clock) (s : State),
     let h : State := s.bringTo (n + BitVec.ofNat 32 y.debounce)
     let v : Input := { y with debounced := y.raw, since := none }
     let u : State := { h with inr := { h.inr with inputs := h.inr.inputs.write i v } }
     s.rst = false →
     s.inr.inputs.read i = y →
     y.since = some n →
     y.function = .localKey →
     y.trigger = .level →
     s.functionActive .localKey = false →
     ({ y with debounced := y.raw }).active = true →
     (s.ktl.suppression = true ∨ ∀ z ∈ s.turn, z.holder = 0 → z.emission ≠ .cw) →
     s.settled →
     (s.bringTo (n + BitVec.ofNat 32 y.debounce)).tenthsDue = 0 →
     exec (.debounceExpiry i) s = .next (u))

/-- A scan outside EXCITING with every channel within limits replaces the scan record, zeroes the counts and changes
nothing else. In the holder's EXCITING, with F at or above the floor and r = floor(1000 R / F) below r_trip: the last
reflection is r, f drops at once to f_t = 256 - floor((r - r_start)(256 - f_min)/(r_trip - r_start)) (256 up to
r_start) or recovers by at most one step, the peak is the larger, and a changed f recomputes the applied power. With r
at or above r_trip: an SWR_TRIP record, the station TRIPPED, EXC and DRIVE off, the turn ended with the holder OPEN, f
unchanged. FOLDBACK is raised once in a transmission. PAI above the limit while EXCITING counts up to N; the N-th
records PA_OVERCURRENT with its code and trips the station the same way. Over-temperature and the supply window
(stated of scans outside EXCITING) count up to N; the N-th makes the condition present and a READY station HELD. While
over-temperature is present, scans at or below the limit minus the hysteresis count and any other returns the count to
0; while the supply window is, scans within it; the N-th makes the condition gone, its record not present and the HELD
station READY, which grants the winner if the arbiter is FREE, before a due identification is looked at (DEDUCED, log
11). The scan record carries W_fwd and W_ref with the coupler full scale of the current band, kept for Query MEASURE
(DEDUCED, log 43). The scan's start and the next scan's are DEDUCED (log 19). An occurrence commanded before its
instant brings the clock forward to it (the model's choice, log 1). (R118, R119, R120, R122, R123, R124, R127, R129,
R130, R131, R145, R146) -/
def Obligations.ScansFoldBackAndTrip : Prop :=
  (∀ (f : Code) (r : Code) (pa : Code) (pt : Code) (vs : Code) (s : State),
     let h : State := s.bringTo s.scanStart
     let fs : Option Nat := h.seq.currentBand.map fun i => (h.drv.bands.read i).fullScale
     s.rst = false →
     s.seq.state ≠ .exciting →
     s.settled →
     pa.val ≤ s.msr.limits.current →
     pt.val ≤ s.msr.limits.temperature →
     s.msr.limits.supplyLow ≤ vs.val ∧ vs.val ≤ s.msr.limits.supplyHigh →
     s.msr.overtemp = false →
     s.msr.supply = false →
     (∀ r ∈ s.prt.faults, r.kind ≠ .paOvercurrent) →
     exec (.scanCompletion f r pa pt vs) s = .next ({ h with msr := { h.msr with
      scan := ⟨f, r, pa, pt, vs, s.scanStart⟩, nextScan := nextScanAfter s.scanStart
      forward := fs.map (f.val * · / 1023), reflected := fs.map (r.val * · / 1023)
      overcurrentCount := 0, overtempCount := 0, supplyCount := 0 } })) ∧
  (∀ (f : Code) (r : Code) (pa : Code) (pt : Code) (vs : Code) (x : Tx) (tn : Turn) (b : BandId) (s : State),
     let h : State := s.bringTo s.scanStart
     let y : Nat := 1000 * r.val / f.val
     let l : Limits := s.msr.limits
     let aim : Nat := if y ≤ l.rStart then 256 else 256 - (y - l.rStart) * (256 - l.fMin) / (l.rTrip - l.rStart)
     let n : Nat := if s.msr.factor < aim then min aim (s.msr.factor + l.step) else aim
     s.rst = false →
     s.memberExciting = true →
     s.seq.tx = some x →
     x.kind = .member tn.holder →
     s.turn = some tn →
     s.seq.currentBand = some b →
     s.msr.limits.floor ≤ f.val →
     0 < f.val →
     1000 * r.val / f.val < s.msr.limits.rTrip →
     s.settled →
     pa.val ≤ s.msr.limits.current →
     pt.val ≤ s.msr.limits.temperature →
     s.msr.limits.supplyLow ≤ vs.val ∧ vs.val ≤ s.msr.limits.supplyHigh →
     s.msr.overtemp = false →
     s.msr.supply = false →
     (∀ r ∈ s.prt.faults, r.kind ≠ .paOvercurrent) →
     (s.bringTo s.scanStart).tenthsDue = 0 →
     Answers (.scanCompletion f r pa pt vs) s fun t =>
       t.msr.factor = n ∧ t.msr.lastReflection = some y ∧ t.msr.scan = ⟨f, r, pa, pt, vs, s.scanStart⟩ ∧ t.msr.overcurrentCount = 0 ∧
       t.msr.peak = max h.msr.peak (f.val * (h.drv.bands.read b).fullScale / 1023) ∧
       t.msr.forward = some (f.val * (h.drv.bands.read b).fullScale / 1023) ∧
        t.msr.reflected = some (r.val * (h.drv.bands.read b).fullScale / 1023) ∧
       (n = h.msr.factor → t.drv = h.drv) ∧
       (n ≠ h.msr.factor → t.drv.applied.active = true ∧ t.drv.applied.factor = n ∧ t.drv.applied.effective = t.drv.applied.target * n / 256) ∧
       (n < 256 → h.msr.reported = false → t.msr.reported = true ∧ h.raised t (.foldback x.kind (some b) f r (some y) n)) ∧
       (n = 256 ∨ h.msr.reported = true → t.lnk = h.lnk) ∧
       t.seq = h.seq ∧ t.arb = h.arb ∧ t.prt = h.prt ∧ t.ktl = h.ktl ∧ t.amg = h.amg ∧ t.idu = h.idu ∧ t.acu = h.acu ∧ t.fixed = h.fixed) ∧
  (∀ (f : Code) (r : Code) (pa : Code) (pt : Code) (vs : Code) (x : Tx) (tn : Turn) (s : State),
     let h : State := s.bringTo s.scanStart
     s.rst = false →
     s.memberExciting = true →
     s.seq.tx = some x →
     x.kind = .member tn.holder →
     s.turn = some tn →
     s.tenancy tn.holder = .holding →
     s.msr.limits.floor ≤ f.val →
     0 < f.val →
     s.msr.limits.rTrip ≤ 1000 * r.val / f.val →
     s.prt.station = .ready →
     s.stationFollows →
     s.settled →
     pa.val ≤ s.msr.limits.current →
     pt.val ≤ s.msr.limits.temperature →
     s.msr.limits.supplyLow ≤ vs.val ∧ vs.val ≤ s.msr.limits.supplyHigh →
     s.msr.overtemp = false →
     s.msr.supply = false →
     (∀ r ∈ s.prt.faults, r.kind ≠ .paOvercurrent) →
     (s.bringTo s.scanStart).tenthsDue = 0 →
     Answers (.scanCompletion f r pa pt vs) s fun t =>
       (t.prt.station = .tripped ∧ (∃ y ∈ t.prt.faults, y.kind = .swrTrip ∧ y.code = some r ∧ y.last = h.seconds)) ∧
       t.seq.exc = false ∧ t.seq.keyGate = false ∧ t.drv.applied.active = false ∧ t.seq.state ≠ .exciting ∧
       t.holder ≠ some tn.holder ∧ t.tenancy tn.holder = .opened ∧ t.msr.factor = h.msr.factor ∧ t.msr.lastReflection = some (1000 * r.val / f.val) ∧
       t.fixed = h.fixed) ∧
  (∀ (f : Code) (r : Code) (pa : Code) (pt : Code) (vs : Code) (s : State),
     let h : State := s.bringTo s.scanStart
     let fs : Option Nat := h.seq.currentBand.map fun i => (h.drv.bands.read i).fullScale
     s.rst = false →
     s.seq.state ≠ .exciting →
     s.msr.overtemp = false →
     s.msr.limits.temperature < pt.val →
     s.msr.overtempCount + 1 < s.msr.limits.scans →
     s.settled →
     pa.val ≤ s.msr.limits.current →
     s.msr.limits.supplyLow ≤ vs.val ∧ vs.val ≤ s.msr.limits.supplyHigh →
     s.msr.supply = false →
     (∀ r ∈ s.prt.faults, r.kind ≠ .paOvercurrent) →
     exec (.scanCompletion f r pa pt vs) s = .next ({ h with msr := { h.msr with
      scan := ⟨f, r, pa, pt, vs, s.scanStart⟩, nextScan := nextScanAfter s.scanStart
      forward := fs.map (f.val * · / 1023), reflected := fs.map (r.val * · / 1023)
      overcurrentCount := 0, overtempCount := h.msr.overtempCount + 1, supplyCount := 0 } })) ∧
  (∀ (f : Code) (r : Code) (pa : Code) (pt : Code) (vs : Code) (s : State),
     let h : State := s.bringTo s.scanStart
     s.rst = false →
     s.seq.state ≠ .exciting →
     s.msr.overtemp = false →
     s.msr.limits.temperature < pt.val →
     s.msr.limits.scans ≤ s.msr.overtempCount + 1 →
     s.prt.station = .ready →
     s.stationFollows →
     s.settled →
     pa.val ≤ s.msr.limits.current →
     s.msr.limits.supplyLow ≤ vs.val ∧ vs.val ≤ s.msr.limits.supplyHigh →
     s.msr.supply = false →
     (∀ r ∈ s.prt.faults, r.kind ≠ .paOvercurrent) →
     Answers (.scanCompletion f r pa pt vs) s fun t =>
       t.msr.overtemp = true ∧ t.msr.overtempCount = 0 ∧ t.prt.station = .held ∧ t.holder = h.holder ∧
       (∃ y ∈ t.prt.faults, y.kind = .paOvertemp ∧ y.code = some pt ∧ y.present = true) ∧
       t.arming = false ∧ h.raised t (.stationChanged .ready .held .hold (some .paOvertemp)) ∧ t.drv = h.drv ∧ t.fixed = h.fixed) ∧
  (∀ (f : Code) (r : Code) (pa : Code) (pt : Code) (vs : Code) (s : State),
     let h : State := s.bringTo s.scanStart
     s.rst = false →
     s.seq.state ≠ .exciting →
     s.msr.supply = false →
     vs.val < s.msr.limits.supplyLow ∨ s.msr.limits.supplyHigh < vs.val →
     s.msr.limits.scans ≤ s.msr.supplyCount + 1 →
     s.prt.station = .ready →
     s.stationFollows →
     s.settled →
     pa.val ≤ s.msr.limits.current →
     pt.val ≤ s.msr.limits.temperature →
     s.msr.overtemp = false →
     (∀ r ∈ s.prt.faults, r.kind ≠ .paOvercurrent) →
     Answers (.scanCompletion f r pa pt vs) s fun t =>
       t.msr.supply = true ∧ t.msr.supplyCount = 0 ∧ t.prt.station = .held ∧
       (∃ y ∈ t.prt.faults, y.kind = .supplyWindow ∧ y.code = some vs ∧ y.present = true) ∧
       t.holder = h.holder ∧ t.arming = false ∧ t.drv = h.drv ∧ t.fixed = h.fixed) ∧
  (∀ (f : Code) (r : Code) (pa : Code) (pt : Code) (vs : Code) (s : State),
     let h : State := s.bringTo s.scanStart
     let fs : Option Nat := h.seq.currentBand.map fun i => (h.drv.bands.read i).fullScale
     s.rst = false →
     s.seq.state ≠ .exciting →
     s.msr.supply = false →
     vs.val < s.msr.limits.supplyLow ∨ s.msr.limits.supplyHigh < vs.val →
     s.msr.supplyCount + 1 < s.msr.limits.scans →
     s.settled →
     pa.val ≤ s.msr.limits.current →
     pt.val ≤ s.msr.limits.temperature →
     s.msr.overtemp = false →
     (∀ r ∈ s.prt.faults, r.kind ≠ .paOvercurrent) →
     exec (.scanCompletion f r pa pt vs) s = .next ({ h with msr := { h.msr with
      scan := ⟨f, r, pa, pt, vs, s.scanStart⟩, nextScan := nextScanAfter s.scanStart
      forward := fs.map (f.val * · / 1023), reflected := fs.map (r.val * · / 1023)
      overcurrentCount := 0, overtempCount := 0, supplyCount := h.msr.supplyCount + 1 } })) ∧
  (∀ (f : Code) (r : Code) (pa : Code) (pt : Code) (vs : Code) (x : Tx) (s : State),
     let h : State := s.bringTo s.scanStart
     s.rst = false →
     s.seq.state = .exciting →
     s.seq.tx = some x →
     s.msr.limits.current < pa.val →
     f.val < s.msr.limits.floor ∨ (0 < f.val ∧ 1000 * r.val / f.val < s.msr.limits.rTrip) →
     s.msr.overcurrentCount + 1 < s.msr.limits.scans →
     s.settled →
     pt.val ≤ s.msr.limits.temperature →
     s.msr.limits.supplyLow ≤ vs.val ∧ vs.val ≤ s.msr.limits.supplyHigh →
     s.msr.overtemp = false →
     s.msr.supply = false →
     (∀ r ∈ s.prt.faults, r.kind ≠ .paOvercurrent) →
     (s.bringTo s.scanStart).tenthsDue = 0 →
     Answers (.scanCompletion f r pa pt vs) s fun t =>
       t.msr.overcurrentCount = h.msr.overcurrentCount + 1 ∧ t.msr.overtempCount = 0 ∧ t.msr.supplyCount = 0 ∧
        t.msr.scan = ⟨f, r, pa, pt, vs, s.scanStart⟩ ∧
       t.prt = h.prt ∧ t.seq = h.seq ∧ t.arb = h.arb ∧ t.ktl = h.ktl ∧ t.amg = h.amg ∧ t.idu = h.idu ∧ t.acu = h.acu ∧ t.fixed = h.fixed) ∧
  (∀ (f : Code) (r : Code) (pa : Code) (pt : Code) (vs : Code) (x : Tx) (tn : Turn) (s : State),
     let h : State := s.bringTo s.scanStart
     s.rst = false →
     s.memberExciting = true →
     s.seq.tx = some x →
     x.kind = .member tn.holder →
     s.turn = some tn →
     s.tenancy tn.holder = .holding →
     s.msr.limits.current < pa.val →
     f.val < s.msr.limits.floor ∨ (0 < f.val ∧ 1000 * r.val / f.val < s.msr.limits.rTrip) →
     s.msr.limits.scans ≤ s.msr.overcurrentCount + 1 →
     s.prt.station = .ready →
     s.stationFollows →
     s.settled →
     pt.val ≤ s.msr.limits.temperature →
     s.msr.limits.supplyLow ≤ vs.val ∧ vs.val ≤ s.msr.limits.supplyHigh →
     s.msr.overtemp = false →
     s.msr.supply = false →
     (∀ r ∈ s.prt.faults, r.kind ≠ .paOvercurrent) →
     (s.bringTo s.scanStart).tenthsDue = 0 →
     Answers (.scanCompletion f r pa pt vs) s fun t =>
       (t.prt.station = .tripped ∧ (∃ y ∈ t.prt.faults, y.kind = .paOvercurrent ∧ y.slot = some tn.holder ∧ y.band = h.seq.currentBand ∧
        y.code = some pa ∧ y.last = h.seconds ∧ y.present = true)) ∧
       t.seq.exc = false ∧ t.seq.keyGate = false ∧ t.drv.applied.active = false ∧ t.seq.state ≠ .exciting ∧
       t.holder ≠ some tn.holder ∧ t.tenancy tn.holder = .opened ∧ t.msr.overcurrentCount = 0 ∧
       t.fixed = h.fixed) ∧
  (∀ (f : Code) (r : Code) (pa : Code) (pt : Code) (vs : Code) (s : State),
     let h : State := s.bringTo s.scanStart
     let fs : Option Nat := h.seq.currentBand.map fun i => (h.drv.bands.read i).fullScale
     s.rst = false →
     s.seq.state ≠ .exciting →
     s.msr.overtemp = true →
     s.msr.limits.temperature - s.msr.limits.hysteresis < pt.val ∨ s.msr.overtempCount + 1 < s.msr.limits.scans →
     s.settled →
     pa.val ≤ s.msr.limits.current →
     s.msr.limits.supplyLow ≤ vs.val ∧ vs.val ≤ s.msr.limits.supplyHigh →
     s.msr.supply = false →
     (∀ r ∈ s.prt.faults, r.kind ≠ .paOvercurrent) →
     exec (.scanCompletion f r pa pt vs) s = .next ({ h with msr := { h.msr with
      scan := ⟨f, r, pa, pt, vs, s.scanStart⟩, nextScan := nextScanAfter s.scanStart
      forward := fs.map (f.val * · / 1023), reflected := fs.map (r.val * · / 1023)
      overcurrentCount := 0, supplyCount := 0
      overtempCount := if s.msr.limits.temperature - s.msr.limits.hysteresis < pt.val then 0 else h.msr.overtempCount + 1 } })) ∧
  (∀ (f : Code) (r : Code) (pa : Code) (pt : Code) (vs : Code) (s : State),
     let h : State := s.bringTo s.scanStart
     s.rst = false →
     s.seq.state ≠ .exciting →
     s.msr.overtemp = true →
     pt.val ≤ s.msr.limits.temperature - s.msr.limits.hysteresis →
     s.msr.limits.scans ≤ s.msr.overtempCount + 1 →
     s.prt.station = .held →
     s.stationFollows →
     s.settled →
     pa.val ≤ s.msr.limits.current →
     s.msr.limits.supplyLow ≤ vs.val ∧ vs.val ≤ s.msr.limits.supplyHigh →
     s.msr.supply = false →
     (∀ r ∈ s.prt.faults, r.kind ≠ .paOvercurrent) →
     Answers (.scanCompletion f r pa pt vs) s fun t =>
       t.msr.overtemp = false ∧ t.msr.overtempCount = 0 ∧ t.prt.station = .ready ∧
       (∀ y ∈ t.prt.faults, y.kind = .paOvertemp → y.present = false) ∧
       ((s.arb.arbiter = .free → t.holder = h.winner) ∧ (s.arb.arbiter ≠ .free → t.holder = h.holder) ∧
        h.raised t (.stationChanged .held .ready .holdGone none) ∧ t.fixed = h.fixed)) ∧
  (∀ (f : Code) (r : Code) (pa : Code) (pt : Code) (vs : Code) (s : State),
     let h : State := s.bringTo s.scanStart
     let fs : Option Nat := h.seq.currentBand.map fun i => (h.drv.bands.read i).fullScale
     s.rst = false →
     s.seq.state ≠ .exciting →
     s.msr.supply = true →
     vs.val < s.msr.limits.supplyLow ∨ s.msr.limits.supplyHigh < vs.val ∨ s.msr.supplyCount + 1 < s.msr.limits.scans →
     s.settled →
     pa.val ≤ s.msr.limits.current →
     pt.val ≤ s.msr.limits.temperature →
     s.msr.overtemp = false →
     (∀ r ∈ s.prt.faults, r.kind ≠ .paOvercurrent) →
     exec (.scanCompletion f r pa pt vs) s = .next ({ h with msr := { h.msr with
      scan := ⟨f, r, pa, pt, vs, s.scanStart⟩, nextScan := nextScanAfter s.scanStart
      forward := fs.map (f.val * · / 1023), reflected := fs.map (r.val * · / 1023)
      overcurrentCount := 0, overtempCount := 0
      supplyCount :=
        if vs.val < s.msr.limits.supplyLow ∨ s.msr.limits.supplyHigh < vs.val then 0 else h.msr.supplyCount + 1 } })) ∧
  (∀ (f : Code) (r : Code) (pa : Code) (pt : Code) (vs : Code) (s : State),
     let h : State := s.bringTo s.scanStart
     s.rst = false →
     s.seq.state ≠ .exciting →
     s.msr.supply = true →
     s.msr.limits.supplyLow ≤ vs.val ∧ vs.val ≤ s.msr.limits.supplyHigh →
     s.msr.limits.scans ≤ s.msr.supplyCount + 1 →
     s.prt.station = .held →
     s.stationFollows →
     s.settled →
     pa.val ≤ s.msr.limits.current →
     pt.val ≤ s.msr.limits.temperature →
     s.msr.overtemp = false →
     (∀ r ∈ s.prt.faults, r.kind ≠ .paOvercurrent) →
     Answers (.scanCompletion f r pa pt vs) s fun t =>
       t.msr.supply = false ∧ t.msr.supplyCount = 0 ∧ t.prt.station = .ready ∧
       (∀ y ∈ t.prt.faults, y.kind = .supplyWindow → y.present = false) ∧
       ((s.arb.arbiter = .free → t.holder = h.winner) ∧ (s.arb.arbiter ≠ .free → t.holder = h.holder) ∧
        h.raised t (.stationChanged .held .ready .holdGone none) ∧ t.fixed = h.fixed))

/-- When the interval ends with the identification owed, the due flag is set with the due time, the deadline is the
grace later and ID_DUE is raised; an ACTIVE turn with no transmission running is PAUSED at once and, with SEQ QUIET,
the ID start is taken (ARM_RELAY with TRR and IDM, the captured callsign, speed and power); not owed, only the timer
stops. The quiet timer's end takes an ID turn the same way. The deadline with no transmission running has no further
effect. An element's end keys the next for its units times 1200/speed ms; the last one's end leaves EXCITING with
ID_DONE, clears owed and due, stops the interval, raises ID_SENT and closes the cycle. A cycle in STARTING or SENDING
that is abandoned writes an ABORTED record (count and air time 0 before its EXCITING), becomes IDLE and keeps owed,
due and the interval: at KILLED in an ID turn, which ends in GAP or FREE; at HELD in a PAUSED turn, which keeps its
claim; at an AMP_DROP of its transmission, after which a fresh cycle waits for QUIET in the same turn. The scan that
brings HELD is taken at its start (DEDUCED, log 19); the end with ID_DONE is R61's, and that it clears the PTT demand
is DEDUCED (log 31). An occurrence commanded before its instant brings the clock forward to it (the model's choice,
log 1). (R71, R143, R145, R154, R155, R156, R157, R158, R159, R160, R161, R170) -/
def Obligations.TheStationIdentifies : Prop :=
  (∀ (tm : Timer) (s : State),
     let h : State := s.bringTo tm.due
     s.rst = false →
     s.idu.interval = some tm →
     s.idu.owed = true →
     s.arb.arbiter = .free →
     s.seq.currentBand = none →
     s.marksStand →
     s.settled →
     (s.bringTo tm.due).tenthsDue = 0 →
     exec (.intervalExpiry) s = .next (State.raise (.idDue h.seconds none h.running) { h with idu := { h.idu with
      interval := none, due := true, dueTime := some h.seconds, deadlineAt := h.clock + BitVec.ofNat 32 (h.idu.params.grace * 1000) } })) ∧
  (∀ (tm : Timer) (s : State),
     let h : State := s.bringTo tm.due
     s.rst = false →
     s.idu.interval = some tm →
     s.idu.owed = false →
     s.settled →
     (s.bringTo tm.due).tenthsDue = 0 →
     exec (.intervalExpiry) s = .next ({ h with idu := { h.idu with interval := none } })) ∧
  (∀ (tm : Timer) (tn : Turn) (b : BandId) (c : List Char) (s : State),
     let h : State := s.bringTo tm.due
     s.rst = false →
     s.idu.interval = some tm →
     s.idu.owed = true →
     s.turn = some tn →
     tn.sub = .active →
     s.running = false →
     s.settled →
     s.seq.state = .quiet →
     s.prt.station = .ready →
     s.idu.cycle = .idle →
     s.seq.currentBand = some b →
     s.seq.active.relayOn ≠ 0 →
     s.idu.callsign = some c →
     Answers (.intervalExpiry) s fun t =>
       t.turn = some { tn with sub := .paused, idleStart := none } ∧ t.idu.claim = .holdingPause ∧ t.idu.due = true ∧ t.idu.dueTime = some h.seconds ∧
       h.raised t (.idDue h.seconds (some tn.holder) false) ∧
       t.idu.cycle = .starting ∧ t.seq.state = .armRelay ∧ t.seq.trr = true ∧ t.seq.idm = true ∧
       ((t.seq.tx.map fun y => (y.kind, y.band, y.emission)) = some (.ident, b, .cw)) ∧
       ((t.idu.context.map fun y => (y.callsign, y.speed, y.power)) = some (c, h.idu.params.speed, h.idu.params.power)) ∧
       t.drv = h.drv ∧ t.msr = h.msr ∧ t.prt = h.prt ∧ t.acu = h.acu ∧ t.fixed = h.fixed) ∧
  (∀ (tm : Timer) (b : BandId) (c : List Char) (s : State),
     let h : State := s.bringTo tm.due
     s.rst = false →
     s.idu.quiet = some tm →
     s.arb.arbiter = .free ∨ s.arb.arbiter = .gap →
     s.seq.state = .quiet →
     s.prt.station = .ready →
     s.idu.cycle = .idle →
     s.seq.currentBand = some b →
     s.seq.active.relayOn ≠ 0 →
     s.idu.callsign = some c →
     s.settled →
     Answers (.quietExpiry) s fun t =>
       t.arb.arbiter = .idTurn ∧ t.arb.ranks = h.arb.ranks ∧ t.idu.quiet = none ∧
       t.idu.cycle = .starting ∧ t.seq.state = .armRelay ∧ t.seq.trr = true ∧ t.seq.idm = true ∧
       ((t.seq.tx.map fun y => (y.kind, y.band, y.emission)) = some (.ident, b, .cw)) ∧
       ((t.idu.context.map fun y => (y.callsign, y.speed, y.power)) = some (c, h.idu.params.speed, h.idu.params.power)) ∧
       t.drv = h.drv ∧ t.msr = h.msr ∧ t.prt = h.prt ∧ t.acu = h.acu ∧ t.fixed = h.fixed) ∧
  (∀ (s : State),
     let h : State := s.bringTo s.idu.deadlineAt
     s.rst = false →
     s.idu.deadlineRuns = true →
     s.running = false →
     s.settled →
     (s.bringTo s.idu.deadlineAt).tenthsDue = 0 →
     exec (.deadlineExpiry) s = .next ({ h with idu := { h.idu with deadlineRuns := false } })) ∧
  (∀ (tm : Timer) (y : Cycle) (e : Element) (g : Element) (l : List Element) (s : State),
     let h : State := s.bringTo tm.due
     s.rst = false →
     s.idu.element = some tm →
     s.idu.context = some y →
     y.todo = e :: g :: l →
     s.settled →
     (s.bringTo tm.due).tenthsDue = 0 →
     exec (.idElementTimer) s = .next ({ h with idu := { h.idu with
      context := some { y with todo := g :: l }, element := some ⟨h.clock, g.units * (1200 / y.speed)⟩ } })) ∧
  (∀ (tm : Timer) (y : Cycle) (e : Element) (x : Tx) (s : State),
     let h : State := s.bringTo tm.due
     s.rst = false →
     s.idu.element = some tm →
     s.idu.context = some y →
     y.todo = [e] →
     s.seq.state = .exciting →
     s.seq.tx = some x →
     x.kind = .ident →
     s.seq.active.tail ≠ 0 →
     s.settled →
     (s.bringTo tm.due).tenthsDue = 0 →
     Answers (.idElementTimer) s fun t =>
       h.txEndedAs t x .idDone ∧
       t.idu.cycle = .closing ∧ t.idu.owed = false ∧ t.idu.due = false ∧ t.idu.dueTime = none ∧ t.idu.interval = none ∧ t.idu.element = none ∧
       t.arb = h.arb ∧ t.amg = h.amg ∧ t.msr = h.msr ∧ t.acu = h.acu ∧
       (h.raised t (.idSent y.callsign x.band x.path y.speed (sinceMs h.clock x.excitedAt) (if y.home = .memberTurn then h.holder else none)))) ∧
  (∀ (k : KillInput) (n : Clock) (y : Cycle) (s : State),
     let h : State := s.bringTo (n + 5)
     s.rst = false →
     s.inr.kill = k →
     k.since = some n →
     k.raw = true →
     k.debounced = false →
     s.prt.killLatch = false →
     s.stationFollows →
     s.arb.arbiter = .idTurn →
     s.idu.cycle = .starting ∨ s.idu.cycle = .sending →
     s.idu.context = some y →
     y.home = .idTurn →
     s.settled →
     (s.bringTo (n + 5)).tenthsDue = 0 →
     Answers (.killDebounceExpiry) s fun t =>
       (h.acu.number < max32 → t.acu.number = h.acu.number + 1 ∧ t.acu.records.getLast? = some ⟨h.acu.number + 1, true, none, none, none,
          h.seq.currentBand, .cw, y.startTime, h.seconds - y.startTime, if y.entered then 1 else 0,
          if y.entered then (h.seq.tx.map (·.airTime)).getD 0 else 0, .aborted⟩) ∧
       t.idu.cycle = .idle ∧ t.idu.context = none ∧ t.idu.startWaits = false ∧
       t.idu.owed = h.idu.owed ∧ t.idu.due = h.idu.due ∧ t.idu.dueTime = h.idu.dueTime ∧ t.idu.interval = h.idu.interval ∧
       (t.prt.station = .killed ∧ t.arb.arbiter = if h.arb.gap = none then .free else .gap)) ∧
  (∀ (f : Code) (r : Code) (pa : Code) (pt : Code) (vs : Code) (y : Cycle) (tn : Turn) (s : State),
     let h : State := s.bringTo s.scanStart
     s.rst = false →
     s.seq.state ≠ .exciting →
     s.msr.overtemp = false →
     s.msr.limits.temperature < pt.val →
     s.msr.limits.scans ≤ s.msr.overtempCount + 1 →
     s.prt.station = .ready →
     s.stationFollows →
     s.turn = some tn →
     tn.sub = .paused →
     s.idu.claim = .holdingPause →
     s.seq.queuedRetune = none →
     s.idu.cycle = .starting ∨ s.idu.cycle = .sending →
     s.idu.context = some y →
     y.home = .memberTurn →
     s.settled →
     pa.val ≤ s.msr.limits.current →
     s.msr.limits.supplyLow ≤ vs.val ∧ vs.val ≤ s.msr.limits.supplyHigh →
     s.msr.supply = false →
     (∀ r ∈ s.prt.faults, r.kind ≠ .paOvercurrent) →
     Answers (.scanCompletion f r pa pt vs) s fun t =>
       (h.acu.number < max32 → t.acu.number = h.acu.number + 1 ∧ t.acu.records.getLast? = some ⟨h.acu.number + 1, true, none, none, none,
          h.seq.currentBand, .cw, y.startTime, h.seconds - y.startTime, if y.entered then 1 else 0,
          if y.entered then (h.seq.tx.map (·.airTime)).getD 0 else 0, .aborted⟩) ∧
       t.idu.cycle = .idle ∧ t.idu.context = none ∧ t.idu.startWaits = false ∧ t.idu.claim = .holdingPause ∧
       t.idu.owed = h.idu.owed ∧ t.idu.due = h.idu.due ∧ t.idu.dueTime = h.idu.dueTime ∧ t.idu.interval = h.idu.interval ∧
       t.prt.station = .held ∧ t.turn = some { tn with pendingStart := false }) ∧
  (∀ (i : InputId) (y : Input) (n : Clock) (x : Tx) (z : Cycle) (s : State),
     let h : State := s.bringTo (n + BitVec.ofNat 32 y.debounce)
     s.rst = false →
     s.inr.inputs.read i = y →
     y.since = some n →
     y.function = .ampReady →
     y.trigger = .level →
     s.functionActive .ampReady = true →
     ({ y with debounced := y.raw }).active = false →
     (∀ j, j ≠ i → (s.inr.inputs.read j).function = .ampReady → (s.inr.inputs.read j).active = false) →
     s.amg.state = .on →
     s.stationFollows →
     s.seq.tx = some x →
     x.kind = .ident →
     x.path = .amplified →
     s.seq.state = .exciting →
     s.seq.ampkey = true →
     s.seq.active.ampOff ≠ 0 →
     s.idu.cycle = .sending →
     s.idu.context = some z →
     s.settled →
     (s.bringTo (n + BitVec.ofNat 32 y.debounce)).tenthsDue = 0 →
     Answers (.debounceExpiry i) s fun t =>
       (h.acu.number < max32 → t.acu.number = h.acu.number + 1 ∧ t.acu.records.getLast? = some ⟨h.acu.number + 1, true, none, none, none,
          h.seq.currentBand, .cw, z.startTime, h.seconds - z.startTime, if z.entered then 1 else 0,
          if z.entered then (h.seq.tx.map (·.airTime)).getD 0 else 0, .aborted⟩) ∧
       t.idu.cycle = .starting ∧ t.idu.startWaits = true ∧ t.idu.context = some ⟨h.seconds, [], 0, 0, z.home, [], false⟩ ∧
       t.idu.owed = h.idu.owed ∧ t.idu.due = h.idu.due ∧ t.idu.dueTime = h.idu.dueTime ∧ t.idu.interval = h.idu.interval ∧
       t.seq.state = .disarmAmp ∧ t.seq.exc = false ∧ t.amg.state = .failed ∧ t.holder = h.holder ∧ t.prt.station = h.prt.station)

/-- Whenever the clock advances, station seconds gain 1 for each 1,000 ms since the last second. STATION_SECOND_TICK
less than 1 s after the last second brings the clock to the next one, which is counted. AIR_TIME_TENTH counts the
complete tenths (one, taken at its instant): they join the transmission's air time and, for the holder's, the turn's
and the slot's air time used; the tenth that exhausts the slot is the last counted, ends the transmission (ALLOWANCE)
and the turn, leaves the slot OPEN and raises ALLOWANCE_EXHAUSTED; an ID transmission counts its own air time alone.
RESIDENCY_TENTH of a counter whose condition holds adds 1 after the ms that were still missing, which pass (the
model's choice, logs 1 and 8), and a tenth that stands complete is added at once (the model's choice, log 8). A
request, a change of an input, a scan, a residency tenth and the transmission limit find every complete tenth of air
time counted, with what follows from it; a limit that this stops does nothing (DEDUCED from R172, log 1). That
STATION_SECOND_TICK, AIR_TIME_TENTH, a scan and a limit commanded before their instants bring the clock forward is the
model's choice (log 1), and a scan's instant is its start (DEDUCED, log 19). (R1, R165, R166, R168, R172) -/
def Obligations.TimeIsCounted : Prop :=
  (∀ (n : Nat) (s : State),
     (s.elapse n).clock = s.clock + BitVec.ofNat 32 n ∧
    (s.elapse n).seconds = s.seconds + BitVec.ofNat 32 ((s.clock + BitVec.ofNat 32 n - s.secondAt).toNat / 1000) ∧
    ((s.elapse n).clock - (s.elapse n).secondAt).toNat < 1000) ∧
  (∀ (s : State),
     s.rst = false →
     (s.clock - s.secondAt).toNat < 1000 →
     (s.bringTo (s.secondAt + 1000)).tenthsDue = 0 →
     Answers (.stationSecondTick) s fun t =>
       t.seconds = s.seconds + 1 ∧ t.secondAt = s.secondAt + 1000 ∧ t.clock = s.secondAt + 1000 ∧
       { t with clock := s.clock, seconds := s.seconds, secondAt := s.secondAt, acu := s.acu } = s ∧
       { t.acu with counters := s.acu.counters } = s.acu) ∧
  (∀ (x : Tx) (w : SlotId) (tn : Turn) (k : Nat) (s : State),
     let h : State := s.bringTo (x.excitedAt + BitVec.ofNat 32 (100 * (x.airTime + 1)))
     s.rst = false →
     s.memberExciting = true →
     s.seq.tx = some x →
     s.turn = some tn →
     tn.holder = w →
     0 < k →
     h.tenthsDue = k →
     (∀ a ∈ (s.identity w).allowance, s.acu.used.read w + k < 10 * a) →
     s.settled →
     exec (.airTimeTenth) s = .next ({ h with
      seq := { h.seq with tx := some { x with airTime := x.airTime + k } }
      arb := { h.arb with arbiter := .turn { tn with airTime := tn.airTime + k } }
      acu := { h.acu with used := h.acu.used.write w (min 4294967295 (h.acu.used.read w + k)) } })) ∧
  (∀ (x : Tx) (w : SlotId) (tn : Turn) (k : Nat) (a : Nat) (s : State),
     let h : State := s.bringTo (x.excitedAt + BitVec.ofNat 32 (100 * (x.airTime + 1)))
     s.rst = false →
     s.memberExciting = true →
     s.seq.tx = some x →
     s.turn = some tn →
     tn.holder = w →
     s.oneHolder →
     0 < k →
     h.tenthsDue = k →
     (s.identity w).allowance = some a →
     a ≤ 86400 →
     s.acu.used.read w < 10 * a →
     10 * a ≤ s.acu.used.read w + k →
     s.seq.active.tail ≠ 0 →
     s.settled →
     Answers (.airTimeTenth) s fun t =>
       t.acu.used.read w = 10 * a ∧ t.tenancy w = .opened ∧ t.holder ≠ some w ∧
       t.seq.state = .drain ∧ t.seq.exc = false ∧ t.drv.applied.active = false ∧
       h.raised t (.txEnded x.kind .allowance (x.airTime + (10 * a - h.acu.used.read w)) h.msr.peak) ∧ h.raised t (.turnEnded w .allowance false) ∧
       h.raised t (.allowanceExhausted w a (10 * a) .opened)) ∧
  (∀ (x : Tx) (k : Nat) (s : State),
     let h : State := s.bringTo (x.excitedAt + BitVec.ofNat 32 (100 * (x.airTime + 1)))
     s.rst = false →
     s.seq.state = .exciting →
     s.seq.tx = some x →
     s.memberTx = false →
     0 < k →
     h.tenthsDue = k →
     s.settled →
     exec (.airTimeTenth) s = .next ({ h with seq := { h.seq with tx := some { x with airTime := x.airTime + k } } })) ∧
  (∀ (q : Residency) (s : State),
     s.rst = false →
     s.resides q = true →
     (s.acu.counters.read (resIndex q)).owed = 0 →
     (s.acu.counters.read (resIndex q)).value + 1 < 4294967295 →
     (s.acu.counters.read (resIndex q)).remainder < 100 →
     (s.elapse (100 - (s.acu.counters.read (resIndex q)).remainder)).tenthsDue = 0 →
     Answers (.residencyTenth q) s fun t =>
       t.acu.counters.read (resIndex q) = ⟨(s.acu.counters.read (resIndex q)).value + 1, 0, 0⟩ ∧
       t.clock = s.clock + BitVec.ofNat 32 (100 - (s.acu.counters.read (resIndex q)).remainder) ∧
       { t with acu := s.acu, clock := s.clock, seconds := s.seconds, secondAt := s.secondAt } = s) ∧
  (∀ (q : Residency) (k : Counter) (s : State),
     s.rst = false →
     s.tenthsDue = 0 →
     s.acu.counters.read (resIndex q) = k →
     0 < k.owed →
     k.value + 1 < 4294967295 →
     exec (.residencyTenth q) s = .next ({ s with acu := { s.acu with counters := s.acu.counters.write (resIndex q) ⟨k.value + 1, k.remainder, k.owed - 1⟩ } })) ∧
  (∀ (c : Instr) (q : Asked) (d : Clock) (s : State),
     let u : State := s.onTime
     asked c = some q →
     s.closed = false →
     s.tenthDue = some d →
     reached s.clock d = true →
     s.tenthsDue ≠ 0 →
     u.tenthsDue = 0 →
     exec .airTimeTenth s = .next u ∧ exec c s = exec c u) ∧
  (∀ (c : LevelChange) (d : Clock) (s : State),
     let u : State := s.onTime
     s.rst = false →
     s.tenthDue = some d →
     reached s.clock d = true →
     s.tenthsDue ≠ 0 →
     u.tenthsDue = 0 →
     exec (.inputLevelChange c) s = exec (.inputLevelChange c) u) ∧
  (∀ (q : Residency) (d : Clock) (s : State),
     let u : State := s.onTime
     s.rst = false →
     0 < (s.acu.counters.read (resIndex q)).owed →
     s.tenthDue = some d →
     reached s.clock d = true →
     s.tenthsDue ≠ 0 →
     u.tenthsDue = 0 →
     exec (.residencyTenth q) s = exec (.residencyTenth q) u) ∧
  (∀ (f : Code) (r : Code) (pa : Code) (pt : Code) (vs : Code) (d : Clock) (s : State),
     let h : State := s.bringTo s.scanStart
     let u : State := h.onTime
     s.rst = false →
     h.tenthDue = some d →
     reached h.clock d = true →
     h.tenthsDue ≠ 0 →
     u.tenthsDue = 0 →
     exec (.scanCompletion f r pa pt vs) s = exec (.scanCompletion f r pa pt vs) u) ∧
  (∀ (tm : Timer) (d : Clock) (s : State),
     let h : State := s.bringTo tm.due
     let u : State := h.onTime
     s.rst = false →
     s.limitTimer = some tm →
     h.tenthDue = some d →
     reached h.clock d = true →
     h.tenthsDue ≠ 0 →
     u.tenthsDue = 0 →
     exec .txLimitExpiry s = if (u.limitTimer.map Timer.due) = some tm.due then exec .txLimitExpiry u else .next u)

/-- A raw level that differs from the debounced one starts the stability measure (debounce not 0), one that equals it
stops the measure, also when the measure has reached the debounce and its row has not come (the model's choice, log
51); at the measure's end the debounced level takes the raw one. With the input routed to no function nothing else
changes. EXT_FAULT becoming active on a READY station records the fault and gives TRIPPED with no turn; becoming
inactive it only clears the record's condition. LOCAL_REQUEST (LEVEL) or LOCAL_PTT becoming active with slot 0 OPEN
and permitted, outside FREE, makes slot 0 WAITING with the local defaults; not permitted, it raises REQUEST_DROPPED
(LOCAL_REFUSED); becoming inactive while slot 0 still waits with that origin, it makes slot 0 OPEN and raises
SPURIOUS_LOCAL. KILL asserted after its 5 ms sets the kill latch: the station is KILLED, the turn is gone, no slot
waits and nothing is armed or on the air. An occurrence commanded before its instant brings the clock forward to it
(the model's choice, log 1). (R45, R46, R135, R137, R140, R143, R144, R173, R175, R176, R178, R179) -/
def Obligations.InputsAreDebounced : Prop :=
  (∀ (i : InputId) (y : Input) (s : State),
     s.rst = false →
     s.inr.inputs.read i = y →
     y.since = none →
     y.debounce ≠ 0 →
     s.tenthsDue = 0 →
     s.settled →
     exec (.inputLevelChange (.wired i (!y.debounced))) s = .next ({ s with inr := { s.inr with inputs := s.inr.inputs.write i { y with raw := !y.debounced, since := some s.clock } } })) ∧
  (∀ (i : InputId) (y : Input) (s : State),
     s.rst = false →
     s.inr.inputs.read i = y →
     s.tenthsDue = 0 →
     s.settled →
     exec (.inputLevelChange (.wired i y.debounced)) s = .next ({ s with inr := { s.inr with inputs := s.inr.inputs.write i { y with raw := y.debounced, since := none } } })) ∧
  (∀ (i : InputId) (y : Input) (n : Clock) (s : State),
     let h : State := s.bringTo (n + BitVec.ofNat 32 y.debounce)
     s.rst = false →
     s.inr.inputs.read i = y →
     y.since = some n →
     y.function = .none →
     s.settled →
     (s.bringTo (n + BitVec.ofNat 32 y.debounce)).tenthsDue = 0 →
     exec (.debounceExpiry i) s = .next ({ h with inr := { h.inr with inputs := h.inr.inputs.write i { y with debounced := y.raw, since := none } } })) ∧
  (∀ (i : InputId) (y : Input) (n : Clock) (s : State),
     let h : State := s.bringTo (n + BitVec.ofNat 32 y.debounce)
     s.rst = false →
     s.inr.inputs.read i = y →
     y.since = some n →
     y.function = .extFault →
     y.trigger = .level →
     y.raw = true →
     y.debounced = false →
     y.polarity = .activeHigh →
     s.functionActive .extFault = false →
     s.prt.station = .ready →
     s.stationFollows →
     s.oneHolder →
     (s.bringTo (n + BitVec.ofNat 32 y.debounce)).tenthsDue = 0 →
     Answers (.debounceExpiry i) s fun t =>
       (t.prt.station = .tripped ∧ (∃ r ∈ t.prt.faults, r.kind = .extFault ∧ r.last = h.seconds)) ∧
       t.holder = none ∧ t.arming = false ∧ t.seq.state ≠ .exciting ∧
       (t.inr.inputs.read i).debounced = true ∧ h.raised t (.stationChanged .ready .tripped .trip (some .extFault)) ∧
       { t.fixed with inr := h.inr } = h.fixed) ∧
  (∀ (i : InputId) (y : Input) (n : Clock) (f : InputFunction) (o : Origin) (s : State),
     let h : State := s.bringTo (n + BitVec.ofNat 32 y.debounce)
     let u : State := { h with inr := { h.inr with inputs := h.inr.inputs.write i { y with debounced := y.raw, since := none } } }
     s.rst = false →
     s.inr.inputs.read i = y →
     y.since = some n →
     y.trigger = .level →
     f = .localPtt ∧ o = .localPtt ∨ f = .localRequest ∧ o = .localRequestLevel →
     y.function = f →
     s.functionActive f = false →
     ({ y with debounced := y.raw }).active = true →
     s.tenancy 0 = .opened →
     s.oneHolder →
     s.arb.arbiter ≠ .free →
     s.permit 0 s.arb.defaultBand s.arb.defaultEmission = true →
     s.exhausted 0 = false →
     s.settled →
     (s.bringTo (n + BitVec.ofNat 32 y.debounce)).tenthsDue = 0 →
     exec (.debounceExpiry i) s = .next ({ u with
      arb := { h.arb with
        slots := h.arb.slots.write 0 (.waiting ⟨h.arb.defaultBand, h.arb.defaultEmission, h.arb.defaultPower, .once, o, false⟩) } })) ∧
  (∀ (i : InputId) (y : Input) (n : Clock) (f : InputFunction) (o : Origin) (s : State),
     let h : State := s.bringTo (n + BitVec.ofNat 32 y.debounce)
     let u : State := { h with inr := { h.inr with inputs := h.inr.inputs.write i { y with debounced := y.raw, since := none } } }
     s.rst = false →
     s.inr.inputs.read i = y →
     y.since = some n →
     y.trigger = .level →
     f = .localPtt ∧ o = .localPtt ∨ f = .localRequest ∧ o = .localRequestLevel →
     y.function = f →
     s.functionActive f = false →
     ({ y with debounced := y.raw }).active = true →
     s.tenancy 0 = .opened →
     s.oneHolder →
     s.permit 0 s.arb.defaultBand s.arb.defaultEmission = false →
     s.settled →
     (s.bringTo (n + BitVec.ofNat 32 y.debounce)).tenthsDue = 0 →
     exec (.debounceExpiry i) s = .next (State.raise (.requestDropped 0 .localRefused (some .notPermitted)) u)) ∧
  (∀ (i : InputId) (y : Input) (n : Clock) (f : InputFunction) (o : Origin) (r : RequestRec) (s : State),
     let h : State := s.bringTo (n + BitVec.ofNat 32 y.debounce)
     let u : State := { h with inr := { h.inr with inputs := h.inr.inputs.write i { y with debounced := y.raw, since := none } } }
     s.rst = false →
     s.inr.inputs.read i = y →
     y.since = some n →
     y.trigger = .level →
     f = .localPtt ∧ o = .localPtt ∨ f = .localRequest ∧ o = .localRequestLevel →
     y.function = f →
     s.functionActive f = true →
     ({ y with debounced := y.raw }).active = false →
     (∀ j, j ≠ i → (s.inr.inputs.read j).function = f → (s.inr.inputs.read j).active = false) →
     s.tenancy 0 = .waiting r →
     r.origin = o →
     s.oneHolder →
     s.settled →
     (s.bringTo (n + BitVec.ofNat 32 y.debounce)).tenthsDue = 0 →
     exec (.debounceExpiry i) s = .next (State.raise (.spuriousLocal o) { u with arb := { h.arb with slots := h.arb.slots.write 0 .opened } })) ∧
  (∀ (i : InputId) (y : Input) (n : Clock) (f : InputFunction) (s : State),
     let h : State := s.bringTo (n + BitVec.ofNat 32 y.debounce)
     let u : State := { h with inr := { h.inr with inputs := h.inr.inputs.write i { y with debounced := y.raw, since := none } } }
     s.rst = false →
     s.inr.inputs.read i = y →
     y.since = some n →
     y.trigger = .level →
     f = .extFault →
     y.function = f →
     s.functionActive f = true →
     ({ y with debounced := y.raw }).active = false →
     (∀ j, j ≠ i → (s.inr.inputs.read j).function = f → (s.inr.inputs.read j).active = false) →
     s.settled →
     (s.bringTo (n + BitVec.ofNat 32 y.debounce)).tenthsDue = 0 →
     exec (.debounceExpiry i) s = .next ({ u with prt := { h.prt with faults := h.prt.faults.map fun r => if r.kind = .extFault then { r with present := false } else r } })) ∧
  (∀ (k : KillInput) (s : State),
     s.rst = false →
     s.inr.kill = k →
     k.since = none →
     s.tenthsDue = 0 →
     s.settled →
     exec (.inputLevelChange (.kill (!k.debounced))) s = .next ({ s with inr := { s.inr with kill := { k with raw := !k.debounced, since := some s.clock } } })) ∧
  (∀ (k : KillInput) (n : Clock) (s : State),
     let h : State := s.bringTo (n + 5)
     s.rst = false →
     s.inr.kill = k →
     k.since = some n →
     k.raw = true →
     k.debounced = false →
     s.prt.killLatch = false →
     s.stationFollows →
     s.oneHolder →
     s.idu.due = false →
     (s.bringTo (n + 5)).tenthsDue = 0 →
     Answers (.killDebounceExpiry) s fun t =>
       t.prt.killLatch = true ∧ t.prt.station = .killed ∧ t.inr.kill = ⟨true, true, none⟩ ∧
       (t.holder = none ∧ (∀ w, t.tenancy w = if h.tenancy w = .vacant then .vacant else .opened)) ∧
       t.arming = false ∧ t.seq.state ≠ .exciting ∧
       { t.fixed with inr := h.inr, latch := h.fixed.latch } = h.fixed) ∧
  (∀ (k : KillInput) (n : Clock) (s : State),
     let h : State := s.bringTo (n + 5)
     s.rst = false →
     s.inr.kill = k →
     k.since = some n →
     k.raw = false →
     s.settled →
     (s.bringTo (n + 5)).tenthsDue = 0 →
     exec (.killDebounceExpiry) s = .next ({ h with inr := { h.inr with kill := ⟨false, false, none⟩ } }))

/-- R113 whole. For a context of eight points with powers rising from 1 W and codes not falling, up to 255: at or
below P_0 the code is floor((2 D_0 P + P_0)/(2 P_0)); between P_k and P_(k+1) it is D_k + floor((2N + delta)/(2
delta)); above P_7 it is D_7; it is always 0 to 255 and lies between D_k and D_(k+1) there; a P_eff of 0 gives 0, and
so does an empty context. A computation of the drive stores the code with P_eff in the applied-power state, which is
what DRIVE shows. (R113) -/
def Obligations.DriveCodesInterpolate : Prop :=
  (∀ (p : Table 8 Point) (n : Nat),
     (∀ k : Fin 8, 1 ≤ (p.read k).power ∧ (p.read k).code ≤ 255) →
     (∀ k : Fin 7, (p.read k.castSucc).power < (p.read k.succ).power ∧ (p.read k.castSucc).code ≤ (p.read k.succ).code) →
     driveCode (some p) n ≤ 255 ∧ driveCode (some p) 0 = 0 ∧
    (n ≤ (p.read 0).power → driveCode (some p) n = (2 * (p.read 0).code * n + (p.read 0).power) / (2 * (p.read 0).power)) ∧
    ((p.read 7).power < n → driveCode (some p) n = (p.read 7).code) ∧
    ∀ k : Fin 7, (p.read k.castSucc).power < n → n ≤ (p.read k.succ).power →
      driveCode (some p) n = (p.read k.castSucc).code +
        (2 * (((p.read k.succ).code - (p.read k.castSucc).code) * (n - (p.read k.castSucc).power)) +
          ((p.read k.succ).power - (p.read k.castSucc).power)) / (2 * ((p.read k.succ).power - (p.read k.castSucc).power)) ∧
      (p.read k.castSucc).code ≤ driveCode (some p) n ∧ driveCode (some p) n ≤ (p.read k.succ).code) ∧
  (∀ (n : Nat),
     driveCode none n = 0) ∧
  (∀ (x : Tx) (n : Nat) (s : State),
     s.seq.tx = some x →
     s.txTarget x = some n →
     s.computeDrive.drv.applied.effective = n * s.msr.factor / 256 ∧
    s.computeDrive.drv.applied.drive = driveCode (s.context x.band x.path) (n * s.msr.factor / 256) ∧
    s.computeDrive.driveDuty = s.computeDrive.drv.applied.drive + 1)

end
end

