-- ==== Sys2Proof/Laws/Table.lean ====
section
/-! SUPPORT. Reading a table after a write, and the numbers below a bound. -/

namespace Sys2Proof

namespace Table

variable {n : Nat} {α : Type}

@[simp] theorem read_write_same (t : Table n α) (i : Fin n) (a : α) : (t.write i a).read i = a := by
  unfold read write Vector.get Vector.set
  simp

theorem read_write_other (t : Table n α) {i j : Fin n} (a : α) (h : j ≠ i) : (t.write i a).read j = t.read j := by
  have : ¬i.val = j.val := fun e => h (Fin.ext e.symm)
  unfold read write Vector.get Vector.set
  simp only [Fin.val_cast, Array.getElem_set, this, if_false]

theorem read_write (t : Table n α) (i j : Fin n) (a : α) :
    (t.write i a).read j = if j = i then a else t.read j := by
  split
  · rename_i h; subst h; exact read_write_same ..
  · exact read_write_other _ _ ‹_›

@[simp] theorem read_build (f : Fin n → α) (i : Fin n) : (build f).read i = f i := by
  unfold read build Vector.get
  simp

/-- Two tables with the same entries are the same. -/
theorem ext {t u : Table n α} (h : ∀ i, t.read i = u.read i) : t = u := by
  apply Vector.ext
  intro i hi
  exact h ⟨i, hi⟩

end Table

@[simp] theorem mem_numbers {n : Nat} (i : Fin n) : i ∈ numbers n := by simp [numbers]

@[simp] theorem length_numbers (n : Nat) : (numbers n).length = n := by simp [numbers]

/-- A clamped setting is in its range. -/
theorem clamp_mem {lo hi : Nat} (h : lo ≤ hi) (x : Nat) : lo ≤ clamp lo hi x ∧ clamp lo hi x ≤ hi := by
  unfold clamp; omega

/-- A setting within its range is stored as it is. -/
theorem clamp_of_mem {lo hi x : Nat} (h1 : lo ≤ x) (h2 : x ≤ hi) : clamp lo hi x = x := by
  unfold clamp; omega

end Sys2Proof
end

