-- ==== Sys2Proof/Laws/State.lean ====
section
/-! SUPPORT. What each update of the state leaves, field by field: one lemma for each block and each shared update that
does not touch it, and what the touched part reads afterwards. -/

namespace Sys2Proof.Machine

/-! ### Blocks that an update leaves alone -/

@[simp] theorem State.setTenancy_clock (w : SlotId) (x : Tenancy) (s : State) :
    (s.setTenancy w x).clock = s.clock := rfl
@[simp] theorem State.setTenancy_seconds (w : SlotId) (x : Tenancy) (s : State) :
    (s.setTenancy w x).seconds = s.seconds := rfl
@[simp] theorem State.setTenancy_secondAt (w : SlotId) (x : Tenancy) (s : State) :
    (s.setTenancy w x).secondAt = s.secondAt := rfl
@[simp] theorem State.setTenancy_rst (w : SlotId) (x : Tenancy) (s : State) : (s.setTenancy w x).rst = s.rst := rfl
@[simp] theorem State.setTenancy_lnk (w : SlotId) (x : Tenancy) (s : State) : (s.setTenancy w x).lnk = s.lnk := rfl
@[simp] theorem State.setTenancy_clt (w : SlotId) (x : Tenancy) (s : State) : (s.setTenancy w x).clt = s.clt := rfl
@[simp] theorem State.setTenancy_seq (w : SlotId) (x : Tenancy) (s : State) : (s.setTenancy w x).seq = s.seq := rfl
@[simp] theorem State.setTenancy_ktl (w : SlotId) (x : Tenancy) (s : State) : (s.setTenancy w x).ktl = s.ktl := rfl
@[simp] theorem State.setTenancy_drv (w : SlotId) (x : Tenancy) (s : State) : (s.setTenancy w x).drv = s.drv := rfl
@[simp] theorem State.setTenancy_amg (w : SlotId) (x : Tenancy) (s : State) : (s.setTenancy w x).amg = s.amg := rfl
@[simp] theorem State.setTenancy_msr (w : SlotId) (x : Tenancy) (s : State) : (s.setTenancy w x).msr = s.msr := rfl
@[simp] theorem State.setTenancy_prt (w : SlotId) (x : Tenancy) (s : State) : (s.setTenancy w x).prt = s.prt := rfl
@[simp] theorem State.setTenancy_idu (w : SlotId) (x : Tenancy) (s : State) : (s.setTenancy w x).idu = s.idu := rfl
@[simp] theorem State.setTenancy_acu (w : SlotId) (x : Tenancy) (s : State) : (s.setTenancy w x).acu = s.acu := rfl
@[simp] theorem State.setTenancy_inr (w : SlotId) (x : Tenancy) (s : State) : (s.setTenancy w x).inr = s.inr := rfl
@[simp] theorem State.setTenancy_pending (w : SlotId) (x : Tenancy) (s : State) :
    (s.setTenancy w x).pending = s.pending := rfl

@[simp] theorem State.setIdentity_clock (w : SlotId) (x : Identity) (s : State) :
    (s.setIdentity w x).clock = s.clock := rfl
@[simp] theorem State.setIdentity_seconds (w : SlotId) (x : Identity) (s : State) :
    (s.setIdentity w x).seconds = s.seconds := rfl
@[simp] theorem State.setIdentity_secondAt (w : SlotId) (x : Identity) (s : State) :
    (s.setIdentity w x).secondAt = s.secondAt := rfl
@[simp] theorem State.setIdentity_rst (w : SlotId) (x : Identity) (s : State) : (s.setIdentity w x).rst = s.rst := rfl
@[simp] theorem State.setIdentity_lnk (w : SlotId) (x : Identity) (s : State) : (s.setIdentity w x).lnk = s.lnk := rfl
@[simp] theorem State.setIdentity_arb (w : SlotId) (x : Identity) (s : State) : (s.setIdentity w x).arb = s.arb := rfl
@[simp] theorem State.setIdentity_seq (w : SlotId) (x : Identity) (s : State) : (s.setIdentity w x).seq = s.seq := rfl
@[simp] theorem State.setIdentity_ktl (w : SlotId) (x : Identity) (s : State) : (s.setIdentity w x).ktl = s.ktl := rfl
@[simp] theorem State.setIdentity_drv (w : SlotId) (x : Identity) (s : State) : (s.setIdentity w x).drv = s.drv := rfl
@[simp] theorem State.setIdentity_amg (w : SlotId) (x : Identity) (s : State) : (s.setIdentity w x).amg = s.amg := rfl
@[simp] theorem State.setIdentity_msr (w : SlotId) (x : Identity) (s : State) : (s.setIdentity w x).msr = s.msr := rfl
@[simp] theorem State.setIdentity_prt (w : SlotId) (x : Identity) (s : State) : (s.setIdentity w x).prt = s.prt := rfl
@[simp] theorem State.setIdentity_idu (w : SlotId) (x : Identity) (s : State) : (s.setIdentity w x).idu = s.idu := rfl
@[simp] theorem State.setIdentity_acu (w : SlotId) (x : Identity) (s : State) : (s.setIdentity w x).acu = s.acu := rfl
@[simp] theorem State.setIdentity_inr (w : SlotId) (x : Identity) (s : State) : (s.setIdentity w x).inr = s.inr := rfl
@[simp] theorem State.setIdentity_pending (w : SlotId) (x : Identity) (s : State) :
    (s.setIdentity w x).pending = s.pending := rfl

@[simp] theorem State.stopPresence_clock (w : SlotId) (s : State) : (s.stopPresence w).clock = s.clock := rfl
@[simp] theorem State.stopPresence_seconds (w : SlotId) (s : State) : (s.stopPresence w).seconds = s.seconds := rfl
@[simp] theorem State.stopPresence_secondAt (w : SlotId) (s : State) : (s.stopPresence w).secondAt = s.secondAt := rfl
@[simp] theorem State.stopPresence_rst (w : SlotId) (s : State) : (s.stopPresence w).rst = s.rst := rfl
@[simp] theorem State.stopPresence_lnk (w : SlotId) (s : State) : (s.stopPresence w).lnk = s.lnk := rfl
@[simp] theorem State.stopPresence_clt (w : SlotId) (s : State) : (s.stopPresence w).clt = s.clt := rfl
@[simp] theorem State.stopPresence_seq (w : SlotId) (s : State) : (s.stopPresence w).seq = s.seq := rfl
@[simp] theorem State.stopPresence_ktl (w : SlotId) (s : State) : (s.stopPresence w).ktl = s.ktl := rfl
@[simp] theorem State.stopPresence_drv (w : SlotId) (s : State) : (s.stopPresence w).drv = s.drv := rfl
@[simp] theorem State.stopPresence_amg (w : SlotId) (s : State) : (s.stopPresence w).amg = s.amg := rfl
@[simp] theorem State.stopPresence_msr (w : SlotId) (s : State) : (s.stopPresence w).msr = s.msr := rfl
@[simp] theorem State.stopPresence_prt (w : SlotId) (s : State) : (s.stopPresence w).prt = s.prt := rfl
@[simp] theorem State.stopPresence_idu (w : SlotId) (s : State) : (s.stopPresence w).idu = s.idu := rfl
@[simp] theorem State.stopPresence_acu (w : SlotId) (s : State) : (s.stopPresence w).acu = s.acu := rfl
@[simp] theorem State.stopPresence_inr (w : SlotId) (s : State) : (s.stopPresence w).inr = s.inr := rfl
@[simp] theorem State.stopPresence_pending (w : SlotId) (s : State) : (s.stopPresence w).pending = s.pending := rfl

@[simp] theorem State.setArbiter_clock (a : Arbiter) (s : State) : (s.setArbiter a).clock = s.clock := rfl
@[simp] theorem State.setArbiter_seconds (a : Arbiter) (s : State) : (s.setArbiter a).seconds = s.seconds := rfl
@[simp] theorem State.setArbiter_secondAt (a : Arbiter) (s : State) : (s.setArbiter a).secondAt = s.secondAt := rfl
@[simp] theorem State.setArbiter_rst (a : Arbiter) (s : State) : (s.setArbiter a).rst = s.rst := rfl
@[simp] theorem State.setArbiter_lnk (a : Arbiter) (s : State) : (s.setArbiter a).lnk = s.lnk := rfl
@[simp] theorem State.setArbiter_clt (a : Arbiter) (s : State) : (s.setArbiter a).clt = s.clt := rfl
@[simp] theorem State.setArbiter_seq (a : Arbiter) (s : State) : (s.setArbiter a).seq = s.seq := rfl
@[simp] theorem State.setArbiter_ktl (a : Arbiter) (s : State) : (s.setArbiter a).ktl = s.ktl := rfl
@[simp] theorem State.setArbiter_drv (a : Arbiter) (s : State) : (s.setArbiter a).drv = s.drv := rfl
@[simp] theorem State.setArbiter_amg (a : Arbiter) (s : State) : (s.setArbiter a).amg = s.amg := rfl
@[simp] theorem State.setArbiter_msr (a : Arbiter) (s : State) : (s.setArbiter a).msr = s.msr := rfl
@[simp] theorem State.setArbiter_prt (a : Arbiter) (s : State) : (s.setArbiter a).prt = s.prt := rfl
@[simp] theorem State.setArbiter_idu (a : Arbiter) (s : State) : (s.setArbiter a).idu = s.idu := rfl
@[simp] theorem State.setArbiter_acu (a : Arbiter) (s : State) : (s.setArbiter a).acu = s.acu := rfl
@[simp] theorem State.setArbiter_inr (a : Arbiter) (s : State) : (s.setArbiter a).inr = s.inr := rfl
@[simp] theorem State.setArbiter_pending (a : Arbiter) (s : State) : (s.setArbiter a).pending = s.pending := rfl

@[simp] theorem State.stopGap_clock (s : State) : (s.stopGap).clock = s.clock := rfl
@[simp] theorem State.stopGap_seconds (s : State) : (s.stopGap).seconds = s.seconds := rfl
@[simp] theorem State.stopGap_secondAt (s : State) : (s.stopGap).secondAt = s.secondAt := rfl
@[simp] theorem State.stopGap_rst (s : State) : (s.stopGap).rst = s.rst := rfl
@[simp] theorem State.stopGap_lnk (s : State) : (s.stopGap).lnk = s.lnk := rfl
@[simp] theorem State.stopGap_clt (s : State) : (s.stopGap).clt = s.clt := rfl
@[simp] theorem State.stopGap_seq (s : State) : (s.stopGap).seq = s.seq := rfl
@[simp] theorem State.stopGap_ktl (s : State) : (s.stopGap).ktl = s.ktl := rfl
@[simp] theorem State.stopGap_drv (s : State) : (s.stopGap).drv = s.drv := rfl
@[simp] theorem State.stopGap_amg (s : State) : (s.stopGap).amg = s.amg := rfl
@[simp] theorem State.stopGap_msr (s : State) : (s.stopGap).msr = s.msr := rfl
@[simp] theorem State.stopGap_prt (s : State) : (s.stopGap).prt = s.prt := rfl
@[simp] theorem State.stopGap_idu (s : State) : (s.stopGap).idu = s.idu := rfl
@[simp] theorem State.stopGap_acu (s : State) : (s.stopGap).acu = s.acu := rfl
@[simp] theorem State.stopGap_inr (s : State) : (s.stopGap).inr = s.inr := rfl
@[simp] theorem State.stopGap_pending (s : State) : (s.stopGap).pending = s.pending := rfl

@[simp] theorem State.raise_clock (r : Report) (s : State) : (s.raise r).clock = s.clock := rfl
@[simp] theorem State.raise_seconds (r : Report) (s : State) : (s.raise r).seconds = s.seconds := rfl
@[simp] theorem State.raise_secondAt (r : Report) (s : State) : (s.raise r).secondAt = s.secondAt := rfl
@[simp] theorem State.raise_rst (r : Report) (s : State) : (s.raise r).rst = s.rst := rfl
@[simp] theorem State.raise_clt (r : Report) (s : State) : (s.raise r).clt = s.clt := rfl
@[simp] theorem State.raise_arb (r : Report) (s : State) : (s.raise r).arb = s.arb := rfl
@[simp] theorem State.raise_seq (r : Report) (s : State) : (s.raise r).seq = s.seq := rfl
@[simp] theorem State.raise_ktl (r : Report) (s : State) : (s.raise r).ktl = s.ktl := rfl
@[simp] theorem State.raise_drv (r : Report) (s : State) : (s.raise r).drv = s.drv := rfl
@[simp] theorem State.raise_amg (r : Report) (s : State) : (s.raise r).amg = s.amg := rfl
@[simp] theorem State.raise_msr (r : Report) (s : State) : (s.raise r).msr = s.msr := rfl
@[simp] theorem State.raise_prt (r : Report) (s : State) : (s.raise r).prt = s.prt := rfl
@[simp] theorem State.raise_idu (r : Report) (s : State) : (s.raise r).idu = s.idu := rfl
@[simp] theorem State.raise_acu (r : Report) (s : State) : (s.raise r).acu = s.acu := rfl
@[simp] theorem State.raise_inr (r : Report) (s : State) : (s.raise r).inr = s.inr := rfl
@[simp] theorem State.raise_pending (r : Report) (s : State) : (s.raise r).pending = s.pending := rfl

@[simp] theorem State.setFactor_clock (f : Nat) (s : State) : (s.setFactor f).clock = s.clock := rfl
@[simp] theorem State.setFactor_seconds (f : Nat) (s : State) : (s.setFactor f).seconds = s.seconds := rfl
@[simp] theorem State.setFactor_secondAt (f : Nat) (s : State) : (s.setFactor f).secondAt = s.secondAt := rfl
@[simp] theorem State.setFactor_rst (f : Nat) (s : State) : (s.setFactor f).rst = s.rst := rfl
@[simp] theorem State.setFactor_lnk (f : Nat) (s : State) : (s.setFactor f).lnk = s.lnk := rfl
@[simp] theorem State.setFactor_clt (f : Nat) (s : State) : (s.setFactor f).clt = s.clt := rfl
@[simp] theorem State.setFactor_arb (f : Nat) (s : State) : (s.setFactor f).arb = s.arb := rfl
@[simp] theorem State.setFactor_seq (f : Nat) (s : State) : (s.setFactor f).seq = s.seq := rfl
@[simp] theorem State.setFactor_ktl (f : Nat) (s : State) : (s.setFactor f).ktl = s.ktl := rfl
@[simp] theorem State.setFactor_drv (f : Nat) (s : State) : (s.setFactor f).drv = s.drv := rfl
@[simp] theorem State.setFactor_amg (f : Nat) (s : State) : (s.setFactor f).amg = s.amg := rfl
@[simp] theorem State.setFactor_prt (f : Nat) (s : State) : (s.setFactor f).prt = s.prt := rfl
@[simp] theorem State.setFactor_idu (f : Nat) (s : State) : (s.setFactor f).idu = s.idu := rfl
@[simp] theorem State.setFactor_acu (f : Nat) (s : State) : (s.setFactor f).acu = s.acu := rfl
@[simp] theorem State.setFactor_inr (f : Nat) (s : State) : (s.setFactor f).inr = s.inr := rfl
@[simp] theorem State.setFactor_pending (f : Nat) (s : State) : (s.setFactor f).pending = s.pending := rfl

@[simp] theorem State.startStep_clock (ms : Nat) (s : State) : (s.startStep ms).clock = s.clock := rfl
@[simp] theorem State.startStep_seconds (ms : Nat) (s : State) : (s.startStep ms).seconds = s.seconds := rfl
@[simp] theorem State.startStep_secondAt (ms : Nat) (s : State) : (s.startStep ms).secondAt = s.secondAt := rfl
@[simp] theorem State.startStep_rst (ms : Nat) (s : State) : (s.startStep ms).rst = s.rst := rfl
@[simp] theorem State.startStep_lnk (ms : Nat) (s : State) : (s.startStep ms).lnk = s.lnk := rfl
@[simp] theorem State.startStep_clt (ms : Nat) (s : State) : (s.startStep ms).clt = s.clt := rfl
@[simp] theorem State.startStep_arb (ms : Nat) (s : State) : (s.startStep ms).arb = s.arb := rfl
@[simp] theorem State.startStep_ktl (ms : Nat) (s : State) : (s.startStep ms).ktl = s.ktl := rfl
@[simp] theorem State.startStep_drv (ms : Nat) (s : State) : (s.startStep ms).drv = s.drv := rfl
@[simp] theorem State.startStep_amg (ms : Nat) (s : State) : (s.startStep ms).amg = s.amg := rfl
@[simp] theorem State.startStep_msr (ms : Nat) (s : State) : (s.startStep ms).msr = s.msr := rfl
@[simp] theorem State.startStep_prt (ms : Nat) (s : State) : (s.startStep ms).prt = s.prt := rfl
@[simp] theorem State.startStep_idu (ms : Nat) (s : State) : (s.startStep ms).idu = s.idu := rfl
@[simp] theorem State.startStep_acu (ms : Nat) (s : State) : (s.startStep ms).acu = s.acu := rfl
@[simp] theorem State.startStep_inr (ms : Nat) (s : State) : (s.startStep ms).inr = s.inr := rfl
@[simp] theorem State.startStep_pending (ms : Nat) (s : State) : (s.startStep ms).pending = s.pending := rfl

@[simp] theorem State.modTx_clock (f : Tx → Tx) (s : State) : (s.modTx f).clock = s.clock := rfl
@[simp] theorem State.modTx_seconds (f : Tx → Tx) (s : State) : (s.modTx f).seconds = s.seconds := rfl
@[simp] theorem State.modTx_secondAt (f : Tx → Tx) (s : State) : (s.modTx f).secondAt = s.secondAt := rfl
@[simp] theorem State.modTx_rst (f : Tx → Tx) (s : State) : (s.modTx f).rst = s.rst := rfl
@[simp] theorem State.modTx_lnk (f : Tx → Tx) (s : State) : (s.modTx f).lnk = s.lnk := rfl
@[simp] theorem State.modTx_clt (f : Tx → Tx) (s : State) : (s.modTx f).clt = s.clt := rfl
@[simp] theorem State.modTx_arb (f : Tx → Tx) (s : State) : (s.modTx f).arb = s.arb := rfl
@[simp] theorem State.modTx_ktl (f : Tx → Tx) (s : State) : (s.modTx f).ktl = s.ktl := rfl
@[simp] theorem State.modTx_drv (f : Tx → Tx) (s : State) : (s.modTx f).drv = s.drv := rfl
@[simp] theorem State.modTx_amg (f : Tx → Tx) (s : State) : (s.modTx f).amg = s.amg := rfl
@[simp] theorem State.modTx_msr (f : Tx → Tx) (s : State) : (s.modTx f).msr = s.msr := rfl
@[simp] theorem State.modTx_prt (f : Tx → Tx) (s : State) : (s.modTx f).prt = s.prt := rfl
@[simp] theorem State.modTx_idu (f : Tx → Tx) (s : State) : (s.modTx f).idu = s.idu := rfl
@[simp] theorem State.modTx_acu (f : Tx → Tx) (s : State) : (s.modTx f).acu = s.acu := rfl
@[simp] theorem State.modTx_inr (f : Tx → Tx) (s : State) : (s.modTx f).inr = s.inr := rfl
@[simp] theorem State.modTx_pending (f : Tx → Tx) (s : State) : (s.modTx f).pending = s.pending := rfl

@[simp] theorem State.stopAmpIdle_clock (s : State) : (s.stopAmpIdle).clock = s.clock := rfl
@[simp] theorem State.stopAmpIdle_seconds (s : State) : (s.stopAmpIdle).seconds = s.seconds := rfl
@[simp] theorem State.stopAmpIdle_secondAt (s : State) : (s.stopAmpIdle).secondAt = s.secondAt := rfl
@[simp] theorem State.stopAmpIdle_rst (s : State) : (s.stopAmpIdle).rst = s.rst := rfl
@[simp] theorem State.stopAmpIdle_lnk (s : State) : (s.stopAmpIdle).lnk = s.lnk := rfl
@[simp] theorem State.stopAmpIdle_clt (s : State) : (s.stopAmpIdle).clt = s.clt := rfl
@[simp] theorem State.stopAmpIdle_arb (s : State) : (s.stopAmpIdle).arb = s.arb := rfl
@[simp] theorem State.stopAmpIdle_seq (s : State) : (s.stopAmpIdle).seq = s.seq := rfl
@[simp] theorem State.stopAmpIdle_ktl (s : State) : (s.stopAmpIdle).ktl = s.ktl := rfl
@[simp] theorem State.stopAmpIdle_drv (s : State) : (s.stopAmpIdle).drv = s.drv := rfl
@[simp] theorem State.stopAmpIdle_msr (s : State) : (s.stopAmpIdle).msr = s.msr := rfl
@[simp] theorem State.stopAmpIdle_prt (s : State) : (s.stopAmpIdle).prt = s.prt := rfl
@[simp] theorem State.stopAmpIdle_idu (s : State) : (s.stopAmpIdle).idu = s.idu := rfl
@[simp] theorem State.stopAmpIdle_acu (s : State) : (s.stopAmpIdle).acu = s.acu := rfl
@[simp] theorem State.stopAmpIdle_inr (s : State) : (s.stopAmpIdle).inr = s.inr := rfl
@[simp] theorem State.stopAmpIdle_pending (s : State) : (s.stopAmpIdle).pending = s.pending := rfl

@[simp] theorem State.ampTo_clock (n : AmpState) (c : AmpCause) (s : State) : (s.ampTo n c).clock = s.clock := rfl
@[simp] theorem State.ampTo_seconds (n : AmpState) (c : AmpCause) (s : State) :
    (s.ampTo n c).seconds = s.seconds := rfl
@[simp] theorem State.ampTo_secondAt (n : AmpState) (c : AmpCause) (s : State) :
    (s.ampTo n c).secondAt = s.secondAt := rfl
@[simp] theorem State.ampTo_rst (n : AmpState) (c : AmpCause) (s : State) : (s.ampTo n c).rst = s.rst := rfl
@[simp] theorem State.ampTo_clt (n : AmpState) (c : AmpCause) (s : State) : (s.ampTo n c).clt = s.clt := rfl
@[simp] theorem State.ampTo_arb (n : AmpState) (c : AmpCause) (s : State) : (s.ampTo n c).arb = s.arb := rfl
@[simp] theorem State.ampTo_seq (n : AmpState) (c : AmpCause) (s : State) : (s.ampTo n c).seq = s.seq := rfl
@[simp] theorem State.ampTo_ktl (n : AmpState) (c : AmpCause) (s : State) : (s.ampTo n c).ktl = s.ktl := rfl
@[simp] theorem State.ampTo_drv (n : AmpState) (c : AmpCause) (s : State) : (s.ampTo n c).drv = s.drv := rfl
@[simp] theorem State.ampTo_msr (n : AmpState) (c : AmpCause) (s : State) : (s.ampTo n c).msr = s.msr := rfl
@[simp] theorem State.ampTo_prt (n : AmpState) (c : AmpCause) (s : State) : (s.ampTo n c).prt = s.prt := rfl
@[simp] theorem State.ampTo_idu (n : AmpState) (c : AmpCause) (s : State) : (s.ampTo n c).idu = s.idu := rfl
@[simp] theorem State.ampTo_acu (n : AmpState) (c : AmpCause) (s : State) : (s.ampTo n c).acu = s.acu := rfl
@[simp] theorem State.ampTo_inr (n : AmpState) (c : AmpCause) (s : State) : (s.ampTo n c).inr = s.inr := rfl
@[simp] theorem State.ampTo_pending (n : AmpState) (c : AmpCause) (s : State) :
    (s.ampTo n c).pending = s.pending := rfl

@[simp] theorem State.flushKeys_clock (s : State) : (s.flushKeys).clock = s.clock := rfl
@[simp] theorem State.flushKeys_seconds (s : State) : (s.flushKeys).seconds = s.seconds := rfl
@[simp] theorem State.flushKeys_secondAt (s : State) : (s.flushKeys).secondAt = s.secondAt := rfl
@[simp] theorem State.flushKeys_rst (s : State) : (s.flushKeys).rst = s.rst := rfl
@[simp] theorem State.flushKeys_lnk (s : State) : (s.flushKeys).lnk = s.lnk := rfl
@[simp] theorem State.flushKeys_clt (s : State) : (s.flushKeys).clt = s.clt := rfl
@[simp] theorem State.flushKeys_arb (s : State) : (s.flushKeys).arb = s.arb := rfl
@[simp] theorem State.flushKeys_seq (s : State) : (s.flushKeys).seq = s.seq := rfl
@[simp] theorem State.flushKeys_drv (s : State) : (s.flushKeys).drv = s.drv := rfl
@[simp] theorem State.flushKeys_amg (s : State) : (s.flushKeys).amg = s.amg := rfl
@[simp] theorem State.flushKeys_msr (s : State) : (s.flushKeys).msr = s.msr := rfl
@[simp] theorem State.flushKeys_prt (s : State) : (s.flushKeys).prt = s.prt := rfl
@[simp] theorem State.flushKeys_idu (s : State) : (s.flushKeys).idu = s.idu := rfl
@[simp] theorem State.flushKeys_acu (s : State) : (s.flushKeys).acu = s.acu := rfl
@[simp] theorem State.flushKeys_inr (s : State) : (s.flushKeys).inr = s.inr := rfl
@[simp] theorem State.flushKeys_pending (s : State) : (s.flushKeys).pending = s.pending := rfl

@[simp] theorem State.syncKey_clock (s : State) : (s.syncKey).clock = s.clock := rfl
@[simp] theorem State.syncKey_seconds (s : State) : (s.syncKey).seconds = s.seconds := rfl
@[simp] theorem State.syncKey_secondAt (s : State) : (s.syncKey).secondAt = s.secondAt := rfl
@[simp] theorem State.syncKey_rst (s : State) : (s.syncKey).rst = s.rst := rfl
@[simp] theorem State.syncKey_lnk (s : State) : (s.syncKey).lnk = s.lnk := rfl
@[simp] theorem State.syncKey_clt (s : State) : (s.syncKey).clt = s.clt := rfl
@[simp] theorem State.syncKey_arb (s : State) : (s.syncKey).arb = s.arb := rfl
@[simp] theorem State.syncKey_seq (s : State) : (s.syncKey).seq = s.seq := rfl
@[simp] theorem State.syncKey_drv (s : State) : (s.syncKey).drv = s.drv := rfl
@[simp] theorem State.syncKey_amg (s : State) : (s.syncKey).amg = s.amg := rfl
@[simp] theorem State.syncKey_msr (s : State) : (s.syncKey).msr = s.msr := rfl
@[simp] theorem State.syncKey_prt (s : State) : (s.syncKey).prt = s.prt := rfl
@[simp] theorem State.syncKey_idu (s : State) : (s.syncKey).idu = s.idu := rfl
@[simp] theorem State.syncKey_acu (s : State) : (s.syncKey).acu = s.acu := rfl
@[simp] theorem State.syncKey_inr (s : State) : (s.syncKey).inr = s.inr := rfl
@[simp] theorem State.syncKey_pending (s : State) : (s.syncKey).pending = s.pending := rfl

@[simp] theorem State.flushTurnKeys_clock (s : State) : (s.flushTurnKeys).clock = s.clock := rfl
@[simp] theorem State.flushTurnKeys_seconds (s : State) : (s.flushTurnKeys).seconds = s.seconds := rfl
@[simp] theorem State.flushTurnKeys_secondAt (s : State) : (s.flushTurnKeys).secondAt = s.secondAt := rfl
@[simp] theorem State.flushTurnKeys_rst (s : State) : (s.flushTurnKeys).rst = s.rst := rfl
@[simp] theorem State.flushTurnKeys_lnk (s : State) : (s.flushTurnKeys).lnk = s.lnk := rfl
@[simp] theorem State.flushTurnKeys_clt (s : State) : (s.flushTurnKeys).clt = s.clt := rfl
@[simp] theorem State.flushTurnKeys_arb (s : State) : (s.flushTurnKeys).arb = s.arb := rfl
@[simp] theorem State.flushTurnKeys_seq (s : State) : (s.flushTurnKeys).seq = s.seq := rfl
@[simp] theorem State.flushTurnKeys_drv (s : State) : (s.flushTurnKeys).drv = s.drv := rfl
@[simp] theorem State.flushTurnKeys_amg (s : State) : (s.flushTurnKeys).amg = s.amg := rfl
@[simp] theorem State.flushTurnKeys_msr (s : State) : (s.flushTurnKeys).msr = s.msr := rfl
@[simp] theorem State.flushTurnKeys_prt (s : State) : (s.flushTurnKeys).prt = s.prt := rfl
@[simp] theorem State.flushTurnKeys_idu (s : State) : (s.flushTurnKeys).idu = s.idu := rfl
@[simp] theorem State.flushTurnKeys_acu (s : State) : (s.flushTurnKeys).acu = s.acu := rfl
@[simp] theorem State.flushTurnKeys_inr (s : State) : (s.flushTurnKeys).inr = s.inr := rfl
@[simp] theorem State.flushTurnKeys_pending (s : State) : (s.flushTurnKeys).pending = s.pending := rfl

@[simp] theorem State.conditionGone_clock (k : FaultKind) (s : State) : (s.conditionGone k).clock = s.clock := rfl
@[simp] theorem State.conditionGone_seconds (k : FaultKind) (s : State) :
    (s.conditionGone k).seconds = s.seconds := rfl
@[simp] theorem State.conditionGone_secondAt (k : FaultKind) (s : State) :
    (s.conditionGone k).secondAt = s.secondAt := rfl
@[simp] theorem State.conditionGone_rst (k : FaultKind) (s : State) : (s.conditionGone k).rst = s.rst := rfl
@[simp] theorem State.conditionGone_lnk (k : FaultKind) (s : State) : (s.conditionGone k).lnk = s.lnk := rfl
@[simp] theorem State.conditionGone_clt (k : FaultKind) (s : State) : (s.conditionGone k).clt = s.clt := rfl
@[simp] theorem State.conditionGone_arb (k : FaultKind) (s : State) : (s.conditionGone k).arb = s.arb := rfl
@[simp] theorem State.conditionGone_seq (k : FaultKind) (s : State) : (s.conditionGone k).seq = s.seq := rfl
@[simp] theorem State.conditionGone_ktl (k : FaultKind) (s : State) : (s.conditionGone k).ktl = s.ktl := rfl
@[simp] theorem State.conditionGone_drv (k : FaultKind) (s : State) : (s.conditionGone k).drv = s.drv := rfl
@[simp] theorem State.conditionGone_amg (k : FaultKind) (s : State) : (s.conditionGone k).amg = s.amg := rfl
@[simp] theorem State.conditionGone_msr (k : FaultKind) (s : State) : (s.conditionGone k).msr = s.msr := rfl
@[simp] theorem State.conditionGone_idu (k : FaultKind) (s : State) : (s.conditionGone k).idu = s.idu := rfl
@[simp] theorem State.conditionGone_acu (k : FaultKind) (s : State) : (s.conditionGone k).acu = s.acu := rfl
@[simp] theorem State.conditionGone_inr (k : FaultKind) (s : State) : (s.conditionGone k).inr = s.inr := rfl
@[simp] theorem State.conditionGone_pending (k : FaultKind) (s : State) :
    (s.conditionGone k).pending = s.pending := rfl

@[simp] theorem State.clearPttFor_clock (c : TxEndCause) (s : State) : (s.clearPttFor c).clock = s.clock := rfl
@[simp] theorem State.clearPttFor_seconds (c : TxEndCause) (s : State) : (s.clearPttFor c).seconds = s.seconds := rfl
@[simp] theorem State.clearPttFor_secondAt (c : TxEndCause) (s : State) :
    (s.clearPttFor c).secondAt = s.secondAt := rfl
@[simp] theorem State.clearPttFor_rst (c : TxEndCause) (s : State) : (s.clearPttFor c).rst = s.rst := rfl
@[simp] theorem State.clearPttFor_lnk (c : TxEndCause) (s : State) : (s.clearPttFor c).lnk = s.lnk := rfl
@[simp] theorem State.clearPttFor_clt (c : TxEndCause) (s : State) : (s.clearPttFor c).clt = s.clt := rfl
@[simp] theorem State.clearPttFor_arb (c : TxEndCause) (s : State) : (s.clearPttFor c).arb = s.arb := rfl
@[simp] theorem State.clearPttFor_ktl (c : TxEndCause) (s : State) : (s.clearPttFor c).ktl = s.ktl := rfl
@[simp] theorem State.clearPttFor_drv (c : TxEndCause) (s : State) : (s.clearPttFor c).drv = s.drv := rfl
@[simp] theorem State.clearPttFor_amg (c : TxEndCause) (s : State) : (s.clearPttFor c).amg = s.amg := rfl
@[simp] theorem State.clearPttFor_msr (c : TxEndCause) (s : State) : (s.clearPttFor c).msr = s.msr := rfl
@[simp] theorem State.clearPttFor_prt (c : TxEndCause) (s : State) : (s.clearPttFor c).prt = s.prt := rfl
@[simp] theorem State.clearPttFor_idu (c : TxEndCause) (s : State) : (s.clearPttFor c).idu = s.idu := rfl
@[simp] theorem State.clearPttFor_acu (c : TxEndCause) (s : State) : (s.clearPttFor c).acu = s.acu := rfl
@[simp] theorem State.clearPttFor_inr (c : TxEndCause) (s : State) : (s.clearPttFor c).inr = s.inr := rfl
@[simp] theorem State.clearPttFor_pending (c : TxEndCause) (s : State) : (s.clearPttFor c).pending = s.pending := rfl

@[simp] theorem State.forgetTurn_clock (s : State) : (s.forgetTurn).clock = s.clock := rfl
@[simp] theorem State.forgetTurn_seconds (s : State) : (s.forgetTurn).seconds = s.seconds := rfl
@[simp] theorem State.forgetTurn_secondAt (s : State) : (s.forgetTurn).secondAt = s.secondAt := rfl
@[simp] theorem State.forgetTurn_rst (s : State) : (s.forgetTurn).rst = s.rst := rfl
@[simp] theorem State.forgetTurn_lnk (s : State) : (s.forgetTurn).lnk = s.lnk := rfl
@[simp] theorem State.forgetTurn_clt (s : State) : (s.forgetTurn).clt = s.clt := rfl
@[simp] theorem State.forgetTurn_arb (s : State) : (s.forgetTurn).arb = s.arb := rfl
@[simp] theorem State.forgetTurn_ktl (s : State) : (s.forgetTurn).ktl = s.ktl := rfl
@[simp] theorem State.forgetTurn_drv (s : State) : (s.forgetTurn).drv = s.drv := rfl
@[simp] theorem State.forgetTurn_amg (s : State) : (s.forgetTurn).amg = s.amg := rfl
@[simp] theorem State.forgetTurn_msr (s : State) : (s.forgetTurn).msr = s.msr := rfl
@[simp] theorem State.forgetTurn_prt (s : State) : (s.forgetTurn).prt = s.prt := rfl
@[simp] theorem State.forgetTurn_idu (s : State) : (s.forgetTurn).idu = s.idu := rfl
@[simp] theorem State.forgetTurn_acu (s : State) : (s.forgetTurn).acu = s.acu := rfl
@[simp] theorem State.forgetTurn_inr (s : State) : (s.forgetTurn).inr = s.inr := rfl
@[simp] theorem State.forgetTurn_pending (s : State) : (s.forgetTurn).pending = s.pending := rfl

@[simp] theorem State.afterTurn_clock (a b : Bool) (s : State) : (s.afterTurn a b).clock = s.clock := rfl
@[simp] theorem State.afterTurn_seconds (a b : Bool) (s : State) : (s.afterTurn a b).seconds = s.seconds := rfl
@[simp] theorem State.afterTurn_secondAt (a b : Bool) (s : State) : (s.afterTurn a b).secondAt = s.secondAt := rfl
@[simp] theorem State.afterTurn_rst (a b : Bool) (s : State) : (s.afterTurn a b).rst = s.rst := rfl
@[simp] theorem State.afterTurn_lnk (a b : Bool) (s : State) : (s.afterTurn a b).lnk = s.lnk := rfl
@[simp] theorem State.afterTurn_clt (a b : Bool) (s : State) : (s.afterTurn a b).clt = s.clt := rfl
@[simp] theorem State.afterTurn_seq (a b : Bool) (s : State) : (s.afterTurn a b).seq = s.seq := rfl
@[simp] theorem State.afterTurn_ktl (a b : Bool) (s : State) : (s.afterTurn a b).ktl = s.ktl := rfl
@[simp] theorem State.afterTurn_drv (a b : Bool) (s : State) : (s.afterTurn a b).drv = s.drv := rfl
@[simp] theorem State.afterTurn_amg (a b : Bool) (s : State) : (s.afterTurn a b).amg = s.amg := rfl
@[simp] theorem State.afterTurn_msr (a b : Bool) (s : State) : (s.afterTurn a b).msr = s.msr := rfl
@[simp] theorem State.afterTurn_prt (a b : Bool) (s : State) : (s.afterTurn a b).prt = s.prt := rfl
@[simp] theorem State.afterTurn_idu (a b : Bool) (s : State) : (s.afterTurn a b).idu = s.idu := rfl
@[simp] theorem State.afterTurn_acu (a b : Bool) (s : State) : (s.afterTurn a b).acu = s.acu := rfl
@[simp] theorem State.afterTurn_inr (a b : Bool) (s : State) : (s.afterTurn a b).inr = s.inr := rfl
@[simp] theorem State.afterTurn_pending (a b : Bool) (s : State) : (s.afterTurn a b).pending = s.pending := rfl

@[simp] theorem State.syncQuiet_clock (s : State) : (s.syncQuiet).clock = s.clock := rfl
@[simp] theorem State.syncQuiet_seconds (s : State) : (s.syncQuiet).seconds = s.seconds := rfl
@[simp] theorem State.syncQuiet_secondAt (s : State) : (s.syncQuiet).secondAt = s.secondAt := rfl
@[simp] theorem State.syncQuiet_rst (s : State) : (s.syncQuiet).rst = s.rst := rfl
@[simp] theorem State.syncQuiet_lnk (s : State) : (s.syncQuiet).lnk = s.lnk := rfl
@[simp] theorem State.syncQuiet_clt (s : State) : (s.syncQuiet).clt = s.clt := rfl
@[simp] theorem State.syncQuiet_arb (s : State) : (s.syncQuiet).arb = s.arb := rfl
@[simp] theorem State.syncQuiet_seq (s : State) : (s.syncQuiet).seq = s.seq := rfl
@[simp] theorem State.syncQuiet_ktl (s : State) : (s.syncQuiet).ktl = s.ktl := rfl
@[simp] theorem State.syncQuiet_drv (s : State) : (s.syncQuiet).drv = s.drv := rfl
@[simp] theorem State.syncQuiet_amg (s : State) : (s.syncQuiet).amg = s.amg := rfl
@[simp] theorem State.syncQuiet_msr (s : State) : (s.syncQuiet).msr = s.msr := rfl
@[simp] theorem State.syncQuiet_prt (s : State) : (s.syncQuiet).prt = s.prt := rfl
@[simp] theorem State.syncQuiet_acu (s : State) : (s.syncQuiet).acu = s.acu := rfl
@[simp] theorem State.syncQuiet_inr (s : State) : (s.syncQuiet).inr = s.inr := rfl
@[simp] theorem State.syncQuiet_pending (s : State) : (s.syncQuiet).pending = s.pending := rfl

@[simp] theorem State.countSeconds_clock (s : State) : s.countSeconds.clock = s.clock := rfl
@[simp] theorem State.countSeconds_rst (s : State) : s.countSeconds.rst = s.rst := rfl
@[simp] theorem State.countSeconds_lnk (s : State) : s.countSeconds.lnk = s.lnk := rfl
@[simp] theorem State.countSeconds_clt (s : State) : s.countSeconds.clt = s.clt := rfl
@[simp] theorem State.countSeconds_arb (s : State) : s.countSeconds.arb = s.arb := rfl
@[simp] theorem State.countSeconds_seq (s : State) : s.countSeconds.seq = s.seq := rfl
@[simp] theorem State.countSeconds_ktl (s : State) : s.countSeconds.ktl = s.ktl := rfl
@[simp] theorem State.countSeconds_drv (s : State) : s.countSeconds.drv = s.drv := rfl
@[simp] theorem State.countSeconds_amg (s : State) : s.countSeconds.amg = s.amg := rfl
@[simp] theorem State.countSeconds_msr (s : State) : s.countSeconds.msr = s.msr := rfl
@[simp] theorem State.countSeconds_prt (s : State) : s.countSeconds.prt = s.prt := rfl
@[simp] theorem State.countSeconds_idu (s : State) : s.countSeconds.idu = s.idu := rfl
@[simp] theorem State.countSeconds_acu (s : State) : s.countSeconds.acu = s.acu := rfl
@[simp] theorem State.countSeconds_inr (s : State) : s.countSeconds.inr = s.inr := rfl
@[simp] theorem State.countSeconds_pending (s : State) : s.countSeconds.pending = s.pending := rfl

@[simp] theorem State.elapse_rst (n : Nat) (s : State) : (s.elapse n).rst = s.rst := rfl
@[simp] theorem State.elapse_lnk (n : Nat) (s : State) : (s.elapse n).lnk = s.lnk := rfl
@[simp] theorem State.elapse_clt (n : Nat) (s : State) : (s.elapse n).clt = s.clt := rfl
@[simp] theorem State.elapse_arb (n : Nat) (s : State) : (s.elapse n).arb = s.arb := rfl
@[simp] theorem State.elapse_seq (n : Nat) (s : State) : (s.elapse n).seq = s.seq := rfl
@[simp] theorem State.elapse_ktl (n : Nat) (s : State) : (s.elapse n).ktl = s.ktl := rfl
@[simp] theorem State.elapse_drv (n : Nat) (s : State) : (s.elapse n).drv = s.drv := rfl
@[simp] theorem State.elapse_amg (n : Nat) (s : State) : (s.elapse n).amg = s.amg := rfl
@[simp] theorem State.elapse_msr (n : Nat) (s : State) : (s.elapse n).msr = s.msr := rfl
@[simp] theorem State.elapse_prt (n : Nat) (s : State) : (s.elapse n).prt = s.prt := rfl
@[simp] theorem State.elapse_idu (n : Nat) (s : State) : (s.elapse n).idu = s.idu := rfl
@[simp] theorem State.elapse_inr (n : Nat) (s : State) : (s.elapse n).inr = s.inr := rfl
@[simp] theorem State.elapse_pending (n : Nat) (s : State) : (s.elapse n).pending = s.pending := rfl

@[simp] theorem State.answer_clock (k t : Nat) (x : Status) (b : Body) (s : State) :
    (s.answer k t x b).clock = s.clock := rfl
@[simp] theorem State.answer_seconds (k t : Nat) (x : Status) (b : Body) (s : State) :
    (s.answer k t x b).seconds = s.seconds := rfl
@[simp] theorem State.answer_secondAt (k t : Nat) (x : Status) (b : Body) (s : State) :
    (s.answer k t x b).secondAt = s.secondAt := rfl
@[simp] theorem State.answer_rst (k t : Nat) (x : Status) (b : Body) (s : State) :
    (s.answer k t x b).rst = s.rst := rfl
@[simp] theorem State.answer_clt (k t : Nat) (x : Status) (b : Body) (s : State) :
    (s.answer k t x b).clt = s.clt := rfl
@[simp] theorem State.answer_arb (k t : Nat) (x : Status) (b : Body) (s : State) :
    (s.answer k t x b).arb = s.arb := rfl
@[simp] theorem State.answer_seq (k t : Nat) (x : Status) (b : Body) (s : State) :
    (s.answer k t x b).seq = s.seq := rfl
@[simp] theorem State.answer_ktl (k t : Nat) (x : Status) (b : Body) (s : State) :
    (s.answer k t x b).ktl = s.ktl := rfl
@[simp] theorem State.answer_drv (k t : Nat) (x : Status) (b : Body) (s : State) :
    (s.answer k t x b).drv = s.drv := rfl
@[simp] theorem State.answer_amg (k t : Nat) (x : Status) (b : Body) (s : State) :
    (s.answer k t x b).amg = s.amg := rfl
@[simp] theorem State.answer_msr (k t : Nat) (x : Status) (b : Body) (s : State) :
    (s.answer k t x b).msr = s.msr := rfl
@[simp] theorem State.answer_prt (k t : Nat) (x : Status) (b : Body) (s : State) :
    (s.answer k t x b).prt = s.prt := rfl
@[simp] theorem State.answer_idu (k t : Nat) (x : Status) (b : Body) (s : State) :
    (s.answer k t x b).idu = s.idu := rfl
@[simp] theorem State.answer_acu (k t : Nat) (x : Status) (b : Body) (s : State) :
    (s.answer k t x b).acu = s.acu := rfl
@[simp] theorem State.answer_inr (k t : Nat) (x : Status) (b : Body) (s : State) :
    (s.answer k t x b).inr = s.inr := rfl
@[simp] theorem State.answer_pending (k t : Nat) (x : Status) (b : Body) (s : State) :
    (s.answer k t x b).pending = s.pending := rfl

@[simp] theorem State.readyToTake_clock (s : State) : (s.readyToTake).clock = s.clock := rfl
@[simp] theorem State.readyToTake_seconds (s : State) : (s.readyToTake).seconds = s.seconds := rfl
@[simp] theorem State.readyToTake_secondAt (s : State) : (s.readyToTake).secondAt = s.secondAt := rfl
@[simp] theorem State.readyToTake_rst (s : State) : (s.readyToTake).rst = s.rst := rfl
@[simp] theorem State.readyToTake_clt (s : State) : (s.readyToTake).clt = s.clt := rfl
@[simp] theorem State.readyToTake_arb (s : State) : (s.readyToTake).arb = s.arb := rfl
@[simp] theorem State.readyToTake_seq (s : State) : (s.readyToTake).seq = s.seq := rfl
@[simp] theorem State.readyToTake_ktl (s : State) : (s.readyToTake).ktl = s.ktl := rfl
@[simp] theorem State.readyToTake_drv (s : State) : (s.readyToTake).drv = s.drv := rfl
@[simp] theorem State.readyToTake_amg (s : State) : (s.readyToTake).amg = s.amg := rfl
@[simp] theorem State.readyToTake_msr (s : State) : (s.readyToTake).msr = s.msr := rfl
@[simp] theorem State.readyToTake_prt (s : State) : (s.readyToTake).prt = s.prt := rfl
@[simp] theorem State.readyToTake_idu (s : State) : (s.readyToTake).idu = s.idu := rfl
@[simp] theorem State.readyToTake_acu (s : State) : (s.readyToTake).acu = s.acu := rfl
@[simp] theorem State.readyToTake_inr (s : State) : (s.readyToTake).inr = s.inr := rfl
@[simp] theorem State.readyToTake_pending (s : State) : (s.readyToTake).pending = s.pending := rfl

@[simp] theorem State.enterDisarmAmp_clock (s : State) : (s.enterDisarmAmp).clock = s.clock := rfl
@[simp] theorem State.enterDisarmAmp_seconds (s : State) : (s.enterDisarmAmp).seconds = s.seconds := rfl
@[simp] theorem State.enterDisarmAmp_secondAt (s : State) : (s.enterDisarmAmp).secondAt = s.secondAt := rfl
@[simp] theorem State.enterDisarmAmp_rst (s : State) : (s.enterDisarmAmp).rst = s.rst := rfl
@[simp] theorem State.enterDisarmAmp_lnk (s : State) : (s.enterDisarmAmp).lnk = s.lnk := rfl
@[simp] theorem State.enterDisarmAmp_clt (s : State) : (s.enterDisarmAmp).clt = s.clt := rfl
@[simp] theorem State.enterDisarmAmp_arb (s : State) : (s.enterDisarmAmp).arb = s.arb := rfl
@[simp] theorem State.enterDisarmAmp_ktl (s : State) : (s.enterDisarmAmp).ktl = s.ktl := rfl
@[simp] theorem State.enterDisarmAmp_drv (s : State) : (s.enterDisarmAmp).drv = s.drv := rfl
@[simp] theorem State.enterDisarmAmp_amg (s : State) : (s.enterDisarmAmp).amg = s.amg := rfl
@[simp] theorem State.enterDisarmAmp_msr (s : State) : (s.enterDisarmAmp).msr = s.msr := rfl
@[simp] theorem State.enterDisarmAmp_prt (s : State) : (s.enterDisarmAmp).prt = s.prt := rfl
@[simp] theorem State.enterDisarmAmp_idu (s : State) : (s.enterDisarmAmp).idu = s.idu := rfl
@[simp] theorem State.enterDisarmAmp_acu (s : State) : (s.enterDisarmAmp).acu = s.acu := rfl
@[simp] theorem State.enterDisarmAmp_inr (s : State) : (s.enterDisarmAmp).inr = s.inr := rfl
@[simp] theorem State.enterDisarmAmp_pending (s : State) : (s.enterDisarmAmp).pending = s.pending := rfl

@[simp] theorem State.enterDisarmRelay_clock (s : State) : (s.enterDisarmRelay).clock = s.clock := rfl
@[simp] theorem State.enterDisarmRelay_seconds (s : State) : (s.enterDisarmRelay).seconds = s.seconds := rfl
@[simp] theorem State.enterDisarmRelay_secondAt (s : State) : (s.enterDisarmRelay).secondAt = s.secondAt := rfl
@[simp] theorem State.enterDisarmRelay_rst (s : State) : (s.enterDisarmRelay).rst = s.rst := rfl
@[simp] theorem State.enterDisarmRelay_lnk (s : State) : (s.enterDisarmRelay).lnk = s.lnk := rfl
@[simp] theorem State.enterDisarmRelay_clt (s : State) : (s.enterDisarmRelay).clt = s.clt := rfl
@[simp] theorem State.enterDisarmRelay_arb (s : State) : (s.enterDisarmRelay).arb = s.arb := rfl
@[simp] theorem State.enterDisarmRelay_ktl (s : State) : (s.enterDisarmRelay).ktl = s.ktl := rfl
@[simp] theorem State.enterDisarmRelay_drv (s : State) : (s.enterDisarmRelay).drv = s.drv := rfl
@[simp] theorem State.enterDisarmRelay_amg (s : State) : (s.enterDisarmRelay).amg = s.amg := rfl
@[simp] theorem State.enterDisarmRelay_msr (s : State) : (s.enterDisarmRelay).msr = s.msr := rfl
@[simp] theorem State.enterDisarmRelay_prt (s : State) : (s.enterDisarmRelay).prt = s.prt := rfl
@[simp] theorem State.enterDisarmRelay_idu (s : State) : (s.enterDisarmRelay).idu = s.idu := rfl
@[simp] theorem State.enterDisarmRelay_acu (s : State) : (s.enterDisarmRelay).acu = s.acu := rfl
@[simp] theorem State.enterDisarmRelay_inr (s : State) : (s.enterDisarmRelay).inr = s.inr := rfl
@[simp] theorem State.enterDisarmRelay_pending (s : State) : (s.enterDisarmRelay).pending = s.pending := rfl

@[simp] theorem State.enterArmRelay_clock (s : State) : (s.enterArmRelay).clock = s.clock := rfl
@[simp] theorem State.enterArmRelay_seconds (s : State) : (s.enterArmRelay).seconds = s.seconds := rfl
@[simp] theorem State.enterArmRelay_secondAt (s : State) : (s.enterArmRelay).secondAt = s.secondAt := rfl
@[simp] theorem State.enterArmRelay_rst (s : State) : (s.enterArmRelay).rst = s.rst := rfl
@[simp] theorem State.enterArmRelay_lnk (s : State) : (s.enterArmRelay).lnk = s.lnk := rfl
@[simp] theorem State.enterArmRelay_clt (s : State) : (s.enterArmRelay).clt = s.clt := rfl
@[simp] theorem State.enterArmRelay_arb (s : State) : (s.enterArmRelay).arb = s.arb := rfl
@[simp] theorem State.enterArmRelay_ktl (s : State) : (s.enterArmRelay).ktl = s.ktl := rfl
@[simp] theorem State.enterArmRelay_drv (s : State) : (s.enterArmRelay).drv = s.drv := rfl
@[simp] theorem State.enterArmRelay_msr (s : State) : (s.enterArmRelay).msr = s.msr := rfl
@[simp] theorem State.enterArmRelay_prt (s : State) : (s.enterArmRelay).prt = s.prt := rfl
@[simp] theorem State.enterArmRelay_idu (s : State) : (s.enterArmRelay).idu = s.idu := rfl
@[simp] theorem State.enterArmRelay_acu (s : State) : (s.enterArmRelay).acu = s.acu := rfl
@[simp] theorem State.enterArmRelay_inr (s : State) : (s.enterArmRelay).inr = s.inr := rfl
@[simp] theorem State.enterArmRelay_pending (s : State) : (s.enterArmRelay).pending = s.pending := rfl

@[simp] theorem State.enterRetune_clock (b : BandId) (s : State) : (s.enterRetune b).clock = s.clock := rfl
@[simp] theorem State.enterRetune_seconds (b : BandId) (s : State) : (s.enterRetune b).seconds = s.seconds := rfl
@[simp] theorem State.enterRetune_secondAt (b : BandId) (s : State) : (s.enterRetune b).secondAt = s.secondAt := rfl
@[simp] theorem State.enterRetune_rst (b : BandId) (s : State) : (s.enterRetune b).rst = s.rst := rfl
@[simp] theorem State.enterRetune_lnk (b : BandId) (s : State) : (s.enterRetune b).lnk = s.lnk := rfl
@[simp] theorem State.enterRetune_clt (b : BandId) (s : State) : (s.enterRetune b).clt = s.clt := rfl
@[simp] theorem State.enterRetune_arb (b : BandId) (s : State) : (s.enterRetune b).arb = s.arb := rfl
@[simp] theorem State.enterRetune_ktl (b : BandId) (s : State) : (s.enterRetune b).ktl = s.ktl := rfl
@[simp] theorem State.enterRetune_drv (b : BandId) (s : State) : (s.enterRetune b).drv = s.drv := rfl
@[simp] theorem State.enterRetune_prt (b : BandId) (s : State) : (s.enterRetune b).prt = s.prt := rfl
@[simp] theorem State.enterRetune_idu (b : BandId) (s : State) : (s.enterRetune b).idu = s.idu := rfl
@[simp] theorem State.enterRetune_acu (b : BandId) (s : State) : (s.enterRetune b).acu = s.acu := rfl
@[simp] theorem State.enterRetune_inr (b : BandId) (s : State) : (s.enterRetune b).inr = s.inr := rfl
@[simp] theorem State.enterRetune_pending (b : BandId) (s : State) : (s.enterRetune b).pending = s.pending := rfl

@[simp] theorem State.markOwed_clock (s : State) : (s.markOwed).clock = s.clock := rfl
@[simp] theorem State.markOwed_seconds (s : State) : (s.markOwed).seconds = s.seconds := rfl
@[simp] theorem State.markOwed_secondAt (s : State) : (s.markOwed).secondAt = s.secondAt := rfl
@[simp] theorem State.markOwed_rst (s : State) : (s.markOwed).rst = s.rst := rfl
@[simp] theorem State.markOwed_lnk (s : State) : (s.markOwed).lnk = s.lnk := rfl
@[simp] theorem State.markOwed_clt (s : State) : (s.markOwed).clt = s.clt := rfl
@[simp] theorem State.markOwed_arb (s : State) : (s.markOwed).arb = s.arb := rfl
@[simp] theorem State.markOwed_seq (s : State) : (s.markOwed).seq = s.seq := rfl
@[simp] theorem State.markOwed_ktl (s : State) : (s.markOwed).ktl = s.ktl := rfl
@[simp] theorem State.markOwed_drv (s : State) : (s.markOwed).drv = s.drv := rfl
@[simp] theorem State.markOwed_amg (s : State) : (s.markOwed).amg = s.amg := rfl
@[simp] theorem State.markOwed_msr (s : State) : (s.markOwed).msr = s.msr := rfl
@[simp] theorem State.markOwed_prt (s : State) : (s.markOwed).prt = s.prt := rfl
@[simp] theorem State.markOwed_acu (s : State) : (s.markOwed).acu = s.acu := rfl
@[simp] theorem State.markOwed_inr (s : State) : (s.markOwed).inr = s.inr := rfl
@[simp] theorem State.markOwed_pending (s : State) : (s.markOwed).pending = s.pending := rfl

/-! ### What a touched part reads afterwards -/

@[simp] theorem State.tenancy_setTenancy_same (w : SlotId) (x : Tenancy) (s : State) :
    (s.setTenancy w x).tenancy w = x := by simp [State.tenancy, State.setTenancy]

theorem State.tenancy_setTenancy_other {v w : SlotId} (x : Tenancy) (s : State) (h : v ≠ w) :
    (s.setTenancy w x).tenancy v = s.tenancy v := by simp [State.tenancy, State.setTenancy, Table.read_write_other, h]

@[simp] theorem State.identity_setIdentity_same (w : SlotId) (x : Identity) (s : State) :
    (s.setIdentity w x).identity w = x := by simp [State.identity, State.setIdentity]

theorem State.identity_setIdentity_other {v w : SlotId} (x : Identity) (s : State) (h : v ≠ w) :
    (s.setIdentity w x).identity v = s.identity v := by
  simp [State.identity, State.setIdentity, Table.read_write_other, h]

@[simp] theorem State.turn_setTenancy (w : SlotId) (x : Tenancy) (s : State) : (s.setTenancy w x).turn = s.turn := rfl
@[simp] theorem State.turn_stopPresence (w : SlotId) (s : State) : (s.stopPresence w).turn = s.turn := rfl
@[simp] theorem State.turn_stopGap (s : State) : s.stopGap.turn = s.turn := rfl
@[simp] theorem State.turn_setArbiter (t : Turn) (s : State) : (s.setArbiter (.turn t)).turn = some t := rfl
@[simp] theorem State.turn_setArbiter_free (s : State) : (s.setArbiter .free).turn = none := rfl
@[simp] theorem State.turn_setArbiter_gap (s : State) : (s.setArbiter .gap).turn = none := rfl
@[simp] theorem State.turn_setArbiter_idTurn (s : State) : (s.setArbiter .idTurn).turn = none := rfl
@[simp] theorem State.factor_setFactor (f : Nat) (s : State) : (s.setFactor f).msr.factor = f := rfl
@[simp] theorem State.step_startStep (ms : Nat) (s : State) : (s.startStep ms).seq.step = some ⟨s.clock, ms⟩ := rfl
@[simp] theorem State.state_startStep (ms : Nat) (s : State) : (s.startStep ms).seq.state = s.seq.state := rfl
@[simp] theorem State.flags_raise (r : Report) (s : State) : (s.raise r).lnk.flags = s.lnk.flags ||| kindBit r.index := by
  simp only [State.raise, Lnk.raise, Lnk.offer]; split <;> (try split) <;> rfl
@[simp] theorem State.reply_raise (r : Report) (s : State) : (s.raise r).lnk.reply = s.lnk.reply := by
  simp only [State.raise, Lnk.raise, Lnk.offer]; split <;> (try split) <;> rfl
@[simp] theorem State.amp_ampTo (n : AmpState) (c : AmpCause) (s : State) : (s.ampTo n c).amg.state = n := rfl
@[simp] theorem State.timeline_flushKeys (s : State) : s.flushKeys.ktl.timeline = [] := rfl
@[simp] theorem State.suppression_flushKeys (s : State) : s.flushKeys.ktl.suppression = s.ktl.suppression := rfl
@[simp] theorem State.clock_elapse (n : Nat) (s : State) : (s.elapse n).clock = s.clock + BitVec.ofNat 32 n := rfl
@[simp] theorem State.used_elapse (n : Nat) (s : State) : (s.elapse n).acu.used = s.acu.used := rfl
@[simp] theorem State.records_elapse (n : Nat) (s : State) : (s.elapse n).acu.records = s.acu.records := rfl

end Sys2Proof.Machine
end

