-- ==== Sys2Proof/Laws/Ops.lean ====
section
/-! SUPPORT. What the shared operations over the turn context, the presence timers, station time and the occurrences
can do, said once. -/

namespace Sys2Proof.Machine

/-! ### The turn context -/

theorem State.turn_eq_some {s : State} {t : Turn} : s.turn = some t ↔ s.arb.arbiter = .turn t := by
  unfold State.turn
  split
  · rename_i x h; simp [h]
  · rename_i h; simp only [reduceCtorEq, false_iff]; exact fun e => h t e

theorem State.modTurn_of_turn {s : State} {t : Turn} (f : Turn → Turn) (h : s.turn = some t) :
    s.modTurn f = s.setArbiter (.turn (f t)) := by simp [State.modTurn, h, State.setArbiter]

theorem State.modTurn_of_none {s : State} (f : Turn → Turn) (h : s.turn = none) : s.modTurn f = s := by
  simp [State.modTurn, h]

/-- Changing the turn context changes nothing but the arbiter state. -/
theorem State.modTurn_frame (f : Turn → Turn) (s : State) :
    s.modTurn f = s.setArbiter (s.modTurn f).arb.arbiter ∧ (s.modTurn f).turn = s.turn.map f := by
  unfold State.modTurn
  split
  · exact ⟨rfl, by simp_all [State.turn]⟩
  · exact ⟨rfl, by simp_all⟩

/-! ### Presence timers (R22) -/

/-- A restart changes only a timer that runs, and gives it the timeout in force. -/
theorem State.restartPresence_cases (w : SlotId) (s : State) :
    s.restartPresence w = s ∨ (w ≠ 0 ∧ ∃ t, s.arb.presence.read w = some t ∧
      s.restartPresence w = { s with arb := { s.arb with
        presence := s.arb.presence.write w (some ⟨s.clock, s.arb.presenceTimeout * 1000⟩) } }) := by
  unfold State.restartPresence
  split
  · rename_i t h
    by_cases hw : w = 0
    · left; simp [State.startPresence, hw]
    · exact .inr ⟨hw, t, h, by simp [State.startPresence, hw]⟩
  · exact .inl rfl

/-! ### Station time -/

/-- Bringing the clock to an instant leaves the state, or lets the time to it pass. -/
theorem State.bringTo_cases (t : Clock) (s : State) :
    s.bringTo t = s ∨ s.bringTo t = s.elapse (t - s.clock).toNat := by
  unfold State.bringTo; split
  · exact .inl rfl
  · exact .inr rfl

/-- It changes station time and the residency counters alone. -/
theorem State.bringTo_frame (t : Clock) (s : State) :
    { s.bringTo t with clock := s.clock, seconds := s.seconds, secondAt := s.secondAt, acu := s.acu } = s := by
  rcases s.bringTo_cases t with h | h
  · rw [h]
  · rw [h]; rfl

/-- An instant not reached becomes the clock. -/
theorem State.clock_bringTo {t : Clock} {s : State} (h : reached s.clock t = false) : (s.bringTo t).clock = t := by
  simp only [State.bringTo, h, Bool.false_eq_true, if_false, State.clock_elapse, BitVec.ofNat_toNat, BitVec.setWidth_eq]
  bv_omega

/-- With less than a second uncounted no station second passes. -/
theorem State.countSeconds_of_lt {s : State} (h : (s.clock - s.secondAt).toNat < 1000) : s.countSeconds = s := by
  have e : State.countSeconds s = { s with seconds := s.seconds + 0, secondAt := s.secondAt + 0 } := by
    simp only [State.countSeconds, Nat.div_eq_of_lt h, Nat.mul_zero]; rfl
  rw [e]; simp

/-- After the counting less than a second is uncounted (R1). -/
theorem State.countSeconds_counts (s : State) :
    (s.countSeconds.clock - s.countSeconds.secondAt).toNat = (s.clock - s.secondAt).toNat % 1000 := by
  have h := (s.clock - s.secondAt).isLt
  have e : s.countSeconds.clock - s.countSeconds.secondAt =
      s.clock - s.secondAt - BitVec.ofNat 32 (1000 * ((s.clock - s.secondAt).toNat / 1000)) := by
    simp only [State.countSeconds]; bv_omega
  rw [e]
  generalize s.clock - s.secondAt = d at *
  rw [BitVec.toNat_sub_of_le] <;> simp only [BitVec.le_def, BitVec.toNat_ofNat] <;> omega

/-! ### Air time (R165, R166) -/

/-- Outside EXCITING no tenth of air time is complete. -/
theorem State.tenthsDue_of_quiet {s : State} (h : s.seq.state ≠ .exciting) : s.tenthsDue = 0 := by
  unfold State.tenthsDue; split <;> simp [h]

/-- With no tenth complete there is nothing to count. -/
theorem State.onTime_of_none {s : State} (h : s.tenthsDue = 0) : s.onTime = s := by simp [State.onTime, h]

/-- A counter that is not at its top has counted every ms of its condition. -/
theorem Counter.pass_total {c : Counter} (n : Nat) (h : c.value ≠ max32) :
    (c.pass n).remainder + 100 * (c.pass n).owed = c.remainder + n + 100 * c.owed ∧ (c.pass n).value = c.value := by
  unfold Counter.pass
  rw [if_neg h]
  exact ⟨by dsimp only; omega, rfl⟩

/-! ### Occurrences raised (R188, R189) -/

/-- Raising an occurrence changes LNK's flags, its report queue and its lost count alone. -/
theorem State.raise_frame (r : Report) (s : State) :
    { s.raise r with lnk := { (s.raise r).lnk with
      flags := s.lnk.flags, reports := s.lnk.reports, lost := s.lnk.lost } } = s := by
  simp only [State.raise, Lnk.raise, Lnk.offer]; split <;> (try split) <;> rfl

/-- The report queue after a raise: as it was, or with the report at its newest end. -/
theorem State.reports_raise (r : Report) (s : State) :
    (s.raise r).lnk.reports = s.lnk.reports ∨ (s.raise r).lnk.reports = s.lnk.reports ++ [r] := by
  simp only [State.raise, Lnk.raise, Lnk.offer]; split <;> (try split) <;> simp

/-! ### Turn records (R170) -/

/-- Writing a record leaves everything but the record list and the record number. -/
theorem State.writeRecord_frame (r : TurnRec) (s : State) :
    { s.writeRecord r with acu := { (s.writeRecord r).acu with records := s.acu.records, number := s.acu.number } } =
      s := by
  unfold State.writeRecord; split <;> rfl

/-- The newest record is the one written, under the next number. -/
theorem State.writeRecord_newest {s : State} (r : TurnRec) (h : s.acu.number ≠ max32) :
    (s.writeRecord r).acu.records.getLast? = some { r with number := s.acu.number + 1 } := by
  simp [State.writeRecord, h]

/-! ### Ranks and the winner (R23, R25) -/

theorem rotate_read (ranks : Table 32 Nat) (w v : SlotId) :
    (rotate ranks w).read v =
      if v = w then 0 else if ranks.read v < ranks.read w then ranks.read v + 1 else ranks.read v := by
  simp [rotate]

/-- The better of two is one of them. -/
theorem State.better_cases (s : State) (o : Option SlotId) (w : SlotId) :
    s.better o w = some w ∨ (∃ v, o = some v ∧ s.better o w = some v) := by
  unfold State.better
  split
  · exact .inl rfl
  · split
    · exact .inl rfl
    · exact .inr ⟨_, rfl, rfl⟩

/-- The best of a list is in it, or is the best so far. -/
theorem State.foldl_better_mem (s : State) (l : List SlotId) :
    ∀ o w, l.foldl s.better o = some w → w ∈ l ∨ o = some w := by
  induction l with
  | nil => intro o w h; exact .inr h
  | cons a l ih =>
    intro o w h
    rcases ih _ _ h with h | h
    · exact .inl (List.mem_cons_of_mem _ h)
    · rcases s.better_cases o a with e | ⟨v, e, e'⟩
      · rw [e] at h; cases h; exact .inl (List.mem_cons_self ..)
      · rw [e'] at h; cases h; exact .inr e

/-- The winner is eligible. -/
theorem State.winner_eligible {s : State} {w : SlotId} (h : s.winner = some w) : s.eligible w = true := by
  rcases s.foldl_better_mem _ _ _ h with h | h
  · exact (List.mem_filter.mp h).2
  · cases h

/-! ### Watts (R119) -/

@[simp] theorem State.shownWatts_unset {s : State} (h : s.seq.currentBand = none) (k : Option Nat) :
    s.shownWatts k = none := by
  simp [State.shownWatts, h]

@[simp] theorem State.shownWatts_set {s : State} {b : BandId} (h : s.seq.currentBand = some b) (k : Option Nat) :
    s.shownWatts k = k := by
  simp [State.shownWatts, h]

theorem State.watts_eq_none {s : State} {c : Code} : s.watts c = none ↔ s.seq.currentBand = none := by
  simp [State.watts]

end Sys2Proof.Machine
end

