-- ==== Sys2Proof/Laws/Link.lean ====
section
/-! SUPPORT. The three ways of taking a request: not at all, turned away, or handed to its block (R183). -/

namespace Sys2Proof.Machine

/-- While the part is reset or restarting nothing is taken. -/
theorem State.takeRequest_closed {s : State} (kind tag actor : Nat) (who : Allowed) (f : Actor → State → Handled)
    (h : s.closed = true) : s.takeRequest kind tag actor who f = s := by simp [State.takeRequest, h]

/-- An actor the catalogue does not allow is answered BAD_ACTOR. -/
theorem State.takeRequest_badActor {s : State} (kind tag actor : Nat) (who : Allowed) (f : Actor → State → Handled)
    (h : s.closed = false) (hn : s.tenthsDue = 0)
    (ha : ∀ a, actorOf actor = some a → s.permitsActor who a = false) :
    s.takeRequest kind tag actor who f = s.readyToTake.answer kind tag .badActor .empty := by
  simp only [State.takeRequest, h, State.onTime_of_none hn]
  cases e : actorOf actor with
  | none => rfl
  | some a =>
    have : s.readyToTake.permitsActor who a = false := ha a e
    simp [this]

/-- An allowed actor's request is handled by its block, and its reply is ready. -/
theorem State.takeRequest_taken {s : State} (kind tag actor : Nat) (who : Allowed) (f : Actor → State → Handled)
    {a : Actor} (h : s.closed = false) (hn : s.tenthsDue = 0) (ha : actorOf actor = some a) (hp : s.permitsActor who a = true) :
    s.takeRequest kind tag actor who f = (f a (a.presence s.readyToTake)).reply kind tag := by
  have : s.readyToTake.permitsActor who a = true := hp
  simp [State.takeRequest, h, State.onTime_of_none hn, ha, this]

/-- The number of a slot names it. -/
@[simp] theorem actorOf_slot (w : SlotId) : actorOf w.val = some (.slot w) := by
  simp [actorOf, indexOf, w.isLt]

/-- 0xFF names STATION. -/
@[simp] theorem actorOf_station : actorOf 0xFF = some .station := rfl

end Sys2Proof.Machine
end

