-- ==== Sys2Proof/Laws/Settle.lean ====
section
/-! SUPPORT. What settling at the end of a step does: nothing where nothing comes about at once, and otherwise only
what one settling step or one of the two timers' synchronisations does. -/

namespace Sys2Proof.Machine

theorem State.settleFor_of_none {s : State} (h : s.settleStep = none) : ∀ n, s.settleFor n = s
  | 0 => rfl
  | n + 1 => by simp [State.settleFor, h]

/-- A state in which nothing comes about at once, and whose idle hang and quiet timer agree with their conditions,
stays as it is. -/
theorem State.settle_of_settled {s : State} (h : s.settleStep = none) (hi : s.syncIdle = s) (hq : s.syncQuiet = s) :
    s.settle = s := by
  unfold State.settle
  rw [State.settleFor_of_none h, hi, hq]

/-- What every single settling step keeps, `settleFor` keeps. -/
theorem State.settleFor_induct {P : State → Prop} (step : ∀ s t, s.settleStep = some t → P s → P t) :
    ∀ n (s : State), P s → P (s.settleFor n)
  | 0, _, h => h
  | n + 1, s, h => by
    unfold State.settleFor
    split
    · exact State.settleFor_induct step n _ (step _ _ ‹_› h)
    · exact h

/-- What every single settling step and the two synchronisations keep, `settle` keeps. -/
theorem State.settle_induct {P : State → Prop} (step : ∀ s t, s.settleStep = some t → P s → P t)
    (idle : ∀ s : State, P s → P s.syncIdle) (quiet : ∀ s : State, P s → P s.syncQuiet) {s : State} (h : P s) :
    P s.settle :=
  quiet _ (idle _ (State.settleFor_induct step _ _ h))

/-- The three things that come about at once (R28, R51, R156). -/
theorem State.settleStep_cases {s t : State} (h : s.settleStep = some t) :
    (s.idu.due = true ∧ s.idTurnOpen = true ∧ t = s.enterIdTurn) ∨
      (zeroLength s.arb.gap = true ∧ t = s.gapExpires) ∨
      (zeroLength s.seq.step = true ∧ t = { s with seq := { s.seq with step := none } }.advance) := by
  unfold State.settleStep at h
  split at h
  · rename_i c; exact .inl ⟨c.1, c.2, by simpa using h.symm⟩
  · split at h
    · exact .inr (.inl ⟨‹_›, by simpa using h.symm⟩)
    · split at h
      · exact .inr (.inr ⟨‹_›, by simpa using h.symm⟩)
      · cases h

/-- Without a turn the idle hang has nothing to do. -/
theorem State.syncIdle_of_no_turn {s : State} (h : s.turn = none) : s.syncIdle = s := by
  simp [State.syncIdle, State.modTurn, h]

end Sys2Proof.Machine
end

