-- ==== Sys2Proof/Tests/Slice0.lean ====
section
/-! SUPPORT. The model's own tests: ill-formed commands that WellFormed refuses, single steps with results from the spec,
and, for every statement of Certificates/Slice0/Obligations.lean with hypotheses, states and operands that meet them. -/

namespace Sys2Proof.Tests

set_option linter.unusedVariables false
set_option Elab.async false

open Sys2Proof Sys2Proof.Machine

/-! ### The states the witnesses stand on -/

/-- A frame of Presence from slot 5 with tag 7, whose bytes sum to 0 with its LENGTH 3 (R181). -/
def presenceFrame : RawFrame := ⟨0x23, 7, 5, [], 0xCE⟩

/-- A Presence frame with a byte of payload too many. -/
def longFrame : RawFrame := ⟨0x23, 7, 5, [0], 0xCD⟩

/-- A Query from STATION of topic 13, which the table does not have. -/
def topicFrame : RawFrame := ⟨0x0E, 7, 255, [13], 0xDB⟩

/-- A class that may send every emission on bands 3 and 5. -/
def operators : ClassRec :=
  { ClassRec.reset with
    bands := Table.build fun b => decide (b = 3 ∨ b = 5), ceilings := Table.build fun _ => 500
    cw := true, phone := true, data := true }

/-- A calibration context for a barefoot path. -/
def curve3 : Table 8 Point :=
  ⟨#[⟨6, 25⟩, ⟨10, 40⟩, ⟨20, 70⟩, ⟨40, 110⟩, ⟨60, 140⟩, ⟨80, 165⟩, ⟨100, 190⟩, ⟨130, 220⟩], rfl⟩

/-- Classes 1 and 2 (with CONTROL), bands 3 and 5 with their contexts, slots 0, 5 and 9 bound, a callsign set. -/
def configured : State :=
  { State.reset with
    clt :=
      { classes := (State.reset.clt.classes.write 1 operators).write 2 { operators with control := true, priority := 2 }
        ids := ((State.reset.clt.ids.write 0 ⟨none, 1, none, false⟩).write 5 ⟨some ['A', 'B', '1'], 1, none, false⟩).write 9
          ⟨some ['C', '2'], 2, none, false⟩ }
    arb := { State.reset.arb with
      slots := ((State.reset.arb.slots.write 0 .opened).write 5 .opened).write 9 .opened, defaultBand := 3 }
    drv := { State.reset.drv with
      bands := (State.reset.drv.bands.write 3 ⟨true, 3, 100, 100, 2000⟩).write 5 ⟨true, 5, 100, 100, 2000⟩
      barefootCal := (State.reset.drv.barefootCal.write 3 (some curve3)).write 5 (some curve3) }
    idu := { State.reset.idu with callsign := some ['G', '4'] } }

/-- The station is READY with band 3 set and the transmitter free. -/
def ready : State :=
  { configured with
    prt := { configured.prt with commissioned := true, station := .ready }
    seq := { configured.seq with currentBand := some 3, bandCode := 3 } }

/-- A STANDING turn of slot 5 on band 3, PHONE, 50 W, with the idle hang running. -/
def turn3 : Turn := ⟨5, 3, .phone, 50, .standing, .active, 0, 0, 1, 0, false, some 0⟩

/-- That turn while its transmission runs. -/
def turnOn : Turn := { turn3 with idleStart := none }

/-- The same in CW. -/
def cwTurn3 : Turn := { turn3 with emission := .cw }

/-- The CW turn while its transmission runs. -/
def cwTurnOn : Turn := { cwTurn3 with idleStart := none }

/-- A transmission of slot 5, on the air since the station clock's 0. -/
def tx3 : Tx := ⟨.member 5, 3, .phone, .barefoot, 0, 0, some 0, none, true⟩

/-- An identification on the air. -/
def idTx3 : Tx := ⟨.ident, 3, .cw, .barefoot, 0, 0, none, none, false⟩

/-- The request record of slot 9. -/
def request3 : RequestRec := ⟨3, .data, 50, .once, .frame, false⟩

/-- A cycle in an ID turn. -/
def cycle3 : Cycle := ⟨0, ['G', '4'], 20, 100, .idTurn, [], true⟩

/-- Slot 5 holds the transmitter with a turn; SEQ is QUIET. -/
def holding (t : Turn) : State :=
  { ready with arb := { ready.arb with
    slots := ready.arb.slots.write 5 .holding, presence := ready.arb.presence.write 5 (some ⟨0, 10000⟩)
    arbiter := .turn t } }

/-- Slot 5's PHONE turn, ACTIVE, with the idle hang running. -/
def quietTurn : State := holding turn3

/-- Slot 5's CW turn, ACTIVE. -/
def cwTurn : State := holding cwTurn3

/-- A transmission in EXCITING, with its lines and its drive. -/
def exciting (x : Tx) (s : State) : State :=
  { s with
    seq := { s.seq with state := .exciting, tx := some x, trr := true, exc := true, keyGate := true }
    drv := { s.drv with applied := ⟨true, some .barefoot, 50, 256, 50, 125⟩ } }

/-- Slot 5's PHONE transmission on the air. -/
def onAir : State :=
  { exciting tx3 (holding turnOn) with seq := { (exciting tx3 (holding turnOn)).seq with pttDemand := true } }

/-- The same state with `n` tenths of its transmission counted. -/
def aired (n : Nat) (s : State) : State :=
  { s with seq := { s.seq with tx := s.seq.tx.map fun x => { x with airTime := n } } }

/-- Slot 5's transmission has ended and its tail runs. -/
def drainTurn : State :=
  { holding turnOn with
    seq := { ready.seq with
      state := .drain, step := some ⟨0, 10⟩, trr := true
      tx := some { tx3 with endCause := some .pttOff, limitStart := none } } }

/-- Slot 5's CW transmission on the air, 40 ms into a burst whose offset is 0. -/
def cwOnAir : State :=
  { exciting { tx3 with emission := .cw } (holding cwTurnOn) with
    clock := 40, ktl := { ready.ktl with burst := some ⟨0, 0⟩ } }

/-- A state in which slot 9 is WAITING. -/
def withRequest (s : State) : State :=
  { s with arb := { s.arb with
    slots := s.arb.slots.write 9 (.waiting request3), presence := s.arb.presence.write 9 (some ⟨0, 10000⟩) } }

/-- Slot 5 on the air and slot 9 WAITING. -/
def waiting : State := withRequest onAir

/-- The gap after a turn with slot 9 WAITING. -/
def gapWaiting : State :=
  { withRequest ready with arb := { (withRequest ready).arb with arbiter := .gap, gap := some ⟨0, 2000⟩ } }

/-- Slot 5 is WAITING and held back, and the transmitter free. -/
def heldWaiting : State :=
  { ready with
    clt := { ready.clt with ids := ready.clt.ids.write 5 { ready.clt.ids.read 5 with heldBack := true } }
    arb := { ready.arb with slots := ready.arb.slots.write 5 (.waiting request3) } }

/-- The band settle of slot 5's turn runs. -/
def tuningTurn : State :=
  { holding { turn3 with sub := .tuning, idleStart := none } with
    seq := { ready.seq with state := .retune, step := some ⟨0, 200⟩, retuneBand := some 3, retuneCurrent := true } }

/-- Slot 5's turn is PAUSED for an identification whose transmission is armed. -/
def pausedTurn : State :=
  { holding { turn3 with sub := .paused, idleStart := none } with
    seq := { ready.seq with state := .armRelay, step := some ⟨0, 15⟩, tx := some idTx3, trr := true, idm := true }
    idu := { ready.idu with
      owed := true, due := true, cycle := .starting, claim := .holdingPause
      context := some { cycle3 with home := .memberTurn, entered := false } } }

/-- The relay-on wait of slot 5's transmission runs. -/
def arming : State :=
  { holding turnOn with
    seq := { ready.seq with state := .armRelay, step := some ⟨0, 15⟩, tx := some tx3, trr := true, pttDemand := true } }

/-- The same on the AMPLIFIED path with the amplifier ON. -/
def armingAmp : State :=
  { arming with
    amg := { arming.amg with state := .on, amppwr := true }
    seq := { arming.seq with tx := some { tx3 with path := .amplified } } }

/-- The relay-off wait runs with a pending start. -/
def pendingTurn : State :=
  { holding { turnOn with pendingStart := true } with
    seq := { ready.seq with state := .disarmRelay, step := some ⟨0, 20⟩, tx := some tx3 } }

/-- An ID turn whose transmission is on the air with the elements `l` to key. -/
def sending (l : List Element) : State :=
  { exciting idTx3 ready with
    arb := { ready.arb with arbiter := .idTurn }
    idu := { ready.idu with
      owed := true, due := true, cycle := .sending, context := some { cycle3 with todo := l }
      element := some ⟨0, 60⟩ } }

/-- WI3 routed to a function with its contact just made; the gap runs. -/
def differing (f : InputFunction) : State :=
  { ready with
    arb := { ready.arb with arbiter := .gap, gap := some ⟨0, 2000⟩ }
    inr := { ready.inr with
      inputs := ready.inr.inputs.write 3 ⟨f, .level, .activeHigh, 10, true, false, some 0⟩ } }

/-- A state with WI0 routed to AMP_READY and active. -/
def readyInput (s : State) : State :=
  { s with inr := { s.inr with inputs := s.inr.inputs.write 0 ⟨.ampReady, .level, .activeHigh, 10, true, true, none⟩ } }

/-- Slot 5 on the air one tenth before it has used its allowance of 1 s. -/
def lastTenth : State :=
  { onAir with
    clt := { onAir.clt with ids := onAir.clt.ids.write 5 { onAir.clt.ids.read 5 with allowance := some 1 } }
    acu := { onAir.acu with used := onAir.acu.used.write 5 9 } }

/-- Slot 0 holds the transmitter with an ACTIVE turn, and no gap runs. -/
def localTurn (s : State) : State :=
  { s with arb := { s.arb with
    slots := s.arb.slots.write 0 .holding, arbiter := .turn { turn3 with holder := 0 }, gap := none } }

/-- Slot 0's PHONE transmission on the air, and WI3 with LOCAL_PTT just let go. -/
def localOnAir : State :=
  { exciting { tx3 with kind := .member 0 } (localTurn ready) with
    arb := { (localTurn ready).arb with arbiter := .turn { turnOn with holder := 0 } }
    inr := { ready.inr with
      inputs := ready.inr.inputs.write 3 ⟨.localPtt, .level, .activeHigh, 10, false, true, some 0⟩ } }

/-- Slot 5 on the air on the AMPLIFIED path. -/
def ampOnAir : State :=
  { exciting { tx3 with path := .amplified } (holding turnOn) with
    seq := { (exciting { tx3 with path := .amplified } (holding turnOn)).seq with ampkey := true } }

/-- The amplifier is in a state, and WI0, routed to AMP_READY, has just changed to `raw`. -/
def readyContact (a : AmpState) (raw : Bool) (s : State) : State :=
  { s with
    amg := { s.amg with state := a, amppwr := true }
    inr := { s.inr with inputs := s.inr.inputs.write 0 ⟨.ampReady, .level, .activeHigh, 10, raw, !raw, some 0⟩ } }

/-- An identification whose start waits for QUIET, in an ID turn; the relay-off wait runs. -/
def startWaiting : State :=
  { ready with
    arb := { ready.arb with arbiter := .idTurn }
    seq := { ready.seq with state := .disarmRelay, step := some ⟨0, 20⟩ }
    idu := { ready.idu with
      owed := true, due := true, cycle := .starting, startWaits := true, context := some { cycle3 with entered := false } } }

/-- A complete identification whose relay-off wait runs. -/
def closing (home : CycleHome) (s : State) : State :=
  { s with
    arb := { s.arb with arbiter := if home = .idTurn then .idTurn else s.arb.arbiter }
    seq := { s.seq with state := .disarmRelay, step := some ⟨0, 20⟩, tx := some idTx3 }
    idu := { s.idu with cycle := .closing, context := some { cycle3 with home := home } } }

/-- Slot 0's turn `t` instead of the turn that a state has. -/
def localTurn0 (t : Turn) (s : State) : State :=
  { s with arb := { s.arb with
    slots := (s.arb.slots.write 5 .opened).write 0 .holding, arbiter := .turn t, gap := none } }

/-- WI1, routed to LOCAL_KEY, has just changed to `raw`. -/
def localKey (raw : Bool) (s : State) : State :=
  { s with inr := { s.inr with inputs := s.inr.inputs.write 1 ⟨.localKey, .level, .activeHigh, 10, raw, !raw, some 0⟩ } }

/-- Slot 5 on the air with a current limit of 900 and `n` scans counted. -/
def hotCurrent (n : Nat) : State :=
  { onAir with msr := { onAir.msr with
    overcurrentCount := n, limits := { onAir.msr.limits with current := 900 } } }

/-- The station is HELD. -/
def heldStation : State := { withRequest ready with prt := { ready.prt with station := .held } }

/-- An identification on the air on the AMPLIFIED path. -/
def ampSending : State :=
  { sending [⟨true, 3, 1⟩] with seq := { (sending [⟨true, 3, 1⟩]).seq with
    ampkey := true, tx := some { idTx3 with path := .amplified } } }

/-- Slot 5 on the air for 105 ms with its first tenth not counted yet. -/
def overdue : State := { onAir with clock := 105 }

/-- Slot 0 is WAITING at the request of LOCAL_PTT, which has just been let go. -/
def localWaiting : State :=
  { differing .localPtt with
    arb := { (differing .localPtt).arb with
      slots := ready.arb.slots.write 0 (.waiting { request3 with origin := .localPtt }) }
    inr := { ready.inr with
      inputs := ready.inr.inputs.write 3 ⟨.localPtt, .level, .activeHigh, 10, false, true, some 0⟩ } }

/-- Slot 5 on the air for 60 s, and class 2 with a turn limit of `turn` minutes and a transmission limit of `tx` s. -/
def tightClass (turn tx : Nat) : State :=
  aired 600 { onAir with
    clock := 60000
    clt := { onAir.clt with classes := onAir.clt.classes.write 2 { operators with turnLimit := turn, txLimit := tx } } }

/-- WI3, routed to LOCAL_PTT, has just been made. -/
def pressed (s : State) : State :=
  { s with inr := { s.inr with inputs := s.inr.inputs.write 3 ⟨.localPtt, .level, .activeHigh, 10, true, false, some 0⟩ } }

/-! ### Ill-formed commands (WellFormed) -/

theorem test_wf_tag : (Instr.presence 256 5).wf = false := by decide
theorem test_wf_actor : (Instr.presence 0 256).wf = false := by decide
theorem test_wf_fits : (Instr.presence 255 255).wf = true := by decide

/-- A SetStation payload whose fields all fit. -/
def station0 : StationArgs :=
  ⟨0, 0, 0, 0, 0, 0, 0, 0, 0, 0, 0, 20, 0, 50, 500, 1, 1, 1, 10, 1, ['G'], 60, 0, 5, 10, 1⟩

theorem test_wf_station : station0.wf = true := by decide
theorem test_wf_station_half : { station0 with turnGap := 65536 }.wf = false := by decide
theorem test_wf_station_byte : { station0 with idSpeed := 256 }.wf = false := by decide
theorem test_wf_station_callsign : { station0 with callsign := [Char.ofNat 256] }.wf = false := by decide
theorem test_wf_station_payload : { station0 with callsign := List.replicate 208 'A' }.wf = false := by decide +kernel

/-- A SetClass payload whose fields all fit. -/
def class0 : ClassArgs := ⟨7, [0], Table.build fun _ => 1, [0], 3, [1], 120, 10, 600⟩

theorem test_wf_class : class0.wf = true := by decide +kernel
theorem test_wf_class_byte : { class0 with turnLimit := 256 }.wf = false := by decide +kernel
theorem test_wf_class_half : { class0 with txLimit := 65536 }.wf = false := by decide +kernel
theorem test_wf_class_set : { class0 with bands := [256] }.wf = false := by decide +kernel
theorem test_wf_class_ceiling : { class0 with ceilings := Table.build fun _ => 65536 }.wf = false := by decide +kernel
theorem test_wf_class_payload : { class0 with bands := List.replicate 212 0 }.wf = false := by decide +kernel
theorem test_wf_band : (BandArgs.mk 256 1 1 1 1 10).wf = false ∧ (BandArgs.mk 0 1 1 65536 1 10).wf = false := by decide
theorem test_wf_calibration : (CalArgs.mk 256 0 []).wf = false ∧ (CalArgs.mk 0 0 [(65536, 0)]).wf = false ∧
    (CalArgs.mk 0 0 [(1, 256)]).wf = false ∧ (CalArgs.mk 0 0 (List.replicate 82 (1, 1))).wf = false := by decide +kernel
theorem test_wf_profile : (ProfileArgs.mk 0 0 0 0 0 65536).wf = false := by decide
theorem test_wf_input : (InputArgs.mk 256 0 0 0 0).wf = false ∧ (InputArgs.mk 0 0 0 0 65536).wf = false := by decide
theorem test_wf_limits : (LimitsArgs.mk 0 0 0 256 0 0 0 0 0 0 0).wf = false ∧
    (LimitsArgs.mk 65536 0 0 0 0 0 0 0 0 0 0).wf = false := by decide
theorem test_wf_open : (OpenArgs.mk 256 [] 0 0 0).wf = false ∧ (OpenArgs.mk 0 [] 0 0 4294967296).wf = false ∧
    (OpenArgs.mk 0 (List.replicate 240 'A') 0 0 0).wf = false := by decide +kernel
theorem test_wf_counters : (Instr.clearCounters 0 255 [256]).wf = false ∧
    (Instr.clearCounters 0 255 (List.replicate 247 0)).wf = false := by decide +kernel
theorem test_wf_index : (Instr.querySlot 0 255 256).wf = false ∧ (Instr.queryCal 0 255 0 256).wf = false ∧
    (Instr.queryRecords 0 255 4294967296).wf = false := by decide
theorem test_wf_allowance : (Instr.setAllowance 0 255 0 0 4294967296).wf = false := by decide
theorem test_wf_request : (Instr.request 0 5 0 0 65536 0).wf = false ∧ (Instr.setPower 0 5 65536).wf = false ∧
    (Instr.seize 0 255 256 0 0 0).wf = false := by decide
theorem test_wf_keyEvents : (Instr.keyEvents 0 5 [(256, 0)]).wf = false ∧
    (Instr.keyEvents 0 5 (List.replicate 82 (1, 0))).wf = true ∧
    (Instr.keyEvents 0 5 (List.replicate 83 (1, 0))).wf = false := by decide +kernel
theorem test_wf_unknownKind : (Instr.unknownKindRequest 0x23 0 0).wf = false ∧
    (Instr.unknownKindRequest 256 0 0).wf = false ∧ (Instr.unknownKindRequest 0x16 0 0).wf = true := by decide
theorem test_wf_frame : (Instr.frameReceived ⟨0x23, 0, 0, List.replicate 248 0, 0⟩).wf = false := by decide +kernel

/-! ### Single steps, with the results the spec works out -/

/-- The Release of chapter 11's worked example: LENGTH 3, KIND 0x22, TAG 0x41, ACTOR 5, CHECK 0x95. -/
theorem test_release_frame : frameSum ⟨0x22, 0x41, 5, [], 0x95⟩ = 0 ∧
    parseFrame ⟨0x22, 0x41, 5, [], 0x95⟩ = .command (.release 0x41 5) := by decide +kernel

/-- A payload of another length is BAD_LENGTH (R183). -/
theorem test_release_length : parseFrame ⟨0x22, 0x41, 5, [0], 0x95⟩ = .badLength := by decide +kernel

/-- Chapter 2's worked example: after slot 5's grant from the ranks of a full reset, slot 9 has rank 23, slot 12 has 20
and slot 3 keeps 28. -/
theorem test_rotate : [3, 5, 9, 12].map (rotate State.reset.arb.ranks 5).read = [28, 0, 23, 20] := by decide +kernel

/-- Chapter 5's barefoot curve (band 2): 0, 4, 25, 62, 100 and 150 W give 0, 17, 80, 143, 190 and 220. -/
theorem test_driveCode_barefoot :
    [0, 4, 25, 62, 100, 150].map (driveCode (some curve3)) = [0, 17, 80, 143, 190, 220] := by decide +kernel

/-- Chapter 5's amplified curve (band 5): 500, 433, 260 and 69 W give 193, 184, 159 and 100. -/
theorem test_driveCode_amplified :
    [500, 433, 260, 69].map (driveCode (some ⟨#[⟨10, 40⟩, ⟨50, 88⟩, ⟨100, 120⟩, ⟨200, 150⟩, ⟨400, 180⟩, ⟨600, 205⟩,
      ⟨800, 228⟩, ⟨1000, 250⟩], rfl⟩)) = [193, 184, 159, 100] := by decide +kernel

/-- Chapter 6's worked example, scan 1: F 512 and R 70 give r 136 and, from f 256, the factor 222. -/
theorem test_foldback : (match execScanCompletion 512 70 0 0 500 onAir with
    | .next t => (t.msr.factor, t.msr.lastReflection)
    | _ => (0, none)) = (222, some 136) := by decide +kernel

/-- Chapter 8's worked example: ZZ9ZZ takes 73 units. -/
theorem test_message : ((message ['Z', 'Z', '9', 'Z', 'Z']).map (·.units)).sum = 73 := by decide +kernel

/-- Chapter 4's worked example: at 1,000 a DOWN stamped 65,500 opens a burst with the offset 1,156 and is queued at
1,120. -/
theorem test_keyEvents_offset : (match exec (.keyEvents 1 5 [(1, 65500)]) { cwTurn with clock := 1000 } with
    | .next t => (t.ktl.burst.map (·.offset), t.ktl.timeline.map (·.at_))
    | _ => (none, [])) = (some 1156, [1120]) := by decide +kernel

/-- With nothing to do one millisecond passes. -/
theorem test_idle : (match step State.reset with
    | .next t => t.clock
    | _ => 0) = 1 := by decide +kernel

/-- A request of a VACANT slot is answered BAD_ACTOR (R183). -/
theorem test_vacant : (match exec (.pttOn 1 5) State.reset with
    | .next t => t.lnk.reply.map (·.status)
    | _ => none) = some .badActor := by decide +kernel

/-- No row of the table has bits, so no word spells a command. -/
theorem test_decode : decodeTableWord 16 0x2203 = none ∧ State.reset.withFetchWord 16 0x2203 = State.reset :=
  ⟨rfl, rfl⟩

/-! ### Witnesses: for each clause of a statement with hypotheses, operands and a state that meet them -/

theorem witness_IdleStep :
    (∃ (s : State),
      s.pending = [] ∧ s.rst = true) ∧
    (∃ (i : Instr) (s : State),
      s.pending = [] ∧ s.rst = false ∧ s.nextDue = some i) ∧
    (∃ (f : RawFrame) (i : Instr) (s : State),
      s.pending = [] ∧ s.rst = false ∧ s.nextDue = none ∧ s.nextFrameIn = some f ∧ parseFrame f = .command i) ∧
    (∃ (f : RawFrame) (s : State),
      s.pending = [] ∧ s.rst = false ∧ s.nextDue = none ∧ s.nextFrameIn = some f ∧ parseFrame f = .badLength) ∧
    (∃ (f : RawFrame) (a : Actor) (s : State),
      s.pending = [] ∧ s.rst = false ∧ s.nextDue = none ∧ s.tenthsDue = 0 ∧ s.nextFrameIn = some f ∧ parseFrame f = .unknownTopic ∧ actorOf f.actor.toNat = some a ∧ s.permitsActor .anyActor a = true) ∧
    (∃ (s : State),
      s.pending = [] ∧ s.rst = false ∧ s.nextDue = none ∧ s.nextFrameIn = none) :=
  ⟨⟨({ State.reset with rst := true }), by decide +kernel⟩,
    ⟨.stationSecondTick, ({ State.reset with clock := 1000 }), by decide +kernel⟩,
    ⟨presenceFrame, (.presence 7 5), ({ State.reset with lnk := { State.reset.lnk with buffer := [presenceFrame] } }), by decide +kernel⟩,
    ⟨longFrame, ({ State.reset with lnk := { State.reset.lnk with buffer := [longFrame] } }), by decide +kernel⟩,
    ⟨topicFrame, .station, ({ State.reset with lnk := { State.reset.lnk with buffer := [topicFrame] } }), by decide +kernel⟩,
    ⟨State.reset, by decide +kernel⟩⟩

theorem witness_NothingMovesUnderRst :
    (∃ (c : Instr) (s : State),
      s.rst = true ∧ c ≠ .rstAsserted ∧ c ≠ .rstDeasserted ∧ (∀ x, c ≠ .inputLevelChange x)) ∧
    (∃ (i : InputId) (high : Bool) (s : State),
      s.rst = true) ∧
    (∃ (asserted : Bool) (s : State),
      s.rst = true) :=
  ⟨⟨(.pttOn 1 5), ({ State.reset with rst := true }), rfl, nofun, nofun, nofun⟩,
    ⟨3, true, ({ State.reset with rst := true }), by decide +kernel⟩,
    ⟨true, ({ State.reset with rst := true }), by decide +kernel⟩⟩

theorem witness_RestartResetsAfterItsReply :
    (∃ (tag : Nat) (s : State),
      s.closed = false ∧ s.tenthsDue = 0) ∧
    (∃ (r : Reply) (s : State),
      s.rst = false ∧ s.lnk.restarting = false ∧ s.lnk.reply = some r) ∧
    (∃ (p : Report) (l : List Report) (r : Reply) (s : State),
      s.rst = false ∧ s.lnk.restarting = false ∧ s.lnk.reply = some r ∧ r.ahead = 0 ∧ s.lnk.reports = p :: l) ∧
    (∃ (s : State),
      s.lnk.reports = []) :=
  ⟨⟨255, State.reset, by decide +kernel⟩,
    ⟨(⟨0xA3, 1, .ok, .empty, 1⟩), ({ State.reset with lnk := { State.reset.lnk with reply := some ⟨0xA3, 1, .ok, .empty, 1⟩, reports := [.spuriousLocal .localPtt] } }), by decide +kernel⟩,
    ⟨(.spuriousLocal .localPtt), [], (⟨0xA3, 1, .ok, .empty, 0⟩), ({ State.reset with lnk := { State.reset.lnk with reply := some ⟨0xA3, 1, .ok, .empty, 0⟩, reports := [.spuriousLocal .localPtt] } }), by decide +kernel⟩,
    ⟨State.reset, by decide +kernel⟩⟩

theorem witness_RequestsAreCheckedFirst :
    (∃ (i : Instr) (q : Asked) (s : State),
      asked i = some q ∧ s.closed = true) ∧
    (∃ (i : Instr) (q : Asked) (s : State),
      asked i = some q ∧ s.closed = false ∧ s.tenthsDue = 0 ∧ (∀ a ∈ actorOf q.actor, s.permitsActor q.who a = false)) ∧
    (∃ (kind : Nat) (tag : Nat) (actor : Nat) (s : State),
      catalogueKind kind = false ∧ s.closed = false) ∧
    (∃ (f : RawFrame) (s : State),
      s.closed = false) ∧
    (∃ (f : RawFrame),
      f.kind ∈ [0x01, 0x02, 0x03, 0x10, 0x21, 0x22, 0x23, 0x24, 0x25, 0x34, 0x35, 0x36] ∧ f.payload ≠ []) ∧
    (∃ (f : RawFrame),
      f.kind = 0x0A ∧ f.payload.length ≠ 20) ∧
    (∃ (f : RawFrame),
      f.kind = 0x0A ∧ f.payload.length = 20) ∧
    (∃ (f : RawFrame),
      f.kind = 0x0E) :=
  ⟨⟨(.presence 1 5), (⟨0x23, 1, 5, .ownSlot⟩), ({ State.reset with rst := true }), by decide +kernel⟩,
    ⟨(.presence 1 31), (⟨0x23, 1, 31, .ownSlot⟩), State.reset, by decide +kernel⟩,
    ⟨0x16, 9, 5, State.reset, by decide +kernel⟩,
    ⟨longFrame, State.reset, by decide +kernel⟩,
    ⟨longFrame, by decide +kernel⟩,
    ⟨(⟨0x0A, 1, 255, List.replicate 19 0, 0⟩), by decide +kernel⟩,
    ⟨(⟨0x0A, 1, 255, List.replicate 20 0, 0⟩), by decide +kernel⟩,
    ⟨topicFrame, by decide +kernel⟩⟩

theorem witness_FramesSumToZero :
    (∃ (r : TurnRec),
      (∀ c ∈ r.callsign, c.length ≤ 10)) ∧
    (∃ (a : Option Nat) (b : Option Nat) (l : List TurnRec),
      (∀ r ∈ l, ∀ c ∈ r.callsign, c.length ≤ 10)) :=
  ⟨⟨(⟨1, false, some 5, some (List.replicate 10 'A'), some 0, some 3, .phone, 0, 0, 1, 2, .released⟩), by decide +kernel⟩,
    ⟨(some 1), (some 7), ([⟨1, false, some 5, none, some 0, some 3, .phone, 0, 0, 1, 2, .released⟩]), by decide +kernel⟩⟩

theorem witness_BytesMakeTheFrame :
    ∃ (f : RawFrame) (s : State),
      f.wf = true ∧ s.rst = false ∧ s.lnk.receiver = .hunting :=
  ⟨presenceFrame, State.reset, by decide +kernel⟩

theorem witness_FramesAreChecked :
    (∃ (f : RawFrame) (s : State),
      s.rst = false ∧ f.wf = true ∧ frameSum f ≠ 0) ∧
    (∃ (f : RawFrame) (s : State),
      s.rst = false ∧ f.wf = true ∧ frameSum f = 0 ∧ 4 ≤ s.lnk.buffer.length) ∧
    (∃ (f : RawFrame) (s : State),
      s.rst = false ∧ f.wf = true ∧ frameSum f = 0 ∧ s.lnk.buffer.length < 4) :=
  ⟨⟨({ presenceFrame with check := 0 }), State.reset, by decide +kernel⟩,
    ⟨presenceFrame, ({ State.reset with lnk := { State.reset.lnk with buffer := List.replicate 4 presenceFrame } }), by decide +kernel⟩,
    ⟨presenceFrame, ({ State.reset with lnk := { State.reset.lnk with buffer := List.replicate 3 presenceFrame } }), by decide +kernel⟩⟩

theorem witness_TheReceiverHunts :
    (∃ (b : Byte) (e : Bool) (s : State),
      s.rst = false ∧ s.lnk.receiver = .hunting) ∧
    (∃ (b : Byte) (l : List Byte) (at_ : Clock) (s : State),
      s.rst = false ∧ s.lnk.receiver = .inFrame l at_ ∧ sinceMs s.clock at_ ≤ 20) ∧
    (∃ (b : Byte) (at_ : Clock) (s : State),
      s.rst = false ∧ s.lnk.receiver = .inFrame [] at_ ∧ sinceMs s.clock at_ ≤ 20 ∧ (b.toNat < 3 ∨ 250 < b.toNat)) ∧
    (∃ (b : Byte) (l : List Byte) (at_ : Clock) (s : State),
      s.rst = false ∧ s.lnk.receiver = .inFrame l at_ ∧ sinceMs s.clock at_ ≤ 20 ∧ (l ≠ [] ∨ (3 ≤ b.toNat ∧ b.toNat ≤ 250)) ∧ frameOf (l ++ [b]) = none) ∧
    (∃ (b : Byte) (l : List Byte) (at_ : Clock) (s : State),
      s.rst = false ∧ s.lnk.receiver = .inFrame l at_ ∧ 20 < sinceMs s.clock at_) ∧
    (∃ (l : List Byte) (at_ : Clock) (s : State),
      s.rst = false ∧ s.lnk.receiver = .inFrame l at_) :=
  ⟨⟨0xA5, false, State.reset, by decide +kernel⟩,
    ⟨0, [3], 0, ({ State.reset with clock := 20, lnk := { State.reset.lnk with receiver := .inFrame [3] 0 } }), by decide +kernel⟩,
    ⟨251, 0, ({ State.reset with lnk := { State.reset.lnk with receiver := .inFrame [] 0 } }), by decide +kernel⟩,
    ⟨250, [], 0, ({ State.reset with lnk := { State.reset.lnk with receiver := .inFrame [] 0 } }), by decide +kernel⟩,
    ⟨0xA5, [3], 0, ({ State.reset with clock := 21, lnk := { State.reset.lnk with receiver := .inFrame [3] 0 } }), by decide +kernel⟩,
    ⟨[], 0, ({ State.reset with lnk := { State.reset.lnk with receiver := .inFrame [] 0 } }), by decide +kernel⟩⟩

theorem witness_RepliesGoBehindEarlierReports :
    (∃ (r : Reply) (s : State),
      s.rst = false ∧ s.lnk.restarting = false ∧ s.lnk.reply = some r ∧ (r.ahead = 0 ∨ s.lnk.reports = [])) ∧
    (∃ (p : Report) (l : List Report) (s : State),
      s.rst = false ∧ s.lnk.restarting = false ∧ s.lnk.reply = none ∧ s.lnk.reports = p :: l) ∧
    (∃ (p : Report) (l : List Report) (r : Reply) (s : State),
      s.rst = false ∧ s.lnk.reply = some r ∧ s.lnk.reports = p :: l ∧ 0 < r.ahead) ∧
    (∃ (s : State),
      s.rst = true) ∧
    (∃ (r : Reply) (s : State),
      s.rst = false ∧ s.lnk.reply = some r ∧ (r.ahead = 0 ∨ s.lnk.reports = [])) ∧
    (∃ (p : Report) (l : List Report) (s : State),
      s.rst = false ∧ s.lnk.reports = p :: l ∧ (∀ r ∈ s.lnk.reply, 0 < r.ahead)) ∧
    (∃ (s : State),
      s.rst = false ∧ s.lnk.reply = none ∧ s.lnk.reports = []) ∧
    (∃ (i : Instr) (q : Asked) (s : State),
      asked i = some q ∧ s.closed = false ∧ s.lnk.reply = none) ∧
    (∃ (s : State),
      s.rst = true) ∧
    (∃ (r : Reply) (s : State),
      s.rst = false ∧ s.lnk.restarting = true ∧ s.lnk.reply = some r ∧ (r.ahead = 0 ∨ s.lnk.reports = [])) ∧
    (∃ (tag : Nat) (s : State),
      s.closed = false ∧ s.lnk.reply = none ∧ s.lnk.lost ≤ 65535) :=
  ⟨⟨(⟨0xA3, 1, .ok, .empty, 0⟩), ({ State.reset with lnk := { State.reset.lnk with reply := some ⟨0xA3, 1, .ok, .empty, 0⟩, reports := [.spuriousLocal .localPtt] } }), by decide +kernel⟩,
    ⟨(.spuriousLocal .localPtt), [], ({ State.reset with lnk := { State.reset.lnk with reports := [.spuriousLocal .localPtt] } }), by decide +kernel⟩,
    ⟨(.spuriousLocal .localPtt), [], (⟨0xA3, 1, .ok, .empty, 1⟩), ({ State.reset with lnk := { State.reset.lnk with reply := some ⟨0xA3, 1, .ok, .empty, 1⟩, reports := [.spuriousLocal .localPtt] } }), by decide +kernel⟩,
    ⟨({ State.reset with rst := true }), by decide +kernel⟩,
    ⟨(⟨0xA3, 1, .ok, .empty, 0⟩), ({ State.reset with lnk := { State.reset.lnk with reply := some ⟨0xA3, 1, .ok, .empty, 0⟩, reports := [.spuriousLocal .localPtt] } }), by decide +kernel⟩,
    ⟨(.spuriousLocal .localPtt), [], ({ State.reset with lnk := { State.reset.lnk with reply := some ⟨0xA3, 1, .ok, .empty, 1⟩, reports := [.spuriousLocal .localPtt] } }), by decide +kernel⟩,
    ⟨State.reset, by decide +kernel⟩,
    ⟨(.presence 1 5), (⟨0x23, 1, 5, .ownSlot⟩), State.reset, by decide +kernel⟩,
    ⟨({ State.reset with rst := true, lnk := { State.reset.lnk with lost := 1 } }), by decide +kernel⟩,
    ⟨(⟨0x81, 1, .ok, .empty, 0⟩), ({ State.reset with lnk := { State.reset.lnk with restarting := true, lost := 1, reply := some ⟨0x81, 1, .ok, .empty, 0⟩ } }), by decide +kernel⟩,
    ⟨1, ({ onAir with lnk := { onAir.lnk with reports := [.spuriousLocal .localPtt] } }), by decide +kernel⟩⟩

theorem witness_EventEnables :
    (∃ (tag : Nat) (x : BitVec 16) (y : BitVec 16) (s : State),
      s.closed = false ∧ s.tenthsDue = 0) ∧
    (∃ (tag : Nat) (x : BitVec 16) (s : State),
      s.closed = false ∧ s.tenthsDue = 0) :=
  ⟨⟨0, 0xFFFF, 0, State.reset, by decide +kernel⟩,
    ⟨0, 0xFFFF, State.reset, by decide +kernel⟩⟩

theorem witness_LinesFollowTheSequencer :
    ∃ (t : State) (s : State),
      s.linesFollow ∧ step s = .next t :=
  ⟨(onAir.elapse 1), onAir, by decide +kernel, rfl⟩

theorem witness_OnTheAirOnlyWhenReady :
    ∃ (t : State) (s : State),
      (s.armsOnlyReady ∧ s.stationFollows) ∧ step s = .next t :=
  ⟨(onAir.elapse 1), onAir, by decide +kernel, rfl⟩

theorem witness_RanksStayAPermutation :
    ∃ (t : State) (s : State),
      s.ranksPermute ∧ step s = .next t :=
  ⟨(onAir.elapse 1), onAir, by decide +kernel, rfl⟩

theorem witness_HoldingMeansHolder :
    (∃ (t : State) (s : State),
      s.oneHolder ∧ step s = .next t) ∧
    (∃ (t : State) (s : State),
      s.marksStand ∧ step s = .next t) ∧
    (∃ (t : State) (s : State),
      s.idRests ∧ step s = .next t) :=
  ⟨⟨(onAir.elapse 1), onAir, by decide +kernel, rfl⟩,
    ⟨(onAir.elapse 1), onAir, by decide +kernel, rfl⟩,
    ⟨(onAir.elapse 1), onAir, by decide +kernel, rfl⟩⟩

theorem witness_CapacitiesHold :
    ∃ (t : State) (s : State),
      s.withinCapacity ∧ step s = .next t :=
  ⟨(onAir.elapse 1), onAir, by decide +kernel, rfl⟩

theorem witness_KillLatchHolds :
    (∃ (c : Instr) (t : State) (s : State),
      s.prt.killLatch = true ∧ exec c s = .next t ∧ t.prt.killLatch = false) ∧
    (∃ (c : Instr) (t : State) (s : State),
      s.prt.killLatch = true ∧ s.stationFollows ∧ s.armsOnlyReady ∧ exec c s = .next t ∧ t.prt.killLatch = true) :=
  ⟨⟨.rstDeasserted, State.reset, ({ State.reset with prt := { State.reset.prt with killLatch := true, station := .killed } }), by decide +kernel, rfl, by decide +kernel⟩,
    ⟨.reportSent, ({ State.reset with prt := { State.reset.prt with killLatch := true, station := .killed } }), ({ State.reset with prt := { State.reset.prt with killLatch := true, station := .killed } }), by decide +kernel, by decide +kernel, by decide +kernel, rfl, by decide +kernel⟩⟩

theorem witness_QueriesOnlyAnswer :
    ∃ (i : Instr) (tag : Nat) (actor : Nat) (a : Actor) (s : State),
      asked i = some ⟨0x0E, tag, actor, .anyActor⟩ ∧ s.takes .anyActor actor a :=
  ⟨(.queryStation 1 255), 1, 255, .station, State.reset, by decide +kernel⟩

theorem witness_QueryContents :
    (∃ (tag : Nat) (actor : Nat) (a : Actor) (c : ClassId) (s : State),
      s.takes .anyActor actor a) ∧
    (∃ (tag : Nat) (actor : Nat) (a : Actor) (n : Nat) (s : State),
      s.takes .anyActor actor a ∧ 8 ≤ n) ∧
    (∃ (tag : Nat) (actor : Nat) (a : Actor) (b : BandId) (s : State),
      s.takes .anyActor actor a) ∧
    (∃ (tag : Nat) (actor : Nat) (a : Actor) (n : Nat) (s : State),
      s.takes .anyActor actor a ∧ 12 ≤ n) ∧
    (∃ (tag : Nat) (actor : Nat) (a : Actor) (b : BandId) (amplified : Bool) (s : State),
      s.takes .anyActor actor a) ∧
    (∃ (tag : Nat) (actor : Nat) (a : Actor) (n : Nat) (m : Nat) (s : State),
      s.takes .anyActor actor a ∧ (12 ≤ n ∨ 2 ≤ m)) ∧
    (∃ (tag : Nat) (actor : Nat) (a : Actor) (w : SlotId) (s : State),
      s.takes .anyActor actor a) ∧
    (∃ (tag : Nat) (actor : Nat) (a : Actor) (n : Nat) (s : State),
      s.takes .anyActor actor a ∧ 32 ≤ n) ∧
    (∃ (tag : Nat) (actor : Nat) (a : Actor) (s : State),
      s.takes .anyActor actor a) ∧
    (∃ (tag : Nat) (actor : Nat) (a : Actor) (s : State),
      s.takes .anyActor actor a) ∧
    (∃ (tag : Nat) (actor : Nat) (a : Actor) (n : Nat) (s : State),
      s.takes .anyActor actor a) ∧
    (∃ (tag : Nat) (actor : Nat) (a : Actor) (n : Nat) (s : State),
      s.takes .anyActor actor a ∧ n < 32) ∧
    (∃ (tag : Nat) (actor : Nat) (a : Actor) (n : Nat) (s : State),
      s.takes .anyActor actor a ∧ 32 ≤ n) ∧
    (∃ (tag : Nat) (actor : Nat) (a : Actor) (s : State),
      s.takes .anyActor actor a) ∧
    (∃ (tag : Nat) (actor : Nat) (a : Actor) (s : State),
      s.takes .anyActor actor a) ∧
    (∃ (tag : Nat) (actor : Nat) (a : Actor) (s : State),
      s.takes .anyActor actor a) ∧
    (∃ (tag : Nat) (actor : Nat) (a : Actor) (s : State),
      s.takes .anyActor actor a) ∧
    (∃ (tag : Nat) (actor : Nat) (a : Actor) (s : State),
      s.takes .anyActor actor a) :=
  ⟨⟨1, 255, .station, 7, State.reset, by decide +kernel⟩,
    ⟨1, 255, .station, 8, State.reset, by decide +kernel⟩,
    ⟨1, 255, .station, 11, State.reset, by decide +kernel⟩,
    ⟨1, 255, .station, 12, State.reset, by decide +kernel⟩,
    ⟨1, 255, .station, 11, true, State.reset, by decide +kernel⟩,
    ⟨1, 255, .station, 0, 2, State.reset, by decide +kernel⟩,
    ⟨1, 255, .station, 31, State.reset, by decide +kernel⟩,
    ⟨1, 255, .station, 32, State.reset, by decide +kernel⟩,
    ⟨1, 255, .station, State.reset, by decide +kernel⟩,
    ⟨1, 255, .station, State.reset, by decide +kernel⟩,
    ⟨1, 255, .station, 0, State.reset, by decide +kernel⟩,
    ⟨1, 255, .station, 31, State.reset, by decide +kernel⟩,
    ⟨1, 255, .station, 32, State.reset, by decide +kernel⟩,
    ⟨1, 255, .station, State.reset, by decide +kernel⟩,
    ⟨1, 255, .station, State.reset, by decide +kernel⟩,
    ⟨1, 255, .station, State.reset, by decide +kernel⟩,
    ⟨1, 255, .station, State.reset, by decide +kernel⟩,
    ⟨1, 255, .station, State.reset, by decide +kernel⟩⟩

theorem witness_QueueIsInGrantOrder :
    ∃ (s : State),
      s.ranksPermute :=
  ⟨State.reset, by decide +kernel⟩

theorem witness_SetStationStores :
    (∃ (tag : Nat) (p : StationArgs) (b : BandId) (e : Emission) (q : Polarities) (s : State),
      s.closed = false ∧ s.tenthsDue = 0 ∧ p.defaultBand = b.val ∧ emissionOf p.defaultEmission = some e ∧ polaritiesOf p = some q ∧ p.autoAmp < 2 ∧ (p.callsign.length ≤ 10 ∧ p.callsign.all callsignChar = true) ∧ ((s.prt.station = .uncommissioned ∧ s.seq.state = .quiet) ∨
      (q = s.seq.polarities ∧ clamp 1 200 p.barefootCeiling = s.drv.barefootCeiling ∧ p.callsign ≠ []))) ∧
    (∃ (tag : Nat) (p : StationArgs) (s : State),
      s.closed = false ∧ s.tenthsDue = 0 ∧ (12 ≤ p.defaultBand ∨ 3 ≤ p.defaultEmission ∨ 2 ≤ p.polTrr ∨ 2 ≤ p.polAmpkey ∨ 2 ≤ p.polExc ∨ 2 ≤ p.polKey ∨
      2 ≤ p.polIdm ∨ 2 ≤ p.polAmppwr ∨ 2 ≤ p.autoAmp ∨ 10 < p.callsign.length ∨ p.callsign.all callsignChar = false)) ∧
    (∃ (tag : Nat) (p : StationArgs) (q : Polarities) (b : BandId) (e : Emission) (s : State),
      s.closed = false ∧ s.tenthsDue = 0 ∧ p.defaultBand = b.val ∧ emissionOf p.defaultEmission = some e ∧ polaritiesOf p = some q ∧ p.autoAmp < 2 ∧ (p.callsign.length ≤ 10 ∧ p.callsign.all callsignChar = true) ∧ q ≠ s.seq.polarities ∧ (s.prt.station ≠ .uncommissioned ∨ s.seq.state ≠ .quiet)) ∧
    (∃ (tag : Nat) (p : StationArgs) (b : BandId) (e : Emission) (q : Polarities) (s : State),
      s.closed = false ∧ s.tenthsDue = 0 ∧ p.defaultBand = b.val ∧ emissionOf p.defaultEmission = some e ∧ polaritiesOf p = some q ∧ p.autoAmp < 2 ∧ (p.callsign.length ≤ 10 ∧ p.callsign.all callsignChar = true) ∧ s.prt.station ≠ .uncommissioned ∧ q = s.seq.polarities ∧ p.callsign ≠ [] ∧ clamp 1 200 p.barefootCeiling ≠ s.drv.barefootCeiling ∧ configFault s.drv.bands s.drv.barefootCal s.drv.amplifiedCal (clamp 1 200 p.barefootCeiling) = none) ∧
    (∃ (tag : Nat) (p : StationArgs) (b : BandId) (e : Emission) (q : Polarities) (y : ConfigReason × Option BandId) (s : State),
      s.closed = false ∧ s.tenthsDue = 0 ∧ p.defaultBand = b.val ∧ emissionOf p.defaultEmission = some e ∧ polaritiesOf p = some q ∧ p.autoAmp < 2 ∧ (p.callsign.length ≤ 10 ∧ p.callsign.all callsignChar = true) ∧ s.prt.station ≠ .uncommissioned ∧ q = s.seq.polarities ∧ ((clamp 1 200 p.barefootCeiling ≠ s.drv.barefootCeiling ∧
        configFault s.drv.bands s.drv.barefootCal s.drv.amplifiedCal (clamp 1 200 p.barefootCeiling) = some y) ∨
      (p.callsign = [] ∧ y = (.noCallsign, none) ∧ (clamp 1 200 p.barefootCeiling = s.drv.barefootCeiling ∨
        configFault s.drv.bands s.drv.barefootCal s.drv.amplifiedCal (clamp 1 200 p.barefootCeiling) = none)))) :=
  ⟨⟨1, (⟨0, 0, 0, 0, 0, 0, 0, 0, 0, 0, 0, 20, 0, 50, 500, 1, 1, 1, 10, 1, ['G'], 60, 0, 5, 10, 1⟩), 0, .cw, (⟨.high, .high, .high, .high, .high, .high⟩), State.reset, by decide +kernel⟩,
    ⟨1, (⟨0, 0, 12, 0, 0, 0, 0, 0, 0, 0, 0, 20, 0, 50, 500, 1, 1, 1, 10, 1, ['G'], 60, 0, 5, 10, 1⟩), State.reset, by decide +kernel⟩,
    ⟨1, (⟨0, 0, 0, 0, 0, 1, 0, 0, 0, 0, 0, 20, 0, 50, 500, 1, 1, 1, 10, 1, ['G'], 60, 0, 5, 10, 1⟩), (⟨.low, .high, .high, .high, .high, .high⟩), 0, .cw, ({ State.reset with seq := { State.reset.seq with state := .retune } }), by decide +kernel⟩,
    ⟨1, (⟨0, 0, 0, 0, 0, 0, 0, 0, 0, 0, 0, 20, 0, 50, 500, 1, 120, 1, 10, 1, ['G'], 60, 0, 5, 10, 1⟩), 0, .cw, (⟨.high, .high, .high, .high, .high, .high⟩), onAir, by decide +kernel⟩,
    ⟨1, (⟨0, 0, 0, 0, 0, 0, 0, 0, 0, 0, 0, 20, 0, 50, 500, 1, 99, 1, 10, 1, ['G'], 60, 0, 5, 10, 1⟩), 0, .cw, (⟨.high, .high, .high, .high, .high, .high⟩), ((.noAmplifiedCal, some 3)), ready, by decide +kernel⟩⟩

theorem witness_SetClassStoresAndRechecks :
    (∃ (tag : Nat) (p : ClassArgs) (c : ClassId) (s : State),
      s.closed = false ∧ s.tenthsDue = 0 ∧ s.oneHolder ∧ p.classIx = c.val ∧ ((∀ n ∈ p.bands, n < 12) ∧ (∀ n ∈ p.emissions, n < 3) ∧ (∀ n ∈ p.capabilities, n < 2)) ∧ (p.bands.Nodup ∧ p.emissions.Nodup ∧ p.capabilities.Nodup)) ∧
    (∃ (tag : Nat) (p : ClassArgs) (c : ClassId) (tn : Turn) (k : TurnEndCause) (s : State),
      s.oneHolder ∧ s.turn = some tn ∧ s.closed = false ∧ s.tenthsDue = 0 ∧ p.classIx = c.val ∧ ((∀ n ∈ p.bands, n < 12) ∧ (∀ n ∈ p.emissions, n < 3) ∧ (∀ n ∈ p.capabilities, n < 2)) ∧ (p.bands.Nodup ∧ p.emissions.Nodup ∧ p.capabilities.Nodup) ∧ (s.identity tn.holder).classIx = c ∧ ((s.drv.bands.read tn.band).enabled && ({
      bands := Table.build fun b => decide (b.val ∈ p.bands), ceilings := Table.build fun b => clamp 1 4000 (p.ceilings.read b)
      cw := decide (0 ∈ p.emissions), phone := decide (1 ∈ p.emissions), data := decide (2 ∈ p.emissions)
      priority := clamp 0 3 p.priority, control := decide (0 ∈ p.capabilities), singleOver := decide (1 ∈ p.capabilities)
      turnLimit := clamp 1 120 p.turnLimit, idleHang := clamp 10 900 p.idleHang, txLimit := clamp 30 600 p.txLimit } : ClassRec).bands.read tn.band && ({
      bands := Table.build fun b => decide (b.val ∈ p.bands), ceilings := Table.build fun b => clamp 1 4000 (p.ceilings.read b)
      cw := decide (0 ∈ p.emissions), phone := decide (1 ∈ p.emissions), data := decide (2 ∈ p.emissions)
      priority := clamp 0 3 p.priority, control := decide (0 ∈ p.capabilities), singleOver := decide (1 ∈ p.capabilities)
      turnLimit := clamp 1 120 p.turnLimit, idleHang := clamp 10 900 p.idleHang, txLimit := clamp 30 600 p.txLimit } : ClassRec).allows tn.emission) = true ∧ tn.sub ≠ .paused ∧ s.settled ∧ s.arb.turnGap ≠ 0 ∧ s.idu.due = false ∧ s.idu.cycle = .idle ∧ s.idu.startWaits = false ∧ s.passedLimit tn (s.clt.classes.read c) ({
      bands := Table.build fun b => decide (b.val ∈ p.bands), ceilings := Table.build fun b => clamp 1 4000 (p.ceilings.read b)
      cw := decide (0 ∈ p.emissions), phone := decide (1 ∈ p.emissions), data := decide (2 ∈ p.emissions)
      priority := clamp 0 3 p.priority, control := decide (0 ∈ p.capabilities), singleOver := decide (1 ∈ p.capabilities)
      turnLimit := clamp 1 120 p.turnLimit, idleHang := clamp 10 900 p.idleHang, txLimit := clamp 30 600 p.txLimit } : ClassRec) = some k) ∧
    (∃ (tag : Nat) (p : ClassArgs) (c : ClassId) (tn : Turn) (s : State),
      s.oneHolder ∧ s.turn = some tn ∧ s.closed = false ∧ s.tenthsDue = 0 ∧ p.classIx = c.val ∧ ((∀ n ∈ p.bands, n < 12) ∧ (∀ n ∈ p.emissions, n < 3) ∧ (∀ n ∈ p.capabilities, n < 2)) ∧ (p.bands.Nodup ∧ p.emissions.Nodup ∧ p.capabilities.Nodup) ∧ (s.identity tn.holder).classIx = c ∧ ((s.drv.bands.read tn.band).enabled && ({
      bands := Table.build fun b => decide (b.val ∈ p.bands), ceilings := Table.build fun b => clamp 1 4000 (p.ceilings.read b)
      cw := decide (0 ∈ p.emissions), phone := decide (1 ∈ p.emissions), data := decide (2 ∈ p.emissions)
      priority := clamp 0 3 p.priority, control := decide (0 ∈ p.capabilities), singleOver := decide (1 ∈ p.capabilities)
      turnLimit := clamp 1 120 p.turnLimit, idleHang := clamp 10 900 p.idleHang, txLimit := clamp 30 600 p.txLimit } : ClassRec).bands.read tn.band && ({
      bands := Table.build fun b => decide (b.val ∈ p.bands), ceilings := Table.build fun b => clamp 1 4000 (p.ceilings.read b)
      cw := decide (0 ∈ p.emissions), phone := decide (1 ∈ p.emissions), data := decide (2 ∈ p.emissions)
      priority := clamp 0 3 p.priority, control := decide (0 ∈ p.capabilities), singleOver := decide (1 ∈ p.capabilities)
      turnLimit := clamp 1 120 p.turnLimit, idleHang := clamp 10 900 p.idleHang, txLimit := clamp 30 600 p.txLimit } : ClassRec).allows tn.emission) = true ∧ s.passedLimit tn (s.clt.classes.read c) ({
      bands := Table.build fun b => decide (b.val ∈ p.bands), ceilings := Table.build fun b => clamp 1 4000 (p.ceilings.read b)
      cw := decide (0 ∈ p.emissions), phone := decide (1 ∈ p.emissions), data := decide (2 ∈ p.emissions)
      priority := clamp 0 3 p.priority, control := decide (0 ∈ p.capabilities), singleOver := decide (1 ∈ p.capabilities)
      turnLimit := clamp 1 120 p.turnLimit, idleHang := clamp 10 900 p.idleHang, txLimit := clamp 30 600 p.txLimit } : ClassRec) = none ∧ s.passedTxLimit (s.clt.classes.read c) ({
      bands := Table.build fun b => decide (b.val ∈ p.bands), ceilings := Table.build fun b => clamp 1 4000 (p.ceilings.read b)
      cw := decide (0 ∈ p.emissions), phone := decide (1 ∈ p.emissions), data := decide (2 ∈ p.emissions)
      priority := clamp 0 3 p.priority, control := decide (0 ∈ p.capabilities), singleOver := decide (1 ∈ p.capabilities)
      turnLimit := clamp 1 120 p.turnLimit, idleHang := clamp 10 900 p.idleHang, txLimit := clamp 30 600 p.txLimit } : ClassRec) = true ∧ ({
      bands := Table.build fun b => decide (b.val ∈ p.bands), ceilings := Table.build fun b => clamp 1 4000 (p.ceilings.read b)
      cw := decide (0 ∈ p.emissions), phone := decide (1 ∈ p.emissions), data := decide (2 ∈ p.emissions)
      priority := clamp 0 3 p.priority, control := decide (0 ∈ p.capabilities), singleOver := decide (1 ∈ p.capabilities)
      turnLimit := clamp 1 120 p.turnLimit, idleHang := clamp 10 900 p.idleHang, txLimit := clamp 30 600 p.txLimit } : ClassRec).singleOver = false ∧ s.seq.active.tail ≠ 0 ∧ s.settled) ∧
    (∃ (tag : Nat) (p : ClassArgs) (c : ClassId) (tn : Turn) (s : State),
      s.oneHolder ∧ s.turn = some tn ∧ s.closed = false ∧ s.tenthsDue = 0 ∧ p.classIx = c.val ∧ ((∀ n ∈ p.bands, n < 12) ∧ (∀ n ∈ p.emissions, n < 3) ∧ (∀ n ∈ p.capabilities, n < 2)) ∧ (p.bands.Nodup ∧ p.emissions.Nodup ∧ p.capabilities.Nodup) ∧ (s.identity tn.holder).classIx = c ∧ ((s.drv.bands.read tn.band).enabled && ({
      bands := Table.build fun b => decide (b.val ∈ p.bands), ceilings := Table.build fun b => clamp 1 4000 (p.ceilings.read b)
      cw := decide (0 ∈ p.emissions), phone := decide (1 ∈ p.emissions), data := decide (2 ∈ p.emissions)
      priority := clamp 0 3 p.priority, control := decide (0 ∈ p.capabilities), singleOver := decide (1 ∈ p.capabilities)
      turnLimit := clamp 1 120 p.turnLimit, idleHang := clamp 10 900 p.idleHang, txLimit := clamp 30 600 p.txLimit } : ClassRec).bands.read tn.band && ({
      bands := Table.build fun b => decide (b.val ∈ p.bands), ceilings := Table.build fun b => clamp 1 4000 (p.ceilings.read b)
      cw := decide (0 ∈ p.emissions), phone := decide (1 ∈ p.emissions), data := decide (2 ∈ p.emissions)
      priority := clamp 0 3 p.priority, control := decide (0 ∈ p.capabilities), singleOver := decide (1 ∈ p.capabilities)
      turnLimit := clamp 1 120 p.turnLimit, idleHang := clamp 10 900 p.idleHang, txLimit := clamp 30 600 p.txLimit } : ClassRec).allows tn.emission) = true ∧ s.passedLimit tn (s.clt.classes.read c) ({
      bands := Table.build fun b => decide (b.val ∈ p.bands), ceilings := Table.build fun b => clamp 1 4000 (p.ceilings.read b)
      cw := decide (0 ∈ p.emissions), phone := decide (1 ∈ p.emissions), data := decide (2 ∈ p.emissions)
      priority := clamp 0 3 p.priority, control := decide (0 ∈ p.capabilities), singleOver := decide (1 ∈ p.capabilities)
      turnLimit := clamp 1 120 p.turnLimit, idleHang := clamp 10 900 p.idleHang, txLimit := clamp 30 600 p.txLimit } : ClassRec) = none ∧ s.passedTxLimit (s.clt.classes.read c) ({
      bands := Table.build fun b => decide (b.val ∈ p.bands), ceilings := Table.build fun b => clamp 1 4000 (p.ceilings.read b)
      cw := decide (0 ∈ p.emissions), phone := decide (1 ∈ p.emissions), data := decide (2 ∈ p.emissions)
      priority := clamp 0 3 p.priority, control := decide (0 ∈ p.capabilities), singleOver := decide (1 ∈ p.capabilities)
      turnLimit := clamp 1 120 p.turnLimit, idleHang := clamp 10 900 p.idleHang, txLimit := clamp 30 600 p.txLimit } : ClassRec) = false ∧ s.settled) ∧
    (∃ (tag : Nat) (p : ClassArgs) (c : ClassId) (w : SlotId) (x : RequestRec) (s : State),
      s.oneHolder ∧ s.tenancy w = .waiting x ∧ s.closed = false ∧ s.tenthsDue = 0 ∧ p.classIx = c.val ∧ ((∀ n ∈ p.bands, n < 12) ∧ (∀ n ∈ p.emissions, n < 3) ∧ (∀ n ∈ p.capabilities, n < 2)) ∧ (p.bands.Nodup ∧ p.emissions.Nodup ∧ p.capabilities.Nodup) ∧ (s.identity w).classIx = c ∧ ((s.drv.bands.read x.band).enabled && ({
      bands := Table.build fun b => decide (b.val ∈ p.bands), ceilings := Table.build fun b => clamp 1 4000 (p.ceilings.read b)
      cw := decide (0 ∈ p.emissions), phone := decide (1 ∈ p.emissions), data := decide (2 ∈ p.emissions)
      priority := clamp 0 3 p.priority, control := decide (0 ∈ p.capabilities), singleOver := decide (1 ∈ p.capabilities)
      turnLimit := clamp 1 120 p.turnLimit, idleHang := clamp 10 900 p.idleHang, txLimit := clamp 30 600 p.txLimit } : ClassRec).bands.read x.band && ({
      bands := Table.build fun b => decide (b.val ∈ p.bands), ceilings := Table.build fun b => clamp 1 4000 (p.ceilings.read b)
      cw := decide (0 ∈ p.emissions), phone := decide (1 ∈ p.emissions), data := decide (2 ∈ p.emissions)
      priority := clamp 0 3 p.priority, control := decide (0 ∈ p.capabilities), singleOver := decide (1 ∈ p.capabilities)
      turnLimit := clamp 1 120 p.turnLimit, idleHang := clamp 10 900 p.idleHang, txLimit := clamp 30 600 p.txLimit } : ClassRec).allows x.emission) = true ∧ s.settled ∧ s.arb.turnGap ≠ 0) ∧
    (∃ (tag : Nat) (p : ClassArgs) (s : State),
      s.closed = false ∧ s.tenthsDue = 0 ∧ (8 ≤ p.classIx ∨ (∃ n ∈ p.bands, 12 ≤ n) ∨ (∃ n ∈ p.emissions, 3 ≤ n) ∨ (∃ n ∈ p.capabilities, 2 ≤ n) ∨ ¬p.bands.Nodup ∨
      ¬p.emissions.Nodup ∨ ¬p.capabilities.Nodup)) :=
  ⟨⟨1, (⟨7, [0, 11], Table.build fun _ => 1, [0, 2], 3, [1], 120, 10, 600⟩), 7, State.reset, by decide +kernel⟩,
    ⟨1, (⟨1, [3, 5], Table.build fun _ => 500, [0, 1, 2], 0, [], 1, 60, 180⟩), 1, turnOn, .turnLimit, (aired 600 { onAir with clock := 60000 }), by decide +kernel⟩,
    ⟨1, (⟨1, [3, 5], Table.build fun _ => 500, [0, 1, 2], 0, [], 10, 60, 60⟩), 1, turnOn, (aired 600 { onAir with clock := 60000 }), by decide +kernel⟩,
    ⟨1, (⟨1, [3, 5], Table.build fun _ => 500, [0, 1, 2], 0, [], 10, 60, 60⟩), 1, turnOn, onAir, by decide +kernel⟩,
    ⟨1, (⟨2, [3, 5], Table.build fun _ => 500, [0, 1, 2], 0, [], 10, 60, 180⟩), 2, 9, ({ request3 with mark := true }), ({ ready with arb := { ready.arb with slots := ready.arb.slots.write 9 (.waiting { request3 with mark := true }) } }), by decide +kernel⟩,
    ⟨1, (⟨8, [0, 11], Table.build fun _ => 1, [0, 2], 3, [1], 120, 10, 600⟩), State.reset, by decide +kernel⟩⟩

theorem witness_SetBandStores :
    (∃ (tag : Nat) (p : BandArgs) (b : BandId) (c : Fin 16) (s : State),
      s.closed = false ∧ s.tenthsDue = 0 ∧ p.band = b.val ∧ p.enabled < 2 ∧ p.relayCode = c.val ∧ (s.prt.station = .uncommissioned ∨ (s.seq.state = .quiet ∧ (∀ tn ∈ s.turn, tn.band ≠ b) ∧
      configFault (s.drv.bands.write b ⟨decide (p.enabled = 1), c, clamp 1 4000 p.stationCeiling, clamp 1 4000 p.dutyCeiling, clamp 10 4000 p.fullScale⟩) s.drv.barefootCal s.drv.amplifiedCal s.drv.barefootCeiling = none))) ∧
    (∃ (tag : Nat) (p : BandArgs) (b : BandId) (c : Fin 16) (s : State),
      s.closed = false ∧ s.tenthsDue = 0 ∧ p.band = b.val ∧ p.enabled < 2 ∧ p.relayCode = c.val ∧ s.prt.station ≠ .uncommissioned ∧ s.seq.state = .quiet ∧ (∀ tn ∈ s.turn, tn.band ≠ b) ∧ configFault (s.drv.bands.write b ⟨decide (p.enabled = 1), c, clamp 1 4000 p.stationCeiling, clamp 1 4000 p.dutyCeiling, clamp 10 4000 p.fullScale⟩) s.drv.barefootCal s.drv.amplifiedCal s.drv.barefootCeiling = none ∧ s.seq.currentBand = some b ∧ (s.drv.bands.read b).relayCode ≠ c ∧ ((s.drv.bands.read b).enabled = false ∨ p.enabled = 1 ∨ s.turn = none) ∧ s.settled) ∧
    (∃ (tag : Nat) (p : BandArgs) (b : BandId) (s : State),
      s.closed = false ∧ s.tenthsDue = 0 ∧ p.band = b.val ∧ p.enabled < 2 ∧ p.relayCode < 16 ∧ s.prt.station ≠ .uncommissioned ∧ (s.seq.state ≠ .quiet ∨ ∃ tn, s.turn = some tn ∧ tn.band = b)) ∧
    (∃ (tag : Nat) (p : BandArgs) (s : State),
      s.closed = false ∧ s.tenthsDue = 0 ∧ (12 ≤ p.band ∨ 2 ≤ p.enabled ∨ 16 ≤ p.relayCode)) ∧
    (∃ (tag : Nat) (p : BandArgs) (b : BandId) (c : Fin 16) (y : ConfigReason × Option BandId) (s : State),
      s.closed = false ∧ s.tenthsDue = 0 ∧ p.band = b.val ∧ p.enabled < 2 ∧ p.relayCode = c.val ∧ s.prt.station ≠ .uncommissioned ∧ s.seq.state = .quiet ∧ (∀ tn ∈ s.turn, tn.band ≠ b) ∧ configFault (s.drv.bands.write b ⟨decide (p.enabled = 1), c, clamp 1 4000 p.stationCeiling, clamp 1 4000 p.dutyCeiling, clamp 10 4000 p.fullScale⟩) s.drv.barefootCal s.drv.amplifiedCal s.drv.barefootCeiling = some y) ∧
    (∃ (tag : Nat) (p : BandArgs) (b : BandId) (c : Fin 16) (s : State),
      s.closed = false ∧ s.tenthsDue = 0 ∧ s.oneHolder ∧ p.band = b.val ∧ p.enabled = 0 ∧ p.relayCode = c.val ∧ (s.drv.bands.read b).enabled = true ∧ (s.prt.station = .uncommissioned ∨ (s.seq.state = .quiet ∧ (∀ tn ∈ s.turn, tn.band ≠ b) ∧
      configFault (s.drv.bands.write b ⟨decide (p.enabled = 1), c, clamp 1 4000 p.stationCeiling, clamp 1 4000 p.dutyCeiling, clamp 10 4000 p.fullScale⟩) s.drv.barefootCal s.drv.amplifiedCal s.drv.barefootCeiling = none))) :=
  ⟨⟨1, (⟨11, 1, 15, 4000, 1, 10⟩), 11, 15, State.reset, by decide +kernel⟩,
    ⟨1, (⟨3, 1, 4, 100, 100, 2000⟩), 3, 4, ready, by decide +kernel⟩,
    ⟨1, (⟨11, 1, 15, 4000, 1, 10⟩), 11, ({ ready with seq := { ready.seq with state := .drain } }), by decide +kernel⟩,
    ⟨1, (⟨0, 0, 16, 1, 1, 10⟩), State.reset, by decide +kernel⟩,
    ⟨1, (⟨3, 1, 3, 101, 100, 2000⟩), 3, 3, ((.noAmplifiedCal, some 3)), ready, by decide +kernel⟩,
    ⟨1, (⟨3, 0, 3, 100, 100, 2000⟩), 3, 3, ({ heldWaiting with seq := ready.seq }), by decide +kernel⟩⟩

theorem witness_SetCalibrationStores :
    (∃ (tag : Nat) (b : BandId) (l : List (Nat × Nat)) (amplified : Bool) (s : State),
      s.closed = false ∧ s.tenthsDue = 0 ∧ (s.prt.station = .uncommissioned ∨ configFault s.drv.bands
        (if amplified then s.drv.barefootCal else s.drv.barefootCal.write b (contextOf (l.map fun q => ⟨clamp 1 4000 q.1, q.2⟩)))
        (if amplified then s.drv.amplifiedCal.write b (contextOf (l.map fun q => ⟨clamp 1 4000 q.1, q.2⟩)) else s.drv.amplifiedCal)
        s.drv.barefootCeiling = none) ∧ (s.live b (if amplified then .amplified else .barefoot) = false) ∧ (l.length = 8 ∨ l = []) ∧ (∀ q ∈ l, q.2 < 256) ∧ (l.Pairwise (fun x y => clamp 1 4000 x.1 < clamp 1 4000 y.1 ∧ x.2 ≤ y.2))) ∧
    (∃ (tag : Nat) (p : CalArgs) (s : State),
      s.closed = false ∧ s.tenthsDue = 0 ∧ (12 ≤ p.band ∨ 2 ≤ p.path ∨ (p.points.length ≠ 0 ∧ p.points.length ≠ 8))) ∧
    (∃ (tag : Nat) (b : BandId) (amplified : Bool) (l : List (Nat × Nat)) (s : State),
      s.closed = false ∧ s.tenthsDue = 0 ∧ (s.live b (if amplified then .amplified else .barefoot) = true) ∧ l.length = 8 ∧ (∀ q ∈ l, q.2 < 256) ∧ (l.Pairwise (fun x y => clamp 1 4000 x.1 < clamp 1 4000 y.1 ∧ x.2 ≤ y.2))) ∧
    (∃ (tag : Nat) (b : BandId) (l : List (Nat × Nat)) (amplified : Bool) (y : ConfigReason × Option BandId) (s : State),
      s.closed = false ∧ s.tenthsDue = 0 ∧ s.prt.station ≠ .uncommissioned ∧ (configFault s.drv.bands
        (if amplified then s.drv.barefootCal else s.drv.barefootCal.write b (contextOf (l.map fun q => ⟨clamp 1 4000 q.1, q.2⟩)))
        (if amplified then s.drv.amplifiedCal.write b (contextOf (l.map fun q => ⟨clamp 1 4000 q.1, q.2⟩)) else s.drv.amplifiedCal)
        s.drv.barefootCeiling = some y) ∧ (s.live b (if amplified then .amplified else .barefoot) = false) ∧ (l.length = 8 ∨ l = []) ∧ (∀ q ∈ l, q.2 < 256) ∧ (l.Pairwise (fun x y => clamp 1 4000 x.1 < clamp 1 4000 y.1 ∧ x.2 ≤ y.2))) ∧
    (∃ (tag : Nat) (b : BandId) (amplified : Bool) (l : List (Nat × Nat)) (k : Nat) (x : Nat × Nat) (y : Nat × Nat) (s : State),
      s.closed = false ∧ s.tenthsDue = 0 ∧ l.length = 8 ∧ (∀ q ∈ l, q.2 < 256) ∧ l[k]? = some x ∧ l[k + 1]? = some y ∧ (¬(clamp 1 4000 x.1 < clamp 1 4000 y.1 ∧ x.2 ≤ y.2)) ∧ ((l.take (k + 1)).Pairwise (fun x y => clamp 1 4000 x.1 < clamp 1 4000 y.1 ∧ x.2 ≤ y.2))) :=
  ⟨⟨1, 11, ([(6, 25), (10, 40), (20, 70), (40, 110), (60, 140), (80, 165), (100, 190), (130, 220)]), true, State.reset, by decide +kernel⟩,
    ⟨1, (⟨0, 0, [(1, 1)]⟩), State.reset, by decide +kernel⟩,
    ⟨1, 3, false, ([(6, 25), (10, 40), (20, 70), (40, 110), (60, 140), (80, 165), (100, 190), (130, 220)]), onAir, by decide +kernel⟩,
    ⟨1, 3, [], false, ((.noBarefootCal, some 3)), ready, by decide +kernel⟩,
    ⟨1, 3, false, ([(6, 25), (10, 40), (20, 70), (40, 110), (60, 140), (80, 165), (5000, 190), (4000, 220)]), 6, ((5000, 190)), ((4000, 220)), onAir, by decide +kernel⟩⟩

theorem witness_StageProfileStages :
    ∃ (tag : Nat) (p : ProfileArgs) (s : State),
      s.closed = false ∧ s.tenthsDue = 0 :=
  ⟨1, (⟨255, 0, 256, 0, 0, 501⟩), State.reset, by decide +kernel⟩

theorem witness_SetInputRoutes :
    (∃ (tag : Nat) (i : InputId) (p : InputArgs) (f : InputFunction) (g : Trigger) (y : InputPolarity) (s : State),
      s.closed = false ∧ s.tenthsDue = 0 ∧ p.input = i.val ∧ functionOf p.function = some f ∧ triggerOf p.trigger = some g ∧ inputPolarityOf p.polarity = some y ∧ (g = .level ∨ f = .localRequest ∨ f = .none)) ∧
    (∃ (tag : Nat) (p : InputArgs) (s : State),
      s.closed = false ∧ s.tenthsDue = 0 ∧ (4 ≤ p.input ∨ 6 ≤ p.function ∨ 2 ≤ p.trigger ∨ 2 ≤ p.polarity ∨
      (p.trigger = 0 ∧ p.function ≠ 0 ∧ p.function ≠ 3))) :=
  ⟨⟨1, 3, (⟨3, 3, 0, 1, 51⟩), .localRequest, .edge, .activeLow, State.reset, by decide +kernel⟩,
    ⟨1, (⟨0, 1, 0, 0, 0⟩), State.reset, by decide +kernel⟩⟩

theorem witness_SetLimitsClamps :
    ∃ (tag : Nat) (p : LimitsArgs) (s : State),
      s.closed = false ∧ s.tenthsDue = 0 :=
  ⟨1, (⟨500, 509, 256, 64, 255, 16, 1023, 0, 1, 1023, 1022⟩), State.reset, by decide +kernel⟩

theorem witness_ClearCountersReadsAndClears :
    (∃ (tag : Nat) (l : List Nat) (s : State),
      s.closed = false ∧ s.tenthsDue = 0 ∧ (∀ n ∈ l, n < 6) ∧ l.Nodup) ∧
    (∃ (tag : Nat) (l : List Nat) (s : State),
      s.closed = false ∧ s.tenthsDue = 0 ∧ ((∃ n ∈ l, 6 ≤ n) ∨ ¬l.Nodup)) ∧
    (∃ (i : Fin 6) (m : Nat) (s : State),
      s.resides (resOf i) = true ∧ (s.acu.counters.read i).value < 4294967295) ∧
    (∃ (tag : Nat) (actor : Nat) (l : List Nat) (q : Asked),
      asked (.clearCounters tag actor l) = some q) ∧
    (∃ (tag : Nat) (actor : Nat) (a : Actor) (s : State),
      s.takes .anyActor actor a) :=
  ⟨⟨1, ([5, 0]), State.reset, by decide +kernel⟩,
    ⟨1, [6], State.reset, by decide +kernel⟩,
    ⟨1, 100, ({ State.reset with amg := { State.reset.amg with state := .on } }), by decide +kernel⟩,
    ⟨1, 2, [], (⟨0x0D, 1, 2, .stationOnly⟩), by decide +kernel⟩,
    ⟨1, 255, .station, State.reset, by decide +kernel⟩⟩

theorem witness_ClearAirtimeReadsAndClears :
    (∃ (tag : Nat) (w : SlotId) (s : State),
      s.closed = false ∧ s.tenthsDue = 0) ∧
    (∃ (tag : Nat) (s : State),
      s.closed = false ∧ s.tenthsDue = 0) ∧
    (∃ (tag : Nat) (n : Nat) (s : State),
      s.closed = false ∧ s.tenthsDue = 0 ∧ 32 ≤ n ∧ n ≠ 255) ∧
    (∃ (tag : Nat) (actor : Nat) (n : Nat) (q : Asked),
      asked (.clearAirtime tag actor n) = some q) :=
  ⟨⟨1, 31, State.reset, by decide +kernel⟩,
    ⟨1, State.reset, by decide +kernel⟩,
    ⟨1, 32, State.reset, by decide +kernel⟩,
    ⟨1, 2, 0, (⟨0x15, 1, 2, .stationOnly⟩), by decide +kernel⟩⟩

theorem witness_AllowancesExhaust :
    (∃ (tag : Nat) (w : SlotId) (n : Nat) (p : Bool) (s : State),
      s.closed = false ∧ s.tenthsDue = 0 ∧ s.tenancy w ≠ .vacant) ∧
    (∃ (tag : Nat) (w : SlotId) (n : Nat) (p : Bool) (s : State),
      s.closed = false ∧ s.tenthsDue = 0 ∧ s.tenancy w = .vacant) ∧
    (∃ (tag : Nat) (k : Nat) (n : Nat) (p : Nat) (s : State),
      s.closed = false ∧ s.tenthsDue = 0 ∧ (32 ≤ k ∨ 2 ≤ p)) :=
  ⟨⟨1, 5, 0, true, waiting, by decide +kernel⟩,
    ⟨1, 31, 1, true, State.reset, by decide +kernel⟩,
    ⟨1, 32, 1, 1, State.reset, by decide +kernel⟩⟩

theorem witness_CommissionChecks :
    (∃ (tag : Nat) (s : State),
      s.closed = false ∧ s.tenthsDue = 0 ∧ s.prt.station = .uncommissioned ∧ s.prt.killLatch = false ∧ s.seq.state = .quiet ∧ (∃ b, (s.drv.bands.read b).enabled = true) ∧ (∀ b, (s.drv.bands.read b).enabled = true → s.drv.barefootCal.read b ≠ none ∧
      (s.drv.barefootCeiling < (s.drv.bands.read b).stationCeiling → s.drv.amplifiedCal.read b ≠ none)) ∧ s.idu.callsign ≠ none) ∧
    (∃ (s : State),
      (∀ b, (s.drv.bands.read b).enabled = false)) ∧
    (∃ (tag : Nat) (y : ConfigReason × Option BandId) (s : State),
      s.closed = false ∧ s.tenthsDue = 0 ∧ s.prt.station = .uncommissioned ∧ s.seq.state = .quiet ∧ s.commissionFault = some y) ∧
    (∃ (b : BandId) (s : State),
      (s.drv.bands.read b).enabled = true ∧ s.drv.barefootCal.read b = none ∧ (∀ c, c < b → (s.drv.bands.read c).enabled = false ∨ s.drv.barefootCal.read c ≠ none)) ∧
    (∃ (b : BandId) (s : State),
      (∀ c, (s.drv.bands.read c).enabled = true → s.drv.barefootCal.read c ≠ none) ∧ s.drv.barefootCeiling < (s.drv.bands.read b).stationCeiling ∧ (s.drv.bands.read b).enabled = true ∧ s.drv.amplifiedCal.read b = none ∧ (∀ c, c < b → (s.drv.bands.read c).enabled = true → s.drv.barefootCeiling < (s.drv.bands.read c).stationCeiling →
      s.drv.amplifiedCal.read c ≠ none)) ∧
    (∃ (s : State),
      (∃ b, (s.drv.bands.read b).enabled = true) ∧ (∀ c, (s.drv.bands.read c).enabled = true → s.drv.barefootCal.read c ≠ none) ∧ (∀ c, (s.drv.bands.read c).enabled = true → s.drv.barefootCeiling < (s.drv.bands.read c).stationCeiling →
      s.drv.amplifiedCal.read c ≠ none)) ∧
    (∃ (tag : Nat) (s : State),
      s.closed = false ∧ s.tenthsDue = 0 ∧ (s.prt.station ≠ .uncommissioned ∨ s.seq.state ≠ .quiet)) :=
  ⟨⟨1, configured, by decide +kernel⟩,
    ⟨State.reset, by decide +kernel⟩,
    ⟨1, ((.noBand, none)), State.reset, by decide +kernel⟩,
    ⟨3, ({ configured with drv := { configured.drv with barefootCal := Table.build fun _ => none } }), by decide +kernel⟩,
    ⟨3, ({ configured with drv := { configured.drv with barefootCeiling := 99 } }), by decide +kernel⟩,
    ⟨({ configured with idu := { configured.idu with callsign := none } }), by decide +kernel⟩,
    ⟨1, ready, by decide +kernel⟩⟩

theorem witness_DecommissionTakesOutOfService :
    (∃ (tag : Nat) (s : State),
      s.closed = false ∧ s.tenthsDue = 0 ∧ s.prt.commissioned = true ∧ s.oneHolder) ∧
    (∃ (tag : Nat) (s : State),
      s.closed = false ∧ s.tenthsDue = 0 ∧ s.prt.commissioned = false) :=
  ⟨⟨1, onAir, by decide +kernel⟩,
    ⟨1, State.reset, by decide +kernel⟩⟩

theorem witness_FaultsAreClearedWhenGone :
    (∃ (tag : Nat) (actor : Nat) (a : Actor) (n : Nat) (s : State),
      s.takes .controlSlot actor a ∧ 7 < n) ∧
    (∃ (tag : Nat) (actor : Nat) (a : Actor) (n : Nat) (k : FaultKind) (s : State),
      s.takes .controlSlot actor a ∧ faultOf n = some k ∧ (∀ r ∈ s.prt.faults, r.kind ≠ k)) ∧
    (∃ (tag : Nat) (actor : Nat) (a : Actor) (n : Nat) (k : FaultKind) (r : FaultRec) (s : State),
      s.takes .controlSlot actor a ∧ faultOf n = some k ∧ r ∈ s.prt.faults ∧ r.kind = k ∧ s.present k = true) ∧
    (∃ (tag : Nat) (actor : Nat) (a : Actor) (n : Nat) (k : FaultKind) (r : FaultRec) (s : State),
      s.takes .controlSlot actor a ∧ faultOf n = some k ∧ r ∈ s.prt.faults ∧ r.kind = k ∧ s.present k = false) :=
  ⟨⟨1, 255, .station, 8, State.reset, by decide +kernel⟩,
    ⟨1, 255, .station, 7, .ampDrop, State.reset, by decide +kernel⟩,
    ⟨1, 255, .station, 3, .paOvertemp, (⟨.paOvertemp, 0, 0, 1, none, none, none, true⟩), ({ State.reset with msr := { State.reset.msr with overtemp := true }, prt := { State.reset.prt with faults := [⟨.paOvertemp, 0, 0, 1, none, none, none, true⟩] } }), by decide +kernel⟩,
    ⟨1, 255, .station, 0, .swrTrip, (⟨.swrTrip, 0, 0, 1, none, none, none, false⟩), ({ State.reset with prt := { State.reset.prt with faults := [⟨.swrTrip, 0, 0, 1, none, none, none, false⟩] } }), by decide +kernel⟩⟩

theorem witness_ResumeClearsTheLatch :
    (∃ (tag : Nat) (actor : Nat) (a : Actor) (s : State),
      s.takes .controlSlot actor a ∧ s.prt.killLatch = false) ∧
    (∃ (tag : Nat) (actor : Nat) (a : Actor) (s : State),
      s.takes .controlSlot actor a ∧ s.prt.killLatch = true ∧ s.inr.kill.debounced = true) ∧
    (∃ (tag : Nat) (actor : Nat) (a : Actor) (s : State),
      s.takes .controlSlot actor a ∧ s.prt.killLatch = true ∧ s.inr.kill.debounced = false) :=
  ⟨⟨1, 255, .station, State.reset, by decide +kernel⟩,
    ⟨1, 255, .station, (State.afterReset (fun _ => false) true []), by decide +kernel⟩,
    ⟨1, 255, .station, ({ State.reset with prt := { State.reset.prt with killLatch := true, station := .killed } }), by decide +kernel⟩⟩

theorem witness_SlotsOpenAndClose :
    (∃ (tag : Nat) (w : SlotId) (l : List Char) (c : ClassId) (p : Bool) (n : Nat) (s : State),
      s.closed = false ∧ s.tenthsDue = 0 ∧ s.tenancy w = .vacant ∧ (l.length ≤ 10 ∧ l.all callsignChar = true)) ∧
    (∃ (tag : Nat) (w : SlotId) (l : List Char) (c : ClassId) (p : Bool) (n : Nat) (s : State),
      s.closed = false ∧ s.tenthsDue = 0 ∧ s.tenancy w ≠ .vacant ∧ (l.length ≤ 10 ∧ l.all callsignChar = true)) ∧
    (∃ (tag : Nat) (w : SlotId) (s : State),
      s.closed = false ∧ s.tenthsDue = 0 ∧ s.tenancy w ≠ .vacant) ∧
    (∃ (tag : Nat) (w : SlotId) (s : State),
      s.closed = false ∧ s.tenthsDue = 0 ∧ s.tenancy w = .vacant) ∧
    (∃ (tag : Nat) (p : OpenArgs) (s : State),
      s.closed = false ∧ s.tenthsDue = 0 ∧ (32 ≤ p.slot ∨ 8 ≤ p.classIx ∨ 2 ≤ p.allowancePresent ∨ 10 < p.callsign.length ∨ p.callsign.all callsignChar = false)) :=
  ⟨⟨1, 31, (['G', '/', '9']), 7, true, 86401, State.reset, by decide +kernel⟩,
    ⟨1, 5, [], 0, false, 0, ready, by decide +kernel⟩,
    ⟨1, 5, onAir, by decide +kernel⟩,
    ⟨1, 31, State.reset, by decide +kernel⟩,
    ⟨1, (⟨5, [], 8, 0, 0⟩), ready, by decide +kernel⟩⟩

theorem witness_ClassesAndHoldsOfSlots :
    (∃ (tag : Nat) (w : SlotId) (c : ClassId) (s : State),
      s.closed = false ∧ s.tenthsDue = 0 ∧ s.oneHolder ∧ s.tenancy w ≠ .vacant) ∧
    (∃ (tag : Nat) (c : ClassId) (tn : Turn) (k : TurnEndCause) (s : State),
      s.oneHolder ∧ s.turn = some tn ∧ s.closed = false ∧ s.tenthsDue = 0 ∧ ((s.drv.bands.read tn.band).enabled && (s.clt.classes.read c).bands.read tn.band && (s.clt.classes.read c).allows tn.emission) = true ∧ tn.sub ≠ .paused ∧ s.settled ∧ s.arb.turnGap ≠ 0 ∧ s.idu.due = false ∧ s.idu.cycle = .idle ∧ s.idu.startWaits = false ∧ s.passedLimit tn (s.classOf tn.holder) (s.clt.classes.read c) = some k) ∧
    (∃ (tag : Nat) (c : ClassId) (tn : Turn) (s : State),
      s.oneHolder ∧ s.turn = some tn ∧ s.closed = false ∧ s.tenthsDue = 0 ∧ ((s.drv.bands.read tn.band).enabled && (s.clt.classes.read c).bands.read tn.band && (s.clt.classes.read c).allows tn.emission) = true ∧ s.passedLimit tn (s.classOf tn.holder) (s.clt.classes.read c) = none ∧ s.passedTxLimit (s.classOf tn.holder) (s.clt.classes.read c) = true ∧ (s.clt.classes.read c).singleOver = false ∧ s.seq.active.tail ≠ 0 ∧ s.settled) ∧
    (∃ (tag : Nat) (c : ClassId) (tn : Turn) (s : State),
      s.oneHolder ∧ s.turn = some tn ∧ s.closed = false ∧ s.tenthsDue = 0 ∧ ((s.drv.bands.read tn.band).enabled && (s.clt.classes.read c).bands.read tn.band && (s.clt.classes.read c).allows tn.emission) = true ∧ s.passedLimit tn (s.classOf tn.holder) (s.clt.classes.read c) = none ∧ s.passedTxLimit (s.classOf tn.holder) (s.clt.classes.read c) = false ∧ s.settled) ∧
    (∃ (tag : Nat) (c : ClassId) (w : SlotId) (x : RequestRec) (s : State),
      s.oneHolder ∧ s.tenancy w = .waiting x ∧ s.closed = false ∧ s.tenthsDue = 0 ∧ ((s.drv.bands.read x.band).enabled && (s.clt.classes.read c).bands.read x.band && (s.clt.classes.read c).allows x.emission) = true ∧ s.settled ∧ s.arb.turnGap ≠ 0) ∧
    (∃ (tag : Nat) (actor : Nat) (a : Actor) (w : SlotId) (s : State),
      s.takes .controlSlot actor a ∧ s.tenancy w ≠ .vacant) ∧
    (∃ (tag : Nat) (actor : Nat) (a : Actor) (w : SlotId) (s : State),
      s.takes .controlSlot actor a ∧ s.tenancy w ≠ .vacant ∧ s.arb.arbiter ≠ .free ∧ s.settled) ∧
    (∃ (tag : Nat) (actor : Nat) (a : Actor) (w : SlotId) (s : State),
      s.takes .controlSlot actor a ∧ s.tenancy w ≠ .vacant ∧ s.arb.arbiter = .free ∧ (s.prt.station ≠ .ready ∨ (s.setHeldBack w false).winner = none) ∧ s.settled) ∧
    (∃ (tag : Nat) (actor : Nat) (a : Actor) (w : SlotId) (v : SlotId) (s : State),
      s.takes .controlSlot actor a ∧ s.tenancy w ≠ .vacant ∧ s.arb.arbiter = .free ∧ s.prt.station = .ready ∧ (s.setHeldBack w false).winner = some v) ∧
    (∃ (tag : Nat) (actor : Nat) (a : Actor) (w : SlotId) (c : ClassId) (s : State),
      s.takes .controlSlot actor a ∧ actor = 255 ∧ s.tenancy w = .vacant) ∧
    (∃ (tag : Nat) (actor : Nat) (a : Actor) (n : Nat) (c : Nat) (s : State),
      s.takes .controlSlot actor a ∧ actor = 255 ∧ 31 < n) ∧
    (∃ (tag : Nat) (w : SlotId) (n : Nat) (s : State),
      s.closed = false ∧ s.tenthsDue = 0 ∧ 7 < n) :=
  ⟨⟨1, 5, 7, onAir, by decide +kernel⟩,
    ⟨1, 2, turnOn, .turnLimit, (tightClass 1 180), by decide +kernel⟩,
    ⟨1, 2, turnOn, (tightClass 10 60), by decide +kernel⟩,
    ⟨1, 2, turnOn, onAir, by decide +kernel⟩,
    ⟨1, 1, 9, ({ request3 with mark := true }), ({ ready with arb := { ready.arb with slots := ready.arb.slots.write 9 (.waiting { request3 with mark := true }) } }), by decide +kernel⟩,
    ⟨1, 255, .station, 5, ready, by decide +kernel⟩,
    ⟨1, 255, .station, 5, onAir, by decide +kernel⟩,
    ⟨1, 255, .station, 5, ready, by decide +kernel⟩,
    ⟨1, 255, .station, 5, 5, heldWaiting, by decide +kernel⟩,
    ⟨1, 255, .station, 31, 0, State.reset, by decide +kernel⟩,
    ⟨1, 255, .station, 32, 0, State.reset, by decide +kernel⟩,
    ⟨1, 31, 8, State.reset, by decide +kernel⟩⟩

theorem witness_RequestsWaitOrAreGranted :
    (∃ (tag : Nat) (w : SlotId) (b : BandId) (e : Emission) (ec : Nat) (n : Nat) (m : Mode) (mc : Nat) (s : State),
      s.closed = false ∧ s.tenthsDue = 0 ∧ s.tenancy w ≠ .vacant ∧ emissionOf ec = some e ∧ modeOf mc = some m ∧ s.tenancy w ≠ .holding ∧ s.permit w b e = true ∧ s.exhausted w = false ∧ s.arb.arbiter ≠ .free ∧ s.settled) ∧
    (∃ (tag : Nat) (w : SlotId) (b : BandId) (e : Emission) (ec : Nat) (n : Nat) (m : Mode) (mc : Nat) (s : State),
      s.closed = false ∧ s.tenthsDue = 0 ∧ s.tenancy w ≠ .vacant ∧ emissionOf ec = some e ∧ modeOf mc = some m ∧ s.tenancy w ≠ .holding ∧ s.permit w b e = true ∧ s.exhausted w = false ∧ s.arb.arbiter = .free ∧ s.prt.station = .ready ∧ (∀ v, v ≠ w → (s.tenancy v).record = none) ∧ (s.identity w).heldBack = false ∧ s.seq.currentBand ≠ some b ∧ s.seq.state = .quiet ∧ s.seq.active.bandSettle ≠ 0 ∧ w ≠ 0 ∧ s.settled) ∧
    (∃ (tag : Nat) (w : SlotId) (b : BandId) (e : Emission) (ec : Nat) (n : Nat) (mc : Nat) (s : State),
      s.closed = false ∧ s.tenthsDue = 0 ∧ s.tenancy w ≠ .vacant ∧ emissionOf ec = some e ∧ mc < 2 ∧ (s.tenancy w = .holding ∨ s.permit w b e = false ∨ s.exhausted w = true)) ∧
    (∃ (tag : Nat) (w : SlotId) (b : Nat) (ec : Nat) (n : Nat) (mc : Nat) (s : State),
      s.closed = false ∧ s.tenthsDue = 0 ∧ s.tenancy w ≠ .vacant ∧ (12 ≤ b ∨ 3 ≤ ec ∨ 2 ≤ mc)) :=
  ⟨⟨1, 9, 3, .data, 2, 4001, .standing, 1, onAir, by decide +kernel⟩,
    ⟨1, 5, 5, .phone, 1, 4000, .once, 0, ready, by decide +kernel⟩,
    ⟨1, 5, 11, .cw, 0, 1, 0, onAir, by decide +kernel⟩,
    ⟨1, 5, 0, 0, 1, 2, ready, by decide +kernel⟩⟩

theorem witness_WithdrawCancels :
    (∃ (tag : Nat) (w : SlotId) (x : RequestRec) (s : State),
      s.closed = false ∧ s.tenthsDue = 0 ∧ s.tenancy w = .waiting x) ∧
    (∃ (tag : Nat) (w : SlotId) (s : State),
      s.closed = false ∧ s.tenthsDue = 0 ∧ (s.tenancy w = .holding ∨ s.tenancy w = .opened)) ∧
    (∃ (f : RawFrame),
      f.kind = 0x21) :=
  ⟨⟨1, 9, request3, waiting, by decide +kernel⟩,
    ⟨1, 5, onAir, by decide +kernel⟩,
    ⟨(⟨0x21, 1, 5, [], 0⟩), by decide +kernel⟩⟩

theorem witness_PresenceAndGapTimers :
    (∃ (tag : Nat) (w : SlotId) (tm : Timer) (s : State),
      s.closed = false ∧ s.tenthsDue = 0 ∧ s.tenancy w ≠ .vacant ∧ w ≠ 0 ∧ s.arb.presence.read w = some tm) ∧
    (∃ (tag : Nat) (w : SlotId) (s : State),
      s.closed = false ∧ s.tenthsDue = 0 ∧ s.tenancy w ≠ .vacant ∧ s.arb.presence.read w = none) ∧
    (∃ (w : SlotId) (tm : Timer) (x : RequestRec) (s : State),
      s.rst = false ∧ s.arb.presence.read w = some tm ∧ s.tenancy w = .waiting x ∧ s.holder ≠ some w ∧ s.settled ∧ (s.bringTo tm.due).tenthsDue = 0) ∧
    (∃ (tm : Timer) (v : SlotId) (s : State),
      s.rst = false ∧ s.arb.gap = some tm ∧ s.arb.arbiter = .gap ∧ s.prt.station = .ready ∧ (s.bringTo tm.due).winner = some v ∧ (s.bringTo tm.due).tenthsDue = 0) ∧
    (∃ (tm : Timer) (s : State),
      s.rst = false ∧ s.arb.gap = some tm ∧ s.arb.arbiter = .gap ∧ s.idu.due = false ∧ s.settled ∧ (s.prt.station ≠ .ready ∨ (s.bringTo tm.due).winner = none) ∧ (s.bringTo tm.due).tenthsDue = 0) ∧
    (∃ (tm : Timer) (s : State),
      s.rst = false ∧ s.arb.gap = some tm ∧ s.arb.arbiter = .idTurn ∧ s.settled ∧ (s.bringTo tm.due).tenthsDue = 0) :=
  ⟨⟨1, 9, (⟨0, 10000⟩), waiting, by decide +kernel⟩,
    ⟨1, 5, ready, by decide +kernel⟩,
    ⟨9, (⟨0, 10000⟩), request3, (aired 100 waiting), by decide +kernel⟩,
    ⟨(⟨0, 2000⟩), 9, gapWaiting, by decide +kernel⟩,
    ⟨(⟨0, 2000⟩), ({ ready with arb := { ready.arb with arbiter := .gap, gap := some ⟨0, 2000⟩ } }), by decide +kernel⟩,
    ⟨(⟨0, 2000⟩), ({ ready with arb := { ready.arb with arbiter := .idTurn, gap := some ⟨0, 2000⟩ } }), by decide +kernel⟩⟩

theorem witness_TurnsEndAsTheRulesSay :
    (∃ (tag : Nat) (w : SlotId) (tn : Turn) (s : State),
      s.closed = false ∧ s.tenthsDue = 0 ∧ s.tenancy w ≠ .vacant ∧ s.turn = some tn ∧ tn.holder = w ∧ s.settled ∧ s.arb.turnGap ≠ 0 ∧ s.idu.due = false ∧ s.idu.cycle = .idle ∧ s.idu.startWaits = false ∧ tn.sub ≠ .paused) ∧
    (∃ (tag : Nat) (actor : Nat) (a : Actor) (w : SlotId) (tn : Turn) (s : State),
      s.takes .controlSlot actor a ∧ s.turn = some tn ∧ tn.holder = w ∧ s.settled ∧ s.arb.turnGap ≠ 0 ∧ s.idu.due = false ∧ s.idu.cycle = .idle ∧ s.idu.startWaits = false ∧ tn.sub ≠ .paused) ∧
    (∃ (tn : Turn) (s : State),
      s.rst = false ∧ s.turn = some tn ∧ s.settled ∧ s.arb.turnGap ≠ 0 ∧ s.idu.due = false ∧ s.idu.cycle = .idle ∧ s.idu.startWaits = false ∧ tn.sub ≠ .paused ∧ (s.bringTo (tn.grantClock + BitVec.ofNat 32 ((s.classOf tn.holder).turnLimit * 60000))).tenthsDue = 0) ∧
    (∃ (tn : Turn) (i : Clock) (s : State),
      s.rst = false ∧ s.turn = some tn ∧ tn.idleStart = some i ∧ s.settled ∧ s.arb.turnGap ≠ 0 ∧ s.idu.due = false ∧ s.idu.cycle = .idle ∧ s.idu.startWaits = false ∧ tn.sub ≠ .paused ∧ (s.bringTo (i + BitVec.ofNat 32 ((s.classOf tn.holder).idleHang * 1000))).tenthsDue = 0) ∧
    (∃ (tn : Turn) (tm : Timer) (s : State),
      s.rst = false ∧ s.turn = some tn ∧ s.arb.presence.read tn.holder = some tm ∧ s.settled ∧ s.arb.turnGap ≠ 0 ∧ s.idu.due = false ∧ s.idu.cycle = .idle ∧ s.idu.startWaits = false ∧ tn.sub ≠ .paused ∧ (s.bringTo tm.due).tenthsDue = 0) ∧
    (∃ (tag : Nat) (w : SlotId) (s : State),
      s.closed = false ∧ s.tenthsDue = 0 ∧ s.tenancy w ≠ .vacant ∧ s.holder ≠ some w) ∧
    (∃ (tag : Nat) (actor : Nat) (a : Actor) (w : SlotId) (s : State),
      s.takes .controlSlot actor a ∧ s.holder ≠ some w) ∧
    (∃ (tag : Nat) (actor : Nat) (a : Actor) (tn : Turn) (s : State),
      s.takes .controlSlot actor a ∧ s.turn = some tn ∧ tn.sub = .paused ∧ s.prt.station = .ready ∧ (s.idu.cycle = .starting ∨ s.idu.cycle = .sending) ∧ s.memberTx = false ∧ s.settled ∧ s.arb.turnGap ≠ 0 ∧ (s.idu.startWaits = false ∨ s.seq.state ≠ .quiet)) :=
  ⟨⟨1, 5, turn3, quietTurn, by decide +kernel⟩,
    ⟨1, 255, .station, 5, turnOn, onAir, by decide +kernel⟩,
    ⟨turnOn, (aired 6000 onAir), by decide +kernel⟩,
    ⟨turn3, 0, quietTurn, by decide +kernel⟩,
    ⟨turnOn, (⟨0, 10000⟩), (aired 100 onAir), by decide +kernel⟩,
    ⟨1, 9, onAir, by decide +kernel⟩,
    ⟨1, 255, .station, 31, onAir, by decide +kernel⟩,
    ⟨1, 255, .station, ({ turn3 with sub := .paused, idleStart := none }), pausedTurn, by decide +kernel⟩⟩

theorem witness_PttOnStarts :
    (∃ (tag : Nat) (w : SlotId) (tn : Turn) (s : State),
      s.closed = false ∧ s.tenthsDue = 0 ∧ s.tenancy w ≠ .vacant ∧ s.turn = some tn ∧ tn.holder = w ∧ tn.emission ≠ .cw ∧ tn.sub = .active ∧ s.prt.station = .ready ∧ s.seq.state = .quiet ∧ s.seq.active.relayOn ≠ 0 ∧ s.settled) ∧
    (∃ (tag : Nat) (w : SlotId) (tn : Turn) (s : State),
      s.closed = false ∧ s.tenthsDue = 0 ∧ s.tenancy w ≠ .vacant ∧ s.turn = some tn ∧ tn.holder = w ∧ tn.emission ≠ .cw ∧ s.prt.station = .ready ∧ s.running = true ∧ s.settled) ∧
    (∃ (tag : Nat) (w : SlotId) (tn : Turn) (s : State),
      s.closed = false ∧ s.tenthsDue = 0 ∧ s.tenancy w ≠ .vacant ∧ s.turn = some tn ∧ tn.holder = w ∧ tn.emission ≠ .cw ∧ s.prt.station = .ready ∧ (s.seq.state = .retune ∨ s.seq.state = .disarmAmp ∨ s.seq.state = .disarmRelay ∨ (s.seq.state = .quiet ∧ tn.sub ≠ .active) ∨
      ((s.seq.state = .armRelay ∨ s.seq.state = .armAmp ∨ s.seq.state = .exciting) ∧ s.memberTx = false) ∨
      (s.seq.state = .drain ∧ (tn.sub ≠ .active ∨ ∀ x, s.seq.tx = some x →
        x.kind = .ident ∨ x.current = false ∨ (x.path = .amplified ∧ s.amg.state ≠ .on)))) ∧ s.settled) ∧
    (∃ (tag : Nat) (w : SlotId) (tn : Turn) (x : Tx) (s : State),
      s.closed = false ∧ s.tenthsDue = 0 ∧ s.tenancy w ≠ .vacant ∧ s.turn = some tn ∧ tn.holder = w ∧ tn.emission ≠ .cw ∧ tn.sub = .active ∧ s.prt.station = .ready ∧ s.seq.state = .drain ∧ s.seq.tx = some x ∧ x.kind = .member w ∧ x.current = true ∧ (x.path = .barefoot ∨ s.amg.state = .on) ∧ s.settled) ∧
    (∃ (i : InputId) (y : Input) (n : Clock) (tn : Turn) (s : State),
      s.rst = false ∧ s.inr.inputs.read i = y ∧ y.since = some n ∧ y.function = .localPtt ∧ y.trigger = .level ∧ s.functionActive .localPtt = false ∧ ({ y with debounced := y.raw }).active = true ∧ s.turn = some tn ∧ tn.holder = 0 ∧ tn.emission ≠ .cw ∧ tn.sub = .active ∧ s.prt.station = .ready ∧ s.seq.state = .quiet ∧ s.seq.active.relayOn ≠ 0 ∧ s.settled) ∧
    (∃ (i : InputId) (y : Input) (n : Clock) (tn : Turn) (s : State),
      s.rst = false ∧ s.inr.inputs.read i = y ∧ y.since = some n ∧ y.function = .localPtt ∧ y.trigger = .level ∧ s.functionActive .localPtt = false ∧ ({ y with debounced := y.raw }).active = true ∧ s.turn = some tn ∧ tn.holder = 0 ∧ tn.emission ≠ .cw ∧ s.prt.station = .ready ∧ (s.seq.state = .retune ∨ s.seq.state = .disarmAmp ∨ s.seq.state = .disarmRelay ∨ (s.seq.state = .quiet ∧ tn.sub ≠ .active) ∨
      ((s.seq.state = .armRelay ∨ s.seq.state = .armAmp ∨ s.seq.state = .exciting) ∧ s.memberTx = false) ∨
      (s.seq.state = .drain ∧ (tn.sub ≠ .active ∨ ∀ x, s.seq.tx = some x →
        x.kind = .ident ∨ x.current = false ∨ (x.path = .amplified ∧ s.amg.state ≠ .on)))) ∧ s.settled ∧ (s.bringTo (n + BitVec.ofNat 32 y.debounce)).tenthsDue = 0) ∧
    (∃ (i : InputId) (y : Input) (n : Clock) (tn : Turn) (x : Tx) (s : State),
      s.rst = false ∧ s.inr.inputs.read i = y ∧ y.since = some n ∧ y.function = .localPtt ∧ y.trigger = .level ∧ s.functionActive .localPtt = false ∧ ({ y with debounced := y.raw }).active = true ∧ s.turn = some tn ∧ tn.holder = 0 ∧ tn.emission ≠ .cw ∧ tn.sub = .active ∧ s.prt.station = .ready ∧ s.seq.state = .drain ∧ s.seq.tx = some x ∧ x.kind = .member 0 ∧ x.current = true ∧ (x.path = .barefoot ∨ s.amg.state = .on) ∧ s.settled) ∧
    (∃ (i : InputId) (y : Input) (n : Clock) (tn : Turn) (s : State),
      s.rst = false ∧ s.inr.inputs.read i = y ∧ y.since = some n ∧ y.function = .localPtt ∧ y.trigger = .level ∧ s.functionActive .localPtt = false ∧ ({ y with debounced := y.raw }).active = true ∧ s.turn = some tn ∧ tn.holder = 0 ∧ tn.emission ≠ .cw ∧ (s.prt.station ≠ .ready ∨ s.running = true) ∧ s.settled ∧ (s.bringTo (n + BitVec.ofNat 32 y.debounce)).tenthsDue = 0) ∧
    (∃ (tag : Nat) (w : SlotId) (s : State),
      s.closed = false ∧ s.tenthsDue = 0 ∧ s.tenancy w ≠ .vacant ∧ s.holder ≠ some w) ∧
    (∃ (tag : Nat) (w : SlotId) (tn : Turn) (s : State),
      s.closed = false ∧ s.tenthsDue = 0 ∧ s.tenancy w ≠ .vacant ∧ s.turn = some tn ∧ tn.holder = w ∧ (tn.emission = .cw ∨ s.prt.station ≠ .ready)) :=
  ⟨⟨1, 5, turn3, quietTurn, by decide +kernel⟩,
    ⟨1, 5, turnOn, onAir, by decide +kernel⟩,
    ⟨1, 5, ({ turn3 with sub := .tuning, idleStart := none }), tuningTurn, by decide +kernel⟩,
    ⟨1, 5, turnOn, ({ tx3 with endCause := some .pttOff, limitStart := none }), drainTurn, by decide +kernel⟩,
    ⟨3, (⟨.localPtt, .level, .activeHigh, 10, true, false, some 0⟩), 0, ({ turn3 with holder := 0 }), (localTurn (differing .localPtt)), by decide +kernel⟩,
    ⟨3, (⟨.localPtt, .level, .activeHigh, 10, true, false, some 0⟩), 0, ({ turn3 with holder := 0, sub := .tuning, idleStart := none }), (pressed (localTurn0 { turn3 with holder := 0, sub := .tuning, idleStart := none } tuningTurn)), by decide +kernel⟩,
    ⟨3, (⟨.localPtt, .level, .activeHigh, 10, true, false, some 0⟩), 0, ({ turnOn with holder := 0 }), ({ tx3 with kind := .member 0, endCause := some .localRelease, limitStart := none }), (pressed (localTurn0 { turnOn with holder := 0 } { drainTurn with seq := { drainTurn.seq with tx := some { tx3 with kind := .member 0, endCause := some .localRelease, limitStart := none } } })), by decide +kernel⟩,
    ⟨3, (⟨.localPtt, .level, .activeHigh, 10, true, false, some 0⟩), 0, ({ turn3 with holder := 0 }), (pressed (localTurn0 { turn3 with holder := 0 } { ready with prt := { ready.prt with station := .held } })), by decide +kernel⟩,
    ⟨1, 9, onAir, by decide +kernel⟩,
    ⟨1, 5, ({ turn3 with emission := .cw }), cwTurn, by decide +kernel⟩⟩

theorem witness_TransmissionsEndNormally :
    (∃ (tag : Nat) (w : SlotId) (tn : Turn) (x : Tx) (s : State),
      s.closed = false ∧ s.tenthsDue = 0 ∧ s.tenancy w ≠ .vacant ∧ s.turn = some tn ∧ tn.holder = w ∧ tn.emission ≠ .cw ∧ (w ≠ 0 ∨ s.functionActive .localPtt = false) ∧ s.seq.tx = some x ∧ s.memberExciting = true ∧ s.seq.active.tail ≠ 0 ∧ s.settled) ∧
    (∃ (tn : Turn) (x : Tx) (l : Clock) (s : State),
      s.rst = false ∧ s.turn = some tn ∧ x.limitStart = some l ∧ s.seq.tx = some x ∧ s.memberExciting = true ∧ s.seq.active.tail ≠ 0 ∧ s.settled ∧ (s.bringTo (l + BitVec.ofNat 32 ((s.classOf tn.holder).txLimit * 1000))).tenthsDue = 0) ∧
    (∃ (tn : Turn) (x : Tx) (tm : Timer) (s : State),
      s.rst = false ∧ s.turn = some tn ∧ s.ktl.hang = some tm ∧ s.seq.tx = some x ∧ s.memberExciting = true ∧ s.seq.active.tail ≠ 0 ∧ s.settled ∧ (s.bringTo tm.due).tenthsDue = 0) ∧
    (∃ (tn : Turn) (x : Tx) (s : State),
      s.rst = false ∧ s.turn = some tn ∧ s.idu.deadlineRuns = true ∧ s.seq.tx = some x ∧ s.memberExciting = true ∧ s.seq.active.tail ≠ 0 ∧ s.settled ∧ (s.bringTo s.idu.deadlineAt).tenthsDue = 0) ∧
    (∃ (i : InputId) (y : Input) (n : Clock) (tn : Turn) (x : Tx) (s : State),
      s.rst = false ∧ s.inr.inputs.read i = y ∧ y.since = some n ∧ y.function = .localPtt ∧ y.trigger = .level ∧ y.raw = false ∧ y.debounced = true ∧ y.polarity = .activeHigh ∧ (∀ j, j ≠ i → (s.inr.inputs.read j).function ≠ .localPtt) ∧ s.turn = some tn ∧ tn.holder = 0 ∧ tn.emission ≠ .cw ∧ s.seq.pttDemand = false ∧ s.seq.tx = some x ∧ s.memberExciting = true ∧ s.seq.active.tail ≠ 0 ∧ s.settled ∧ (s.bringTo (n + BitVec.ofNat 32 y.debounce)).tenthsDue = 0) ∧
    (∃ (tag : Nat) (w : SlotId) (tn : Turn) (s : State),
      s.closed = false ∧ s.tenthsDue = 0 ∧ s.tenancy w ≠ .vacant ∧ s.turn = some tn ∧ tn.holder = w ∧ tn.emission ≠ .cw ∧ tn.pendingStart = true ∧ (w ≠ 0 ∨ s.functionActive .localPtt = false) ∧ s.running = false ∧ s.settled) ∧
    (∃ (tag : Nat) (w : SlotId) (tn : Turn) (x : Tx) (s : State),
      s.closed = false ∧ s.tenthsDue = 0 ∧ s.tenancy w ≠ .vacant ∧ s.turn = some tn ∧ tn.holder = w ∧ tn.emission ≠ .cw ∧ (w ≠ 0 ∨ s.functionActive .localPtt = false) ∧ s.arming = true ∧ s.memberTx = true ∧ s.seq.tx = some x ∧ (s.seq.ampkey = true → x.path = .amplified) ∧ s.seq.active.ampOff ≠ 0 ∧ s.seq.active.relayOff ≠ 0 ∧ s.settled) ∧
    (∃ (i : InputId) (y : Input) (n : Clock) (tn : Turn) (x : Tx) (s : State),
      s.rst = false ∧ s.inr.inputs.read i = y ∧ y.since = some n ∧ y.function = .localPtt ∧ y.trigger = .level ∧ y.raw = false ∧ y.debounced = true ∧ y.polarity = .activeHigh ∧ (∀ j, j ≠ i → (s.inr.inputs.read j).function ≠ .localPtt) ∧ s.turn = some tn ∧ tn.holder = 0 ∧ tn.emission ≠ .cw ∧ s.seq.pttDemand = false ∧ s.arming = true ∧ s.memberTx = true ∧ s.seq.tx = some x ∧ (s.seq.ampkey = true → x.path = .amplified) ∧ s.seq.active.ampOff ≠ 0 ∧ s.seq.active.relayOff ≠ 0 ∧ s.settled ∧ (s.bringTo (n + BitVec.ofNat 32 y.debounce)).tenthsDue = 0) ∧
    (∃ (tn : Turn) (x : Tx) (s : State),
      s.rst = false ∧ s.turn = some tn ∧ s.idu.deadlineRuns = true ∧ s.arming = true ∧ s.memberTx = true ∧ s.seq.tx = some x ∧ (s.seq.ampkey = true → x.path = .amplified) ∧ s.seq.active.ampOff ≠ 0 ∧ s.seq.active.relayOff ≠ 0 ∧ s.settled ∧ (s.bringTo s.idu.deadlineAt).tenthsDue = 0) ∧
    (∃ (tag : Nat) (actor : Nat) (a : Actor) (w : SlotId) (tn : Turn) (x : Tx) (s : State),
      s.takes .controlSlot actor a ∧ s.turn = some tn ∧ tn.holder = w ∧ s.arb.turnGap ≠ 0 ∧ s.idu.due = false ∧ s.idu.cycle = .idle ∧ s.idu.startWaits = false ∧ tn.sub ≠ .paused ∧ s.arming = true ∧ s.memberTx = true ∧ s.seq.tx = some x ∧ (s.seq.ampkey = true → x.path = .amplified) ∧ s.seq.active.ampOff ≠ 0 ∧ s.seq.active.relayOff ≠ 0 ∧ s.settled) ∧
    (∃ (tn : Turn) (x : Tx) (s : State),
      s.rst = false ∧ s.turn = some tn ∧ s.arb.turnGap ≠ 0 ∧ s.idu.due = false ∧ s.idu.cycle = .idle ∧ s.idu.startWaits = false ∧ tn.sub ≠ .paused ∧ s.arming = true ∧ s.memberTx = true ∧ s.seq.tx = some x ∧ (s.seq.ampkey = true → x.path = .amplified) ∧ s.seq.active.ampOff ≠ 0 ∧ s.seq.active.relayOff ≠ 0 ∧ s.settled ∧ (s.bringTo (tn.grantClock + BitVec.ofNat 32 ((s.classOf tn.holder).turnLimit * 60000))).tenthsDue = 0) ∧
    (∃ (tag : Nat) (w : SlotId) (s : State),
      s.closed = false ∧ s.tenthsDue = 0 ∧ s.tenancy w ≠ .vacant ∧ (∀ tn ∈ s.turn, tn.holder = w → tn.emission = .cw)) :=
  ⟨⟨1, 5, turnOn, tx3, onAir, by decide +kernel⟩,
    ⟨turnOn, ({ tx3 with airTime := 1800 }), 0, (aired 1800 onAir), by decide +kernel⟩,
    ⟨turnOn, ({ tx3 with airTime := 4 }), (⟨0, 400⟩), (aired 4 { onAir with ktl := { onAir.ktl with hang := some ⟨0, 400⟩ } }), by decide +kernel⟩,
    ⟨turnOn, tx3, ({ onAir with idu := { onAir.idu with deadlineRuns := true } }), by decide +kernel⟩,
    ⟨3, (⟨.localPtt, .level, .activeHigh, 10, false, true, some 0⟩), 0, ({ turnOn with holder := 0 }), ({ tx3 with kind := .member 0 }), localOnAir, by decide +kernel⟩,
    ⟨1, 5, ({ turn3 with sub := .paused, idleStart := none, pendingStart := true }), ({ pausedTurn with arb := { pausedTurn.arb with arbiter := .turn { turn3 with sub := .paused, idleStart := none, pendingStart := true } } }), by decide +kernel⟩,
    ⟨1, 5, turnOn, tx3, arming, by decide +kernel⟩,
    ⟨3, (⟨.localPtt, .level, .activeHigh, 10, false, true, some 0⟩), 0, ({ turnOn with holder := 0 }), ({ tx3 with kind := .member 0 }), ({ localOnAir with seq := { ready.seq with state := .armRelay, step := some ⟨0, 15⟩, trr := true, tx := some { tx3 with kind := .member 0 } } }), by decide +kernel⟩,
    ⟨turnOn, ({ tx3 with path := .amplified }), ({ armingAmp with seq := { armingAmp.seq with state := .armAmp, ampkey := true }, idu := { arming.idu with deadlineRuns := true, claim := .atTxEnd, due := true } }), by decide +kernel⟩,
    ⟨1, 255, .station, 5, turnOn, tx3, arming, by decide +kernel⟩,
    ⟨turnOn, tx3, arming, by decide +kernel⟩,
    ⟨1, 5, cwTurn, by decide +kernel⟩⟩

theorem witness_SetPowerRecomputes :
    (∃ (tag : Nat) (w : SlotId) (tn : Turn) (n : Nat) (s : State),
      s.closed = false ∧ s.tenthsDue = 0 ∧ s.tenancy w ≠ .vacant ∧ s.turn = some tn ∧ tn.holder = w ∧ s.memberExciting = false) ∧
    (∃ (tag : Nat) (w : SlotId) (tn : Turn) (x : Tx) (n : Nat) (s : State),
      s.closed = false ∧ s.tenthsDue = 0 ∧ s.tenancy w ≠ .vacant ∧ s.turn = some tn ∧ tn.holder = w ∧ s.memberExciting = true ∧ s.seq.tx = some x ∧ x.kind = .member w) ∧
    (∃ (tag : Nat) (w : SlotId) (n : Nat) (s : State),
      s.closed = false ∧ s.tenthsDue = 0 ∧ s.tenancy w ≠ .vacant ∧ s.holder ≠ some w) :=
  ⟨⟨1, 5, turn3, 4001, quietTurn, by decide +kernel⟩,
    ⟨1, 5, turnOn, tx3, 0, onAir, by decide +kernel⟩,
    ⟨1, 9, 5, onAir, by decide +kernel⟩⟩

theorem witness_RetuneMovesTheTurn :
    (∃ (tag : Nat) (w : SlotId) (b : BandId) (e : Emission) (ec : Nat) (tn : Turn) (s : State),
      s.closed = false ∧ s.tenthsDue = 0 ∧ s.tenancy w ≠ .vacant ∧ emissionOf ec = some e ∧ s.turn = some tn ∧ tn.holder = w ∧ s.permit w b e = true ∧ tn.sub = .active ∧ s.seq.state = .quiet ∧ b ≠ tn.band ∧ s.seq.active.bandSettle ≠ 0 ∧ s.settled) ∧
    (∃ (tag : Nat) (w : SlotId) (e : Emission) (ec : Nat) (tn : Turn) (s : State),
      s.closed = false ∧ s.tenthsDue = 0 ∧ s.tenancy w ≠ .vacant ∧ emissionOf ec = some e ∧ s.turn = some tn ∧ tn.holder = w ∧ s.permit w tn.band e = true ∧ tn.sub = .active ∧ s.seq.state = .quiet ∧ s.settled) ∧
    (∃ (tag : Nat) (w : SlotId) (b : BandId) (e : Emission) (ec : Nat) (tn : Turn) (s : State),
      s.closed = false ∧ s.tenthsDue = 0 ∧ s.tenancy w ≠ .vacant ∧ emissionOf ec = some e ∧ s.turn = some tn ∧ tn.holder = w ∧ (s.permit w b e = false ∨ tn.sub ≠ .active ∨ s.seq.state ≠ .quiet)) ∧
    (∃ (tag : Nat) (w : SlotId) (b : Nat) (ec : Nat) (s : State),
      s.closed = false ∧ s.tenthsDue = 0 ∧ s.tenancy w ≠ .vacant ∧ (s.holder ≠ some w ∨ 12 ≤ b ∨ 3 ≤ ec)) :=
  ⟨⟨1, 5, 5, .data, 2, turn3, quietTurn, by decide +kernel⟩,
    ⟨1, 5, .cw, 0, turn3, quietTurn, by decide +kernel⟩,
    ⟨1, 5, 3, .phone, 1, turnOn, onAir, by decide +kernel⟩,
    ⟨1, 9, 12, 0, onAir, by decide +kernel⟩⟩

theorem witness_KeyEventsAreScheduled :
    (∃ (tag : Nat) (w : SlotId) (tn : Turn) (z : KeyTime) (k : KeyTime) (s : State),
      s.closed = false ∧ s.tenthsDue = 0 ∧ s.tenancy w ≠ .vacant ∧ s.turn = some tn ∧ tn.holder = w ∧ tn.emission = .cw ∧ tn.sub = .active ∧ s.prt.station = .ready ∧ s.settled ∧ s.ktl.burst = none ∧ s.ktl.timeline = [] ∧ s.ktl.state = .up ∧ s.seq.state = .quiet ∧ s.seq.active.relayOn ≠ 0 ∧ 0 < s.ktl.params.playoutDelay ∧ s.ktl.params.playoutDelay + k.toNat < 32768) ∧
    (∃ (tag : Nat) (w : SlotId) (tn : Turn) (r : Burst) (z : KeyTime) (s : State),
      s.closed = false ∧ s.tenthsDue = 0 ∧ s.tenancy w ≠ .vacant ∧ s.turn = some tn ∧ tn.holder = w ∧ tn.emission = .cw ∧ tn.sub = .active ∧ s.prt.station = .ready ∧ s.settled ∧ s.ktl.burst = some r ∧ s.ktl.timeline = [] ∧ s.ktl.state = .up ∧ (z + r.offset - r.last).toInt < 0) ∧
    (∃ (tag : Nat) (w : SlotId) (tn : Turn) (r : Burst) (z : KeyTime) (s : State),
      s.closed = false ∧ s.tenthsDue = 0 ∧ s.tenancy w ≠ .vacant ∧ s.turn = some tn ∧ tn.holder = w ∧ tn.emission = .cw ∧ tn.sub = .active ∧ s.prt.station = .ready ∧ s.settled ∧ s.ktl.burst = some r ∧ s.ktl.timeline = [] ∧ s.ktl.state = .up ∧ 0 ≤ (z + r.offset - r.last).toInt ∧ 0 < (s.keyNow - (z + r.offset)).toInt ∧ s.ktl.params.lateAllowance < (s.keyNow - (z + r.offset)).toInt.toNat) ∧
    (∃ (tag : Nat) (w : SlotId) (tn : Turn) (r : Burst) (z : KeyTime) (s : State),
      s.closed = false ∧ s.tenthsDue = 0 ∧ s.tenancy w ≠ .vacant ∧ s.turn = some tn ∧ tn.holder = w ∧ tn.emission = .cw ∧ tn.sub = .active ∧ s.prt.station = .ready ∧ s.settled ∧ s.ktl.burst = some r ∧ s.ktl.timeline = [] ∧ s.ktl.state = .up ∧ 0 ≤ (z + r.offset - r.last).toInt ∧ 0 < (s.keyNow - (z + r.offset)).toInt ∧ (s.keyNow - (z + r.offset)).toInt.toNat ≤ s.ktl.params.lateAllowance ∧ s.running = true) ∧
    (∃ (tag : Nat) (w : SlotId) (tn : Turn) (r : Burst) (z : KeyTime) (s : State),
      s.closed = false ∧ s.tenthsDue = 0 ∧ s.tenancy w ≠ .vacant ∧ s.turn = some tn ∧ tn.holder = w ∧ tn.emission = .cw ∧ tn.sub = .active ∧ s.prt.station = .ready ∧ s.settled ∧ s.ktl.burst = some r ∧ s.ktl.timeline = [] ∧ s.ktl.state = .up) ∧
    (∃ (tag : Nat) (w : SlotId) (tn : Turn) (r : Burst) (z : KeyTime) (s : State),
      s.closed = false ∧ s.tenthsDue = 0 ∧ s.tenancy w ≠ .vacant ∧ s.turn = some tn ∧ tn.holder = w ∧ tn.emission = .cw ∧ tn.sub = .active ∧ s.prt.station = .ready ∧ s.settled ∧ s.ktl.burst = some r ∧ s.ktl.timeline = [] ∧ s.ktl.state = .down ∧ (w ≠ 0 ∨ s.functionActive .localKey = false) ∧ 0 ≤ (z + r.offset - r.last).toInt ∧ 0 < (s.keyNow - (z + r.offset)).toInt) ∧
    (∃ (tag : Nat) (w : SlotId) (tn : Turn) (r : Burst) (z : KeyTime) (dc : Nat) (k : Key) (s : State),
      s.closed = false ∧ s.tenthsDue = 0 ∧ s.tenancy w ≠ .vacant ∧ s.turn = some tn ∧ tn.holder = w ∧ tn.emission = .cw ∧ tn.sub = .active ∧ s.prt.station = .ready ∧ s.settled ∧ s.ktl.burst = some r ∧ keyOf dc = some k ∧ 64 ≤ s.ktl.timeline.length ∧ (s.ktl.timeline.getLast?.map (·.dir)) ≠ some k ∧ (∀ e ∈ s.ktl.timeline, 0 < (e.at_ - s.keyNow).toInt) ∧ 0 ≤ (z + r.offset - r.last).toInt ∧ (s.keyNow - (z + r.offset)).toInt ≤ 0) ∧
    (∃ (tag : Nat) (w : SlotId) (tn : Turn) (z : KeyTime) (y : KeyTime) (s : State),
      s.closed = false ∧ s.tenthsDue = 0 ∧ s.tenancy w ≠ .vacant ∧ s.turn = some tn ∧ tn.holder = w ∧ tn.emission = .cw ∧ tn.sub ≠ .active ∧ s.prt.station = .ready ∧ s.ktl.timeline = [] ∧ s.settled) ∧
    (∃ (tag : Nat) (w : SlotId) (tn : Turn) (l : List (Nat × KeyTime)) (s : State),
      s.closed = false ∧ s.tenthsDue = 0 ∧ s.tenancy w ≠ .vacant ∧ s.turn = some tn ∧ tn.holder = w ∧ tn.emission = .cw ∧ s.prt.station ≠ .ready ∧ (l ≠ [] ∧ l.length ≤ 80) ∧ (∀ x ∈ l, x.1 < 2)) ∧
    (∃ (tag : Nat) (w : SlotId) (l : List (Nat × KeyTime)) (s : State),
      s.closed = false ∧ s.tenthsDue = 0 ∧ s.tenancy w ≠ .vacant ∧ (l = [] ∨ 80 < l.length ∨ ∃ x ∈ l, 2 ≤ x.1)) ∧
    (∃ (tag : Nat) (w : SlotId) (z : KeyTime) (s : State),
      s.closed = false ∧ s.tenthsDue = 0 ∧ s.tenancy w ≠ .vacant ∧ (∀ tn ∈ s.turn, tn.holder = w → tn.emission ≠ .cw)) :=
  ⟨⟨1, 5, cwTurn3, 0xFFFF, 2, cwTurn, by decide +kernel⟩,
    ⟨1, 5, cwTurn3, (⟨100, 0⟩), 0xFF9B, ({ cwTurn with ktl := { cwTurn.ktl with burst := some ⟨100, 0⟩ } }), by decide +kernel⟩,
    ⟨1, 5, cwTurn3, (⟨0, 0⟩), 0, ({ cwTurn with clock := 41, ktl := { cwTurn.ktl with burst := some ⟨0, 0⟩ } }), by decide +kernel⟩,
    ⟨1, 5, cwTurnOn, (⟨0, 0⟩), 0, cwOnAir, by decide +kernel⟩,
    ⟨1, 5, cwTurn3, (⟨100, 0⟩), 5, ({ cwTurn with ktl := { cwTurn.ktl with burst := some ⟨100, 0⟩ } }), by decide +kernel⟩,
    ⟨1, 5, cwTurnOn, (⟨0, 0⟩), 0, (aired 20 { cwOnAir with clock := 2000, ktl := { cwOnAir.ktl with state := .down } }), by decide +kernel⟩,
    ⟨1, 5, cwTurnOn, (⟨0, 200⟩), 200, 1, .down, ({ cwOnAir with ktl := { cwOnAir.ktl with burst := some ⟨0, 200⟩, timeline := List.replicate 64 ⟨.up, 200, 200⟩ } }), by decide +kernel⟩,
    ⟨1, 5, ({ cwTurn3 with sub := .tuning, idleStart := none }), 0, 60, ({ tuningTurn with arb := (holding { cwTurn3 with sub := .tuning, idleStart := none }).arb }), by decide +kernel⟩,
    ⟨1, 5, cwTurn3, ([(1, 0)]), ({ cwTurn with prt := { cwTurn.prt with station := .held } }), by decide +kernel⟩,
    ⟨1, 5, [], cwTurn, by decide +kernel⟩,
    ⟨1, 5, 0, quietTurn, by decide +kernel⟩⟩

theorem witness_SeizePutsTheSlotOnTheAir :
    (∃ (tag : Nat) (actor : Nat) (a : Actor) (w : SlotId) (b : BandId) (e : Emission) (ec : Nat) (n : Nat) (s : State),
      s.takes .controlSlot actor a ∧ (a = .slot w ∨ a = .station) ∧ emissionOf ec = some e ∧ s.prt.station = .ready ∧ s.tenancy w ≠ .vacant ∧ (s.identity w).heldBack = false ∧ (s.classOf w).control = true ∧ s.exhausted w = false ∧ s.permit w b e = true ∧ (s.arb.arbiter = .free ∨ s.arb.arbiter = .gap)) ∧
    (∃ (tag : Nat) (actor : Nat) (a : Actor) (w : SlotId) (b : BandId) (e : Emission) (ec : Nat) (n : Nat) (tn : Turn) (s : State),
      s.takes .controlSlot actor a ∧ (a = .slot w ∨ a = .station) ∧ emissionOf ec = some e ∧ s.prt.station = .ready ∧ s.tenancy w ≠ .vacant ∧ (s.identity w).heldBack = false ∧ (s.classOf w).control = true ∧ s.exhausted w = false ∧ s.turn = some tn ∧ tn.holder ≠ w ∧ tn.sub ≠ .paused ∧ s.permit w tn.band tn.emission = true) ∧
    (∃ (tag : Nat) (actor : Nat) (a : Actor) (w : SlotId) (b : BandId) (e : Emission) (ec : Nat) (n : Nat) (s : State),
      s.takes .controlSlot actor a ∧ (a = .slot w ∨ a = .station) ∧ emissionOf ec = some e ∧ s.prt.station = .ready ∧ s.tenancy w ≠ .vacant ∧ (s.identity w).heldBack = false ∧ (s.classOf w).control = true ∧ s.exhausted w = false ∧ s.permit w b e = true ∧ s.arb.arbiter = .idTurn ∧ s.settled) ∧
    (∃ (tag : Nat) (actor : Nat) (a : Actor) (w : SlotId) (b : BandId) (e : Emission) (ec : Nat) (n : Nat) (tn : Turn) (s : State),
      s.takes .controlSlot actor a ∧ (a = .slot w ∨ a = .station) ∧ emissionOf ec = some e ∧ s.prt.station = .ready ∧ s.tenancy w ≠ .vacant ∧ (s.identity w).heldBack = false ∧ (s.classOf w).control = true ∧ s.exhausted w = false ∧ s.turn = some tn ∧ tn.holder ≠ w ∧ tn.sub = .paused ∧ s.running = false ∧ s.permit w tn.band tn.emission = true ∧ s.settled) ∧
    (∃ (tag : Nat) (actor : Nat) (a : Actor) (w : SlotId) (b : BandId) (e : Emission) (ec : Nat) (n : Nat) (s : State),
      s.takes .controlSlot actor a ∧ (a = .slot w ∨ a = .station) ∧ emissionOf ec = some e ∧ s.prt.station = .ready ∧ s.holder ≠ some w ∧ s.tenancy w ≠ .vacant ∧ (s.identity w).heldBack = false ∧ (s.classOf w).control = true ∧ (s.permit w ((s.turn.map fun v => (v.band, v.emission)).getD (b, e)).1 ((s.turn.map fun v => (v.band, v.emission)).getD (b, e)).2 = false ∨ s.exhausted w = true)) ∧
    (∃ (tag : Nat) (actor : Nat) (a : Actor) (w : SlotId) (b : BandId) (ec : Nat) (n : Nat) (s : State),
      s.takes .controlSlot actor a ∧ (a = .slot w ∨ a = .station) ∧ ec < 3 ∧ (s.prt.station ≠ .ready ∨ s.holder = some w)) ∧
    (∃ (tag : Nat) (actor : Nat) (a : Actor) (w : SlotId) (v : SlotId) (b : BandId) (ec : Nat) (n : Nat) (s : State),
      s.takes .controlSlot actor a ∧ a = .slot v ∧ v ≠ w) ∧
    (∃ (tag : Nat) (actor : Nat) (a : Actor) (w : SlotId) (b : BandId) (ec : Nat) (n : Nat) (s : State),
      s.takes .controlSlot actor a ∧ (a = .slot w ∨ a = .station) ∧ ec < 3 ∧ s.prt.station = .ready ∧ s.holder ≠ some w ∧ (s.tenancy w = .vacant ∨ (s.identity w).heldBack = true ∨ (s.classOf w).control = false)) :=
  ⟨⟨1, 255, .station, 9, 3, .cw, 0, 0, ready, by decide +kernel⟩,
    ⟨1, 255, .station, 9, 3, .cw, 0, 1, turnOn, onAir, by decide +kernel⟩,
    ⟨1, 255, .station, 9, 3, .cw, 0, 4000, ({ ready with arb := { ready.arb with arbiter := .idTurn } }), by decide +kernel⟩,
    ⟨1, 255, .station, 9, 5, .cw, 0, 0, ({ turn3 with sub := .paused, idleStart := none }), pausedTurn, by decide +kernel⟩,
    ⟨1, 255, .station, 9, 11, .cw, 0, 1, ready, by decide +kernel⟩,
    ⟨1, 255, .station, 5, 3, 0, 1, onAir, by decide +kernel⟩,
    ⟨1, 9, (.slot 9), 5, 9, 3, 0, 1, ready, by decide +kernel⟩,
    ⟨1, 255, .station, 31, 3, 0, 1, onAir, by decide +kernel⟩⟩

theorem witness_AmplifierWarmsAndRests :
    (∃ (tag : Nat) (actor : Nat) (a : Actor) (s : State),
      s.takes .controlSlot actor a ∧ s.amg.state = .off ∧ s.ampReady = false) ∧
    (∃ (tag : Nat) (actor : Nat) (a : Actor) (s : State),
      s.takes .controlSlot actor a ∧ s.amg.state = .off ∧ s.ampReady = true) ∧
    (∃ (tag : Nat) (actor : Nat) (a : Actor) (s : State),
      s.takes .controlSlot actor a ∧ (s.amg.state = .warming ∨ s.amg.state = .on)) ∧
    (∃ (tag : Nat) (actor : Nat) (a : Actor) (s : State),
      s.takes .controlSlot actor a ∧ s.amg.state = .failed) ∧
    (∃ (tag : Nat) (actor : Nat) (a : Actor) (s : State),
      s.takes .controlSlot actor a ∧ s.amg.state ≠ .failed) ∧
    (∃ (tm : Timer) (s : State),
      s.rst = false ∧ s.amg.warm = some tm ∧ s.isRouted .ampReady = false ∧ s.settled ∧ (s.bringTo tm.due).tenthsDue = 0) ∧
    (∃ (tm : Timer) (s : State),
      s.rst = false ∧ s.amg.warm = some tm ∧ s.isRouted .ampReady = true ∧ s.settled ∧ s.stationFollows ∧ (∀ r ∈ s.prt.faults, r.kind ≠ .ampNoReady) ∧ (s.bringTo tm.due).tenthsDue = 0) ∧
    (∃ (tm : Timer) (s : State),
      s.rst = false ∧ s.amg.idle = some tm ∧ (s.bringTo tm.due).tenthsDue = 0) ∧
    (∃ (i : InputId) (y : Input) (n : Clock) (s : State),
      s.rst = false ∧ s.inr.inputs.read i = y ∧ y.since = some n ∧ y.function = .ampReady ∧ y.trigger = .level ∧ s.functionActive .ampReady = false ∧ ({ y with debounced := y.raw }).active = true ∧ s.amg.state = .warming ∧ s.settled ∧ (s.bringTo (n + BitVec.ofNat 32 y.debounce)).tenthsDue = 0) ∧
    (∃ (i : InputId) (y : Input) (n : Clock) (s : State),
      s.rst = false ∧ s.inr.inputs.read i = y ∧ y.since = some n ∧ y.function = .ampReady ∧ y.trigger = .level ∧ s.functionActive .ampReady = true ∧ ({ y with debounced := y.raw }).active = false ∧ (∀ j, j ≠ i → (s.inr.inputs.read j).function = .ampReady → (s.inr.inputs.read j).active = false) ∧ s.amg.state = .on ∧ s.stationFollows ∧ (∀ x ∈ s.seq.tx, x.path = .barefoot) ∧ (∀ r ∈ s.prt.faults, r.kind ≠ .ampDrop) ∧ s.settled ∧ (s.bringTo (n + BitVec.ofNat 32 y.debounce)).tenthsDue = 0) ∧
    (∃ (i : InputId) (y : Input) (n : Clock) (x : Tx) (s : State),
      s.rst = false ∧ s.inr.inputs.read i = y ∧ y.since = some n ∧ y.function = .ampReady ∧ y.trigger = .level ∧ s.functionActive .ampReady = true ∧ ({ y with debounced := y.raw }).active = false ∧ (∀ j, j ≠ i → (s.inr.inputs.read j).function = .ampReady → (s.inr.inputs.read j).active = false) ∧ s.amg.state = .on ∧ s.stationFollows ∧ s.seq.tx = some x ∧ s.memberExciting = true ∧ x.path = .amplified ∧ s.seq.ampkey = true ∧ s.seq.active.ampOff ≠ 0 ∧ s.settled ∧ (s.bringTo (n + BitVec.ofNat 32 y.debounce)).tenthsDue = 0) ∧
    (∃ (tag : Nat) (p : InputArgs) (i : InputId) (q : InputPolarity) (s : State),
      s.closed = false ∧ s.tenthsDue = 0 ∧ p.input = i.val ∧ p.function = 4 ∧ p.trigger = 1 ∧ inputPolarityOf p.polarity = some q ∧ (s.inr.inputs.read i).function = .none ∧ (s.inr.inputs.read i).since = none ∧ ({ s.inr.inputs.read i with polarity := q }).active = false ∧ s.isRouted .ampReady = false ∧ s.amg.state = .on ∧ (∀ x ∈ s.seq.tx, x.path = .barefoot) ∧ (∀ r ∈ s.prt.faults, r.kind ≠ .ampDrop) ∧ s.stationFollows ∧ s.settled) :=
  ⟨⟨1, 255, .station, State.reset, by decide +kernel⟩,
    ⟨1, 255, .station, (readyInput State.reset), by decide +kernel⟩,
    ⟨1, 255, .station, ({ State.reset with amg := { State.reset.amg with state := .on } }), by decide +kernel⟩,
    ⟨1, 255, .station, ({ State.reset with amg := { State.reset.amg with state := .failed } }), by decide +kernel⟩,
    ⟨1, 255, .station, State.reset, by decide +kernel⟩,
    ⟨(⟨0, 180000⟩), ({ State.reset with amg := { State.reset.amg with state := .warming, amppwr := true, warm := some ⟨0, 180000⟩ } }), by decide +kernel⟩,
    ⟨(⟨0, 180000⟩), ({ readyInput State.reset with amg := { State.reset.amg with state := .warming, amppwr := true, warm := some ⟨0, 180000⟩ } }), by decide +kernel⟩,
    ⟨(⟨0, 60000⟩), ({ State.reset with amg := { State.reset.amg with state := .on, amppwr := true, idle := some ⟨0, 60000⟩ } }), by decide +kernel⟩,
    ⟨0, (⟨.ampReady, .level, .activeHigh, 10, true, false, some 0⟩), 0, (readyContact .warming true ready), by decide +kernel⟩,
    ⟨0, (⟨.ampReady, .level, .activeHigh, 10, false, true, some 0⟩), 0, (readyContact .on false onAir), by decide +kernel⟩,
    ⟨0, (⟨.ampReady, .level, .activeHigh, 10, false, true, some 0⟩), 0, ({ tx3 with path := .amplified }), (readyContact .on false ampOnAir), by decide +kernel⟩,
    ⟨1, (⟨2, 4, 1, 0, 10⟩), 2, .activeHigh, ({ ready with amg := { ready.amg with state := .on, amppwr := true } }), by decide +kernel⟩⟩

theorem witness_AmpOffPutsIntoStandby :
    (∃ (tag : Nat) (actor : Nat) (a : Actor) (s : State),
      s.takes .controlSlot actor a ∧ (s.amg.state = .warming ∨ s.amg.state = .on) ∧ (∀ x ∈ s.seq.tx, x.path = .barefoot)) ∧
    (∃ (tag : Nat) (actor : Nat) (a : Actor) (x : Tx) (s : State),
      s.takes .controlSlot actor a ∧ (s.amg.state = .warming ∨ s.amg.state = .on) ∧ s.seq.tx = some x ∧ x.path = .amplified) ∧
    (∃ (tag : Nat) (actor : Nat) (a : Actor) (s : State),
      s.takes .controlSlot actor a ∧ s.amg.state = .off) ∧
    (∃ (tag : Nat) (actor : Nat) (a : Actor) (s : State),
      s.takes .controlSlot actor a ∧ s.amg.state = .failed) ∧
    (∃ (f : RawFrame),
      f.kind = 0x35) :=
  ⟨⟨1, 255, .station, ({ onAir with amg := { onAir.amg with state := .warming, amppwr := true } }), by decide +kernel⟩,
    ⟨1, 255, .station, ({ tx3 with path := .amplified }), ({ onAir with amg := { onAir.amg with state := .on }, seq := { onAir.seq with state := .disarmRelay, tx := some { tx3 with path := .amplified } } }), by decide +kernel⟩,
    ⟨1, 255, .station, State.reset, by decide +kernel⟩,
    ⟨1, 255, .station, ({ State.reset with amg := { State.reset.amg with state := .failed } }), by decide +kernel⟩,
    ⟨(⟨0x35, 1, 5, [0], 0⟩), by decide +kernel⟩⟩

theorem witness_TheSequencerArms :
    (∃ (tm : Timer) (x : Tx) (s : State),
      s.rst = false ∧ s.seq.state = .armRelay ∧ s.seq.step = some tm ∧ s.seq.tx = some x ∧ x.path = .amplified ∧ s.amg.state = .on ∧ s.seq.active.ampOn ≠ 0 ∧ s.settled) ∧
    (∃ (tm : Timer) (x : Tx) (s : State),
      s.rst = false ∧ s.seq.state = .armRelay ∧ s.seq.step = some tm ∧ s.seq.tx = some x ∧ x.path = .amplified ∧ s.amg.state ≠ .on ∧ s.seq.ampkey = false ∧ s.seq.active.relayOff ≠ 0 ∧ s.settled) ∧
    (∃ (tm : Timer) (x : Tx) (w : SlotId) (tn : Turn) (s : State),
      s.rst = false ∧ s.seq.state = .armRelay ∧ s.seq.step = some tm ∧ s.seq.tx = some x ∧ x.path = .barefoot ∧ s.turn = some tn ∧ tn.holder = w ∧ x.kind = .member w ∧ x.current = true ∧ s.settled) ∧
    (∃ (tm : Timer) (x : Tx) (w : SlotId) (tn : Turn) (s : State),
      s.rst = false ∧ s.seq.state = .armAmp ∧ s.seq.step = some tm ∧ s.seq.tx = some x ∧ s.turn = some tn ∧ tn.holder = w ∧ x.kind = .member w ∧ x.current = true ∧ s.settled) ∧
    (∃ (tm : Timer) (x : Tx) (y : Cycle) (s : State),
      s.rst = false ∧ s.seq.state = .armRelay ∧ s.seq.step = some tm ∧ s.seq.tx = some x ∧ x.path = .barefoot ∧ x.kind = .ident ∧ s.idu.cycle = .starting ∧ s.idu.context = some y ∧ s.settled) ∧
    (∃ (tm : Timer) (x : Tx) (y : Cycle) (s : State),
      s.rst = false ∧ s.seq.state = .armAmp ∧ s.seq.step = some tm ∧ s.seq.tx = some x ∧ x.kind = .ident ∧ s.idu.cycle = .starting ∧ s.idu.context = some y ∧ s.settled) :=
  ⟨⟨(⟨0, 15⟩), ({ tx3 with path := .amplified }), armingAmp, by decide +kernel⟩,
    ⟨(⟨0, 15⟩), ({ tx3 with path := .amplified }), ({ armingAmp with amg := { armingAmp.amg with state := .failed } }), by decide +kernel⟩,
    ⟨(⟨0, 15⟩), tx3, 5, turnOn, arming, by decide +kernel⟩,
    ⟨(⟨0, 10⟩), ({ tx3 with path := .amplified }), 5, turnOn, ({ armingAmp with seq := { armingAmp.seq with state := .armAmp, ampkey := true, step := some ⟨0, 10⟩ } }), by decide +kernel⟩,
    ⟨(⟨0, 15⟩), idTx3, ({ cycle3 with home := .memberTurn, entered := false }), pausedTurn, by decide +kernel⟩,
    ⟨(⟨0, 10⟩), ({ idTx3 with path := .amplified }), ({ cycle3 with home := .memberTurn, entered := false }), ({ pausedTurn with seq := { pausedTurn.seq with state := .armAmp, step := some ⟨0, 10⟩, tx := some { idTx3 with path := .amplified } } }), by decide +kernel⟩⟩

theorem witness_TheSequencerDisarms :
    (∃ (tm : Timer) (x : Tx) (s : State),
      s.rst = false ∧ s.seq.state = .drain ∧ s.seq.step = some tm ∧ s.seq.tx = some x ∧ x.path = .amplified ∧ s.seq.active.ampOff ≠ 0 ∧ s.settled) ∧
    (∃ (tm : Timer) (x : Tx) (s : State),
      s.rst = false ∧ s.seq.state = .drain ∧ s.seq.step = some tm ∧ s.seq.tx = some x ∧ x.path = .barefoot ∧ s.seq.active.relayOff ≠ 0 ∧ s.settled) ∧
    (∃ (tm : Timer) (s : State),
      s.rst = false ∧ s.seq.state = .disarmAmp ∧ s.seq.step = some tm ∧ s.seq.active.relayOff ≠ 0 ∧ s.settled) ∧
    (∃ (tm : Timer) (s : State),
      s.rst = false ∧ s.seq.state = .disarmRelay ∧ s.seq.step = some tm ∧ s.seq.queuedRetune = none ∧ s.idu.cycle ≠ .closing ∧ s.idu.startWaits = false ∧ (∀ tn ∈ s.turn, tn.pendingStart = false) ∧ s.settled) ∧
    (∃ (tm : Timer) (tn : Turn) (s : State),
      s.rst = false ∧ s.seq.state = .disarmRelay ∧ s.seq.step = some tm ∧ s.seq.queuedRetune = none ∧ s.idu.cycle ≠ .closing ∧ s.idu.startWaits = false ∧ s.turn = some tn ∧ tn.pendingStart = true ∧ tn.sub = .active ∧ s.prt.station = .ready ∧ s.seq.active.relayOn ≠ 0 ∧ s.seq.changePending = false ∧ s.settled) ∧
    (∃ (tm : Timer) (b : BandId) (s : State),
      s.rst = false ∧ s.seq.state = .disarmRelay ∧ s.seq.step = some tm ∧ s.seq.queuedRetune = some b ∧ s.idu.cycle ≠ .closing ∧ s.seq.active.bandSettle ≠ 0 ∧ s.seq.changePending = false ∧ s.settled) ∧
    (∃ (tm : Timer) (tn : Turn) (b : BandId) (s : State),
      s.rst = false ∧ s.seq.state = .retune ∧ s.seq.step = some tm ∧ s.seq.queuedRetune = none ∧ s.idu.cycle = .idle ∧ s.idu.startWaits = false ∧ s.idu.due = false ∧ s.turn = some tn ∧ tn.pendingStart = false ∧ s.seq.retuneCurrent = true ∧ s.seq.retuneBand = some b ∧ s.memberTx = false ∧ s.settled) ∧
    (∃ (tm : Timer) (y : Cycle) (b : BandId) (c : List Char) (s : State),
      s.rst = false ∧ s.seq.state = .disarmRelay ∧ s.seq.step = some tm ∧ s.seq.queuedRetune = none ∧ s.idu.cycle = .starting ∧ s.idu.startWaits = true ∧ s.idu.context = some y ∧ s.prt.station = .ready ∧ s.seq.currentBand = some b ∧ s.idu.callsign = some c ∧ s.seq.changePending = false ∧ s.seq.active.relayOn ≠ 0 ∧ s.settled) ∧
    (∃ (tm : Timer) (x : Tx) (y : Cycle) (s : State),
      s.rst = false ∧ s.seq.state = .disarmRelay ∧ s.seq.step = some tm ∧ s.seq.queuedRetune = none ∧ s.seq.tx = some x ∧ s.idu.cycle = .closing ∧ s.idu.context = some y ∧ s.idu.startWaits = false ∧ s.idu.due = false ∧ s.settled ∧ y.home = .idTurn ∧ s.arb.arbiter = .idTurn ∧ (s.prt.station ≠ .ready ∨ ∀ w, s.eligible w = true → s.marked w = false) ∧ s.arb.gap ≠ none) ∧
    (∃ (tm : Timer) (x : Tx) (y : Cycle) (s : State),
      s.rst = false ∧ s.seq.state = .disarmRelay ∧ s.seq.step = some tm ∧ s.seq.queuedRetune = none ∧ s.seq.tx = some x ∧ s.idu.cycle = .closing ∧ s.idu.context = some y ∧ s.idu.startWaits = false ∧ s.idu.due = false ∧ s.settled ∧ y.home = .idTurn ∧ s.arb.arbiter = .idTurn ∧ (s.prt.station ≠ .ready ∨ s.winner = none) ∧ s.arb.gap = none) ∧
    (∃ (tm : Timer) (x : Tx) (y : Cycle) (w : SlotId) (s : State),
      s.rst = false ∧ s.seq.state = .disarmRelay ∧ s.seq.step = some tm ∧ s.seq.queuedRetune = none ∧ s.seq.tx = some x ∧ s.idu.cycle = .closing ∧ s.idu.context = some y ∧ s.idu.startWaits = false ∧ s.idu.due = false ∧ s.settled ∧ y.home = .idTurn ∧ s.arb.arbiter = .idTurn ∧ s.prt.station = .ready ∧ s.winner = some w ∧ (s.arb.gap = none ∨ ∃ v, s.eligible v = true ∧ s.marked v = true)) ∧
    (∃ (tm : Timer) (x : Tx) (y : Cycle) (tn : Turn) (s : State),
      s.rst = false ∧ s.seq.state = .disarmRelay ∧ s.seq.step = some tm ∧ s.seq.queuedRetune = none ∧ s.seq.tx = some x ∧ s.idu.cycle = .closing ∧ s.idu.context = some y ∧ s.idu.startWaits = false ∧ s.idu.due = false ∧ s.settled ∧ y.home = .memberTurn ∧ s.turn = some tn ∧ tn.sub = .paused ∧ tn.pendingStart = false) ∧
    (∃ (tm : Timer) (x : Tx) (y : Cycle) (tn : Turn) (s : State),
      s.rst = false ∧ s.seq.state = .disarmRelay ∧ s.seq.step = some tm ∧ s.seq.queuedRetune = none ∧ s.seq.tx = some x ∧ s.idu.cycle = .closing ∧ s.idu.context = some y ∧ s.idu.startWaits = false ∧ s.idu.due = false ∧ s.settled ∧ y.home = .memberTurn ∧ s.turn = some tn ∧ tn.sub = .paused ∧ tn.pendingStart = true ∧ s.prt.station = .ready ∧ s.seq.changePending = false ∧ s.seq.active.relayOn ≠ 0) :=
  ⟨⟨(⟨0, 10⟩), ({ tx3 with path := .amplified }), ({ armingAmp with seq := { armingAmp.seq with state := .drain, ampkey := true, step := some ⟨0, 10⟩ } }), by decide +kernel⟩,
    ⟨(⟨0, 10⟩), tx3, ({ arming with seq := { arming.seq with state := .drain, step := some ⟨0, 10⟩ } }), by decide +kernel⟩,
    ⟨(⟨0, 10⟩), ({ armingAmp with seq := { armingAmp.seq with state := .disarmAmp, step := some ⟨0, 10⟩ } }), by decide +kernel⟩,
    ⟨(⟨0, 20⟩), ({ arming with seq := { arming.seq with state := .disarmRelay, trr := false, step := some ⟨0, 20⟩ } }), by decide +kernel⟩,
    ⟨(⟨0, 20⟩), ({ turnOn with pendingStart := true }), pendingTurn, by decide +kernel⟩,
    ⟨(⟨0, 20⟩), 5, ({ ready with seq := { ready.seq with state := .disarmRelay, step := some ⟨0, 20⟩, queuedRetune := some 5 } }), by decide +kernel⟩,
    ⟨(⟨0, 200⟩), ({ turn3 with sub := .tuning, idleStart := none }), 3, tuningTurn, by decide +kernel⟩,
    ⟨(⟨0, 20⟩), ({ cycle3 with entered := false }), 3, (['G', '4']), startWaiting, by decide +kernel⟩,
    ⟨(⟨0, 20⟩), idTx3, cycle3, (closing .idTurn gapWaiting), by decide +kernel⟩,
    ⟨(⟨0, 20⟩), idTx3, cycle3, (closing .idTurn ready), by decide +kernel⟩,
    ⟨(⟨0, 20⟩), idTx3, cycle3, 9, (closing .idTurn (withRequest ready)), by decide +kernel⟩,
    ⟨(⟨0, 20⟩), idTx3, ({ cycle3 with home := .memberTurn }), ({ turn3 with sub := .paused, idleStart := none }), (closing .memberTurn (holding { turn3 with sub := .paused, idleStart := none })), by decide +kernel⟩,
    ⟨(⟨0, 20⟩), idTx3, ({ cycle3 with home := .memberTurn }), ({ turn3 with sub := .paused, idleStart := none, pendingStart := true }), (closing .memberTurn (holding { turn3 with sub := .paused, idleStart := none, pendingStart := true })), by decide +kernel⟩⟩

theorem witness_TheTimelinePlays :
    (∃ (e : KeyEntry) (l : List KeyEntry) (tn : Turn) (s : State),
      s.rst = false ∧ s.ktl.timeline = e :: l ∧ s.turn = some tn ∧ tn.holder ≠ 0 ∧ tn.sub ≠ .paused ∧ s.settled ∧ e.dir = .down ∧ (s.bringTo (s.clock + BitVec.ofNat 32 (sinceMs e.at_ s.keyNow))).tenthsDue = 0) ∧
    (∃ (e : KeyEntry) (l : List KeyEntry) (tn : Turn) (s : State),
      s.rst = false ∧ s.ktl.timeline = e :: l ∧ s.turn = some tn ∧ tn.holder ≠ 0 ∧ tn.sub ≠ .paused ∧ s.settled ∧ e.dir = .up ∧ l ≠ [] ∧ (s.bringTo (s.clock + BitVec.ofNat 32 (sinceMs e.at_ s.keyNow))).tenthsDue = 0) ∧
    (∃ (e : KeyEntry) (l : List KeyEntry) (tn : Turn) (r : Burst) (s : State),
      s.rst = false ∧ s.ktl.timeline = e :: l ∧ s.turn = some tn ∧ tn.holder ≠ 0 ∧ tn.sub ≠ .paused ∧ s.settled ∧ e.dir = .up ∧ l = [] ∧ tn.emission = .cw ∧ s.ktl.burst = some r ∧ (s.bringTo (s.clock + BitVec.ofNat 32 (sinceMs e.at_ s.keyNow))).tenthsDue = 0) ∧
    (∃ (tm : Timer) (s : State),
      s.rst = false ∧ s.ktl.burstGap = some tm ∧ (s.bringTo tm.due).tenthsDue = 0) ∧
    (∃ (tm : Timer) (tn : Turn) (s : State),
      s.rst = false ∧ s.ktl.stuck = some tm ∧ s.turn = some tn ∧ s.stationFollows ∧ s.settled ∧ (s.bringTo tm.due).tenthsDue = 0) ∧
    (∃ (i : InputId) (y : Input) (n : Clock) (tn : Turn) (s : State),
      s.rst = false ∧ s.inr.inputs.read i = y ∧ y.since = some n ∧ y.function = .localKey ∧ y.trigger = .level ∧ s.functionActive .localKey = false ∧ ({ y with debounced := y.raw }).active = true ∧ s.turn = some tn ∧ tn.holder = 0 ∧ tn.emission = .cw ∧ s.ktl.suppression = false ∧ tn.sub = .active ∧ s.prt.station = .ready ∧ s.seq.state = .quiet ∧ s.seq.active.relayOn ≠ 0 ∧ s.settled) ∧
    (∃ (i : InputId) (y : Input) (n : Clock) (tn : Turn) (s : State),
      s.rst = false ∧ s.inr.inputs.read i = y ∧ y.since = some n ∧ y.function = .localKey ∧ y.trigger = .level ∧ s.functionActive .localKey = false ∧ ({ y with debounced := y.raw }).active = true ∧ s.turn = some tn ∧ tn.holder = 0 ∧ tn.emission = .cw ∧ s.ktl.suppression = false ∧ s.prt.station ≠ .ready ∧ s.settled ∧ (s.bringTo (n + BitVec.ofNat 32 y.debounce)).tenthsDue = 0) ∧
    (∃ (i : InputId) (y : Input) (n : Clock) (tn : Turn) (s : State),
      s.rst = false ∧ s.inr.inputs.read i = y ∧ y.since = some n ∧ y.function = .localKey ∧ y.trigger = .level ∧ s.functionActive .localKey = false ∧ ({ y with debounced := y.raw }).active = true ∧ s.turn = some tn ∧ tn.holder = 0 ∧ tn.emission = .cw ∧ s.ktl.suppression = false ∧ tn.sub ≠ .active ∧ s.prt.station = .ready ∧ s.memberTx = false ∧ s.settled ∧ (s.bringTo (n + BitVec.ofNat 32 y.debounce)).tenthsDue = 0) ∧
    (∃ (i : InputId) (y : Input) (n : Clock) (tn : Turn) (s : State),
      s.rst = false ∧ s.inr.inputs.read i = y ∧ y.since = some n ∧ y.function = .localKey ∧ y.trigger = .level ∧ s.functionActive .localKey = true ∧ ({ y with debounced := y.raw }).active = false ∧ (∀ j, j ≠ i → (s.inr.inputs.read j).function = .localKey → (s.inr.inputs.read j).active = false) ∧ s.turn = some tn ∧ tn.holder = 0 ∧ tn.emission = .cw ∧ s.ktl.suppression = false ∧ s.ktl.state = .up ∧ s.ktl.timeline = [] ∧ s.settled ∧ (s.bringTo (n + BitVec.ofNat 32 y.debounce)).tenthsDue = 0) ∧
    (∃ (i : InputId) (y : Input) (n : Clock) (tn : Turn) (s : State),
      s.rst = false ∧ s.inr.inputs.read i = y ∧ y.since = some n ∧ y.function = .localKey ∧ y.trigger = .level ∧ s.functionActive .localKey = true ∧ ({ y with debounced := y.raw }).active = false ∧ (∀ j, j ≠ i → (s.inr.inputs.read j).function = .localKey → (s.inr.inputs.read j).active = false) ∧ s.turn = some tn ∧ tn.holder = 0 ∧ tn.emission = .cw ∧ s.ktl.suppression = false ∧ tn.sub ≠ .paused ∧ (s.ktl.state = .down ∨ s.ktl.timeline ≠ []) ∧ s.settled ∧ (s.bringTo (n + BitVec.ofNat 32 y.debounce)).tenthsDue = 0) ∧
    (∃ (i : InputId) (y : Input) (n : Clock) (s : State),
      s.rst = false ∧ s.inr.inputs.read i = y ∧ y.since = some n ∧ y.function = .localKey ∧ y.trigger = .level ∧ s.functionActive .localKey = true ∧ ({ y with debounced := y.raw }).active = false ∧ (∀ j, j ≠ i → (s.inr.inputs.read j).function = .localKey → (s.inr.inputs.read j).active = false) ∧ s.ktl.suppression = true ∧ s.settled ∧ (s.bringTo (n + BitVec.ofNat 32 y.debounce)).tenthsDue = 0) ∧
    (∃ (i : InputId) (y : Input) (n : Clock) (s : State),
      s.rst = false ∧ s.inr.inputs.read i = y ∧ y.since = some n ∧ y.function = .localKey ∧ y.trigger = .level ∧ s.functionActive .localKey = false ∧ ({ y with debounced := y.raw }).active = true ∧ (s.ktl.suppression = true ∨ ∀ z ∈ s.turn, z.holder = 0 → z.emission ≠ .cw) ∧ s.settled ∧ (s.bringTo (n + BitVec.ofNat 32 y.debounce)).tenthsDue = 0) :=
  ⟨⟨(⟨.down, 120, 0⟩), [], cwTurnOn, (aired 1 ({ cwOnAir with ktl := { cwOnAir.ktl with timeline := [⟨.down, 120, 0⟩] } })), by decide +kernel⟩,
    ⟨(⟨.up, 120, 0⟩), ([⟨.down, 130, 10⟩]), cwTurnOn, (aired 1 ({ cwOnAir with ktl := { cwOnAir.ktl with state := .down, timeline := [⟨.up, 120, 0⟩, ⟨.down, 130, 10⟩] } })), by decide +kernel⟩,
    ⟨(⟨.up, 120, 0⟩), [], cwTurnOn, (⟨120, 120⟩), (aired 1 ({ cwOnAir with ktl := { cwOnAir.ktl with state := .down, burst := some ⟨120, 120⟩, timeline := [⟨.up, 120, 0⟩] } })), by decide +kernel⟩,
    ⟨(⟨0, 3000⟩), ({ cwTurn with ktl := { cwTurn.ktl with burst := some ⟨120, 120⟩, burstGap := some ⟨0, 3000⟩ } }), by decide +kernel⟩,
    ⟨(⟨0, 8000⟩), cwTurnOn, (aired 80 ({ cwOnAir with ktl := { cwOnAir.ktl with state := .down, stuck := some ⟨0, 8000⟩ } })), by decide +kernel⟩,
    ⟨1, (⟨.localKey, .level, .activeHigh, 10, true, false, some 0⟩), 0, ({ cwTurn3 with holder := 0 }), (localKey true (localTurn0 { cwTurn3 with holder := 0 } ready)), by decide +kernel⟩,
    ⟨1, (⟨.localKey, .level, .activeHigh, 10, true, false, some 0⟩), 0, ({ cwTurn3 with holder := 0 }), (localKey true (localTurn0 { cwTurn3 with holder := 0 } { ready with prt := { ready.prt with station := .held } })), by decide +kernel⟩,
    ⟨1, (⟨.localKey, .level, .activeHigh, 10, true, false, some 0⟩), 0, ({ cwTurn3 with holder := 0, sub := .tuning, idleStart := none }), (localKey true (localTurn0 { cwTurn3 with holder := 0, sub := .tuning, idleStart := none } tuningTurn)), by decide +kernel⟩,
    ⟨1, (⟨.localKey, .level, .activeHigh, 10, false, true, some 0⟩), 0, ({ cwTurn3 with holder := 0 }), (localKey false (localTurn0 { cwTurn3 with holder := 0 } ready)), by decide +kernel⟩,
    ⟨1, (⟨.localKey, .level, .activeHigh, 10, false, true, some 0⟩), 0, ({ cwTurn3 with holder := 0 }), (localKey false (localTurn0 { cwTurn3 with holder := 0 } { ready with ktl := { ready.ktl with state := .down } })), by decide +kernel⟩,
    ⟨1, (⟨.localKey, .level, .activeHigh, 10, false, true, some 0⟩), 0, (localKey false (localTurn0 { cwTurn3 with holder := 0 } { ready with ktl := { ready.ktl with suppression := true } })), by decide +kernel⟩,
    ⟨1, (⟨.localKey, .level, .activeHigh, 10, true, false, some 0⟩), 0, (localKey true (ready)), by decide +kernel⟩⟩

theorem witness_ScansFoldBackAndTrip :
    (∃ (f : Code) (r : Code) (pa : Code) (pt : Code) (vs : Code) (s : State),
      s.rst = false ∧ s.seq.state ≠ .exciting ∧ s.settled ∧ pa.val ≤ s.msr.limits.current ∧ pt.val ≤ s.msr.limits.temperature ∧ (s.msr.limits.supplyLow ≤ vs.val ∧ vs.val ≤ s.msr.limits.supplyHigh) ∧ s.msr.overtemp = false ∧ s.msr.supply = false ∧ (∀ r ∈ s.prt.faults, r.kind ≠ .paOvercurrent)) ∧
    (∃ (f : Code) (r : Code) (pa : Code) (pt : Code) (vs : Code) (x : Tx) (tn : Turn) (b : BandId) (s : State),
      s.rst = false ∧ s.memberExciting = true ∧ s.seq.tx = some x ∧ x.kind = .member tn.holder ∧ s.turn = some tn ∧ s.seq.currentBand = some b ∧ s.msr.limits.floor ≤ f.val ∧ 0 < f.val ∧ 1000 * r.val / f.val < s.msr.limits.rTrip ∧ s.settled ∧ pa.val ≤ s.msr.limits.current ∧ pt.val ≤ s.msr.limits.temperature ∧ (s.msr.limits.supplyLow ≤ vs.val ∧ vs.val ≤ s.msr.limits.supplyHigh) ∧ s.msr.overtemp = false ∧ s.msr.supply = false ∧ (∀ r ∈ s.prt.faults, r.kind ≠ .paOvercurrent) ∧ (s.bringTo s.scanStart).tenthsDue = 0) ∧
    (∃ (f : Code) (r : Code) (pa : Code) (pt : Code) (vs : Code) (x : Tx) (tn : Turn) (s : State),
      s.rst = false ∧ s.memberExciting = true ∧ s.seq.tx = some x ∧ x.kind = .member tn.holder ∧ s.turn = some tn ∧ s.tenancy tn.holder = .holding ∧ s.msr.limits.floor ≤ f.val ∧ 0 < f.val ∧ s.msr.limits.rTrip ≤ 1000 * r.val / f.val ∧ s.prt.station = .ready ∧ s.stationFollows ∧ s.settled ∧ pa.val ≤ s.msr.limits.current ∧ pt.val ≤ s.msr.limits.temperature ∧ (s.msr.limits.supplyLow ≤ vs.val ∧ vs.val ≤ s.msr.limits.supplyHigh) ∧ s.msr.overtemp = false ∧ s.msr.supply = false ∧ (∀ r ∈ s.prt.faults, r.kind ≠ .paOvercurrent) ∧ (s.bringTo s.scanStart).tenthsDue = 0) ∧
    (∃ (f : Code) (r : Code) (pa : Code) (pt : Code) (vs : Code) (s : State),
      s.rst = false ∧ s.seq.state ≠ .exciting ∧ s.msr.overtemp = false ∧ s.msr.limits.temperature < pt.val ∧ s.msr.overtempCount + 1 < s.msr.limits.scans ∧ s.settled ∧ pa.val ≤ s.msr.limits.current ∧ (s.msr.limits.supplyLow ≤ vs.val ∧ vs.val ≤ s.msr.limits.supplyHigh) ∧ s.msr.supply = false ∧ (∀ r ∈ s.prt.faults, r.kind ≠ .paOvercurrent)) ∧
    (∃ (f : Code) (r : Code) (pa : Code) (pt : Code) (vs : Code) (s : State),
      s.rst = false ∧ s.seq.state ≠ .exciting ∧ s.msr.overtemp = false ∧ s.msr.limits.temperature < pt.val ∧ s.msr.limits.scans ≤ s.msr.overtempCount + 1 ∧ s.prt.station = .ready ∧ s.stationFollows ∧ s.settled ∧ pa.val ≤ s.msr.limits.current ∧ (s.msr.limits.supplyLow ≤ vs.val ∧ vs.val ≤ s.msr.limits.supplyHigh) ∧ s.msr.supply = false ∧ (∀ r ∈ s.prt.faults, r.kind ≠ .paOvercurrent)) ∧
    (∃ (f : Code) (r : Code) (pa : Code) (pt : Code) (vs : Code) (s : State),
      s.rst = false ∧ s.seq.state ≠ .exciting ∧ s.msr.supply = false ∧ (vs.val < s.msr.limits.supplyLow ∨ s.msr.limits.supplyHigh < vs.val) ∧ s.msr.limits.scans ≤ s.msr.supplyCount + 1 ∧ s.prt.station = .ready ∧ s.stationFollows ∧ s.settled ∧ pa.val ≤ s.msr.limits.current ∧ pt.val ≤ s.msr.limits.temperature ∧ s.msr.overtemp = false ∧ (∀ r ∈ s.prt.faults, r.kind ≠ .paOvercurrent)) ∧
    (∃ (f : Code) (r : Code) (pa : Code) (pt : Code) (vs : Code) (s : State),
      s.rst = false ∧ s.seq.state ≠ .exciting ∧ s.msr.supply = false ∧ (vs.val < s.msr.limits.supplyLow ∨ s.msr.limits.supplyHigh < vs.val) ∧ s.msr.supplyCount + 1 < s.msr.limits.scans ∧ s.settled ∧ pa.val ≤ s.msr.limits.current ∧ pt.val ≤ s.msr.limits.temperature ∧ s.msr.overtemp = false ∧ (∀ r ∈ s.prt.faults, r.kind ≠ .paOvercurrent)) ∧
    (∃ (f : Code) (r : Code) (pa : Code) (pt : Code) (vs : Code) (x : Tx) (s : State),
      s.rst = false ∧ s.seq.state = .exciting ∧ s.seq.tx = some x ∧ s.msr.limits.current < pa.val ∧ (f.val < s.msr.limits.floor ∨ (0 < f.val ∧ 1000 * r.val / f.val < s.msr.limits.rTrip)) ∧ s.msr.overcurrentCount + 1 < s.msr.limits.scans ∧ s.settled ∧ pt.val ≤ s.msr.limits.temperature ∧ (s.msr.limits.supplyLow ≤ vs.val ∧ vs.val ≤ s.msr.limits.supplyHigh) ∧ s.msr.overtemp = false ∧ s.msr.supply = false ∧ (∀ r ∈ s.prt.faults, r.kind ≠ .paOvercurrent) ∧ (s.bringTo s.scanStart).tenthsDue = 0) ∧
    (∃ (f : Code) (r : Code) (pa : Code) (pt : Code) (vs : Code) (x : Tx) (tn : Turn) (s : State),
      s.rst = false ∧ s.memberExciting = true ∧ s.seq.tx = some x ∧ x.kind = .member tn.holder ∧ s.turn = some tn ∧ s.tenancy tn.holder = .holding ∧ s.msr.limits.current < pa.val ∧ (f.val < s.msr.limits.floor ∨ (0 < f.val ∧ 1000 * r.val / f.val < s.msr.limits.rTrip)) ∧ s.msr.limits.scans ≤ s.msr.overcurrentCount + 1 ∧ s.prt.station = .ready ∧ s.stationFollows ∧ s.settled ∧ pt.val ≤ s.msr.limits.temperature ∧ (s.msr.limits.supplyLow ≤ vs.val ∧ vs.val ≤ s.msr.limits.supplyHigh) ∧ s.msr.overtemp = false ∧ s.msr.supply = false ∧ (∀ r ∈ s.prt.faults, r.kind ≠ .paOvercurrent) ∧ (s.bringTo s.scanStart).tenthsDue = 0) ∧
    (∃ (f : Code) (r : Code) (pa : Code) (pt : Code) (vs : Code) (s : State),
      s.rst = false ∧ s.seq.state ≠ .exciting ∧ s.msr.overtemp = true ∧ (s.msr.limits.temperature - s.msr.limits.hysteresis < pt.val ∨ s.msr.overtempCount + 1 < s.msr.limits.scans) ∧ s.settled ∧ pa.val ≤ s.msr.limits.current ∧ (s.msr.limits.supplyLow ≤ vs.val ∧ vs.val ≤ s.msr.limits.supplyHigh) ∧ s.msr.supply = false ∧ (∀ r ∈ s.prt.faults, r.kind ≠ .paOvercurrent)) ∧
    (∃ (f : Code) (r : Code) (pa : Code) (pt : Code) (vs : Code) (s : State),
      s.rst = false ∧ s.seq.state ≠ .exciting ∧ s.msr.overtemp = true ∧ pt.val ≤ s.msr.limits.temperature - s.msr.limits.hysteresis ∧ s.msr.limits.scans ≤ s.msr.overtempCount + 1 ∧ s.prt.station = .held ∧ s.stationFollows ∧ s.settled ∧ pa.val ≤ s.msr.limits.current ∧ (s.msr.limits.supplyLow ≤ vs.val ∧ vs.val ≤ s.msr.limits.supplyHigh) ∧ s.msr.supply = false ∧ (∀ r ∈ s.prt.faults, r.kind ≠ .paOvercurrent)) ∧
    (∃ (f : Code) (r : Code) (pa : Code) (pt : Code) (vs : Code) (s : State),
      s.rst = false ∧ s.seq.state ≠ .exciting ∧ s.msr.supply = true ∧ (vs.val < s.msr.limits.supplyLow ∨ s.msr.limits.supplyHigh < vs.val ∨ s.msr.supplyCount + 1 < s.msr.limits.scans) ∧ s.settled ∧ pa.val ≤ s.msr.limits.current ∧ pt.val ≤ s.msr.limits.temperature ∧ s.msr.overtemp = false ∧ (∀ r ∈ s.prt.faults, r.kind ≠ .paOvercurrent)) ∧
    (∃ (f : Code) (r : Code) (pa : Code) (pt : Code) (vs : Code) (s : State),
      s.rst = false ∧ s.seq.state ≠ .exciting ∧ s.msr.supply = true ∧ (s.msr.limits.supplyLow ≤ vs.val ∧ vs.val ≤ s.msr.limits.supplyHigh) ∧ s.msr.limits.scans ≤ s.msr.supplyCount + 1 ∧ s.prt.station = .held ∧ s.stationFollows ∧ s.settled ∧ pa.val ≤ s.msr.limits.current ∧ pt.val ≤ s.msr.limits.temperature ∧ s.msr.overtemp = false ∧ (∀ r ∈ s.prt.faults, r.kind ≠ .paOvercurrent)) :=
  ⟨⟨1000, 100, 0, 0, 500, State.reset, by decide +kernel⟩,
    ⟨1000, 150, 0, 0, 500, tx3, turnOn, 3, onAir, by decide +kernel⟩,
    ⟨1000, 250, 0, 0, 500, tx3, turnOn, onAir, by decide +kernel⟩,
    ⟨1000, 100, 0, 1023, 500, ({ State.reset with msr := { State.reset.msr with limits := { State.reset.msr.limits with temperature := 1022 } } }), by decide +kernel⟩,
    ⟨1000, 100, 0, 1023, 500, ({ ready with msr := { ready.msr with overtempCount := 2, limits := { ready.msr.limits with temperature := 1022 } } }), by decide +kernel⟩,
    ⟨1000, 100, 0, 0, 49, ({ ready with msr := { ready.msr with supplyCount := 2, limits := { ready.msr.limits with supplyLow := 50 } } }), by decide +kernel⟩,
    ⟨1000, 100, 0, 0, 49, ({ State.reset with msr := { State.reset.msr with limits := { State.reset.msr.limits with supplyLow := 50 } } }), by decide +kernel⟩,
    ⟨0, 100, 901, 0, 500, tx3, (hotCurrent 0), by decide +kernel⟩,
    ⟨0, 100, 901, 0, 500, tx3, turnOn, (hotCurrent 2), by decide +kernel⟩,
    ⟨1000, 100, 0, 0, 500, ({ State.reset with msr := { State.reset.msr with overtemp := true } }), by decide +kernel⟩,
    ⟨1000, 100, 0, 0, 500, ({ heldStation with msr := { heldStation.msr with overtemp := true, overtempCount := 2 } }), by decide +kernel⟩,
    ⟨1000, 100, 0, 0, 500, ({ State.reset with msr := { State.reset.msr with supply := true } }), by decide +kernel⟩,
    ⟨1000, 100, 0, 0, 500, ({ heldStation with msr := { heldStation.msr with supply := true, supplyCount := 2 } }), by decide +kernel⟩⟩

theorem witness_TheStationIdentifies :
    (∃ (tm : Timer) (s : State),
      s.rst = false ∧ s.idu.interval = some tm ∧ s.idu.owed = true ∧ s.arb.arbiter = .free ∧ s.seq.currentBand = none ∧ s.marksStand ∧ s.settled ∧ (s.bringTo tm.due).tenthsDue = 0) ∧
    (∃ (tm : Timer) (s : State),
      s.rst = false ∧ s.idu.interval = some tm ∧ s.idu.owed = false ∧ s.settled ∧ (s.bringTo tm.due).tenthsDue = 0) ∧
    (∃ (tm : Timer) (tn : Turn) (b : BandId) (c : List Char) (s : State),
      s.rst = false ∧ s.idu.interval = some tm ∧ s.idu.owed = true ∧ s.turn = some tn ∧ tn.sub = .active ∧ s.running = false ∧ s.settled ∧ s.seq.state = .quiet ∧ s.prt.station = .ready ∧ s.idu.cycle = .idle ∧ s.seq.currentBand = some b ∧ s.seq.active.relayOn ≠ 0 ∧ s.idu.callsign = some c) ∧
    (∃ (tm : Timer) (b : BandId) (c : List Char) (s : State),
      s.rst = false ∧ s.idu.quiet = some tm ∧ (s.arb.arbiter = .free ∨ s.arb.arbiter = .gap) ∧ s.seq.state = .quiet ∧ s.prt.station = .ready ∧ s.idu.cycle = .idle ∧ s.seq.currentBand = some b ∧ s.seq.active.relayOn ≠ 0 ∧ s.idu.callsign = some c ∧ s.settled) ∧
    (∃ (s : State),
      s.rst = false ∧ s.idu.deadlineRuns = true ∧ s.running = false ∧ s.settled ∧ (s.bringTo s.idu.deadlineAt).tenthsDue = 0) ∧
    (∃ (tm : Timer) (y : Cycle) (e : Element) (g : Element) (l : List Element) (s : State),
      s.rst = false ∧ s.idu.element = some tm ∧ s.idu.context = some y ∧ y.todo = e :: g :: l ∧ s.settled ∧ (s.bringTo tm.due).tenthsDue = 0) ∧
    (∃ (tm : Timer) (y : Cycle) (e : Element) (x : Tx) (s : State),
      s.rst = false ∧ s.idu.element = some tm ∧ s.idu.context = some y ∧ y.todo = [e] ∧ s.seq.state = .exciting ∧ s.seq.tx = some x ∧ x.kind = .ident ∧ s.seq.active.tail ≠ 0 ∧ s.settled ∧ (s.bringTo tm.due).tenthsDue = 0) ∧
    (∃ (k : KillInput) (n : Clock) (y : Cycle) (s : State),
      s.rst = false ∧ s.inr.kill = k ∧ k.since = some n ∧ k.raw = true ∧ k.debounced = false ∧ s.prt.killLatch = false ∧ s.stationFollows ∧ s.arb.arbiter = .idTurn ∧ (s.idu.cycle = .starting ∨ s.idu.cycle = .sending) ∧ s.idu.context = some y ∧ y.home = .idTurn ∧ s.settled ∧ (s.bringTo (n + 5)).tenthsDue = 0) ∧
    (∃ (f : Code) (r : Code) (pa : Code) (pt : Code) (vs : Code) (y : Cycle) (tn : Turn) (s : State),
      s.rst = false ∧ s.seq.state ≠ .exciting ∧ s.msr.overtemp = false ∧ s.msr.limits.temperature < pt.val ∧ s.msr.limits.scans ≤ s.msr.overtempCount + 1 ∧ s.prt.station = .ready ∧ s.stationFollows ∧ s.turn = some tn ∧ tn.sub = .paused ∧ s.idu.claim = .holdingPause ∧ s.seq.queuedRetune = none ∧ (s.idu.cycle = .starting ∨ s.idu.cycle = .sending) ∧ s.idu.context = some y ∧ y.home = .memberTurn ∧ s.settled ∧ pa.val ≤ s.msr.limits.current ∧ (s.msr.limits.supplyLow ≤ vs.val ∧ vs.val ≤ s.msr.limits.supplyHigh) ∧ s.msr.supply = false ∧ (∀ r ∈ s.prt.faults, r.kind ≠ .paOvercurrent)) ∧
    (∃ (i : InputId) (y : Input) (n : Clock) (x : Tx) (z : Cycle) (s : State),
      s.rst = false ∧ s.inr.inputs.read i = y ∧ y.since = some n ∧ y.function = .ampReady ∧ y.trigger = .level ∧ s.functionActive .ampReady = true ∧ ({ y with debounced := y.raw }).active = false ∧ (∀ j, j ≠ i → (s.inr.inputs.read j).function = .ampReady → (s.inr.inputs.read j).active = false) ∧ s.amg.state = .on ∧ s.stationFollows ∧ s.seq.tx = some x ∧ x.kind = .ident ∧ x.path = .amplified ∧ s.seq.state = .exciting ∧ s.seq.ampkey = true ∧ s.seq.active.ampOff ≠ 0 ∧ s.idu.cycle = .sending ∧ s.idu.context = some z ∧ s.settled ∧ (s.bringTo (n + BitVec.ofNat 32 y.debounce)).tenthsDue = 0) :=
  ⟨⟨(⟨0, 60000⟩), ({ State.reset with idu := { State.reset.idu with owed := true, interval := some ⟨0, 60000⟩ } }), by decide +kernel⟩,
    ⟨(⟨0, 60000⟩), ({ State.reset with idu := { State.reset.idu with interval := some ⟨0, 60000⟩ } }), by decide +kernel⟩,
    ⟨(⟨0, 60000⟩), turn3, 3, (['G', '4']), ({ quietTurn with idu := { quietTurn.idu with owed := true, interval := some ⟨0, 60000⟩ } }), by decide +kernel⟩,
    ⟨(⟨0, 60000⟩), 3, (['G', '4']), ({ ready with idu := { ready.idu with owed := true, quiet := some ⟨0, 60000⟩ } }), by decide +kernel⟩,
    ⟨({ State.reset with idu := { State.reset.idu with deadlineRuns := true, deadlineAt := 30000 } }), by decide +kernel⟩,
    ⟨(⟨0, 60⟩), ({ cycle3 with todo := [⟨true, 1, 0⟩, ⟨false, 1, 0⟩] }), (⟨true, 1, 0⟩), (⟨false, 1, 0⟩), [], (sending [⟨true, 1, 0⟩, ⟨false, 1, 0⟩]), by decide +kernel⟩,
    ⟨(⟨0, 60⟩), ({ cycle3 with todo := [⟨true, 3, 1⟩] }), (⟨true, 3, 1⟩), idTx3, (sending [⟨true, 3, 1⟩]), by decide +kernel⟩,
    ⟨(⟨true, false, some 0⟩), 0, ({ cycle3 with todo := [⟨true, 3, 1⟩] }), ({ sending [⟨true, 3, 1⟩] with inr := { ready.inr with kill := ⟨true, false, some 0⟩ } }), by decide +kernel⟩,
    ⟨1000, 100, 0, 1023, 500, ({ cycle3 with home := .memberTurn, entered := false }), ({ turn3 with sub := .paused, idleStart := none }), ({ pausedTurn with msr := { pausedTurn.msr with overtempCount := 2, limits := { pausedTurn.msr.limits with temperature := 1022 } } }), by decide +kernel⟩,
    ⟨0, (⟨.ampReady, .level, .activeHigh, 10, false, true, some 0⟩), 0, ({ idTx3 with path := .amplified }), ({ cycle3 with todo := [⟨true, 3, 1⟩] }), (readyContact .on false ampSending), by decide +kernel⟩⟩

theorem witness_TimeIsCounted :
    (∃ (s : State),
      s.rst = false ∧ (s.clock - s.secondAt).toNat < 1000 ∧ (s.bringTo (s.secondAt + 1000)).tenthsDue = 0) ∧
    (∃ (x : Tx) (w : SlotId) (tn : Turn) (k : Nat) (s : State),
      s.rst = false ∧ s.memberExciting = true ∧ s.seq.tx = some x ∧ s.turn = some tn ∧ tn.holder = w ∧ 0 < k ∧ (s.bringTo (x.excitedAt + BitVec.ofNat 32 (100 * (x.airTime + 1)))).tenthsDue = k ∧ (∀ a ∈ (s.identity w).allowance, s.acu.used.read w + k < 10 * a) ∧ s.settled) ∧
    (∃ (x : Tx) (w : SlotId) (tn : Turn) (k : Nat) (a : Nat) (s : State),
      s.rst = false ∧ s.memberExciting = true ∧ s.seq.tx = some x ∧ s.turn = some tn ∧ tn.holder = w ∧ s.oneHolder ∧ 0 < k ∧ (s.bringTo (x.excitedAt + BitVec.ofNat 32 (100 * (x.airTime + 1)))).tenthsDue = k ∧ (s.identity w).allowance = some a ∧ a ≤ 86400 ∧ s.acu.used.read w < 10 * a ∧ 10 * a ≤ s.acu.used.read w + k ∧ s.seq.active.tail ≠ 0 ∧ s.settled) ∧
    (∃ (x : Tx) (k : Nat) (s : State),
      s.rst = false ∧ s.seq.state = .exciting ∧ s.seq.tx = some x ∧ s.memberTx = false ∧ 0 < k ∧ (s.bringTo (x.excitedAt + BitVec.ofNat 32 (100 * (x.airTime + 1)))).tenthsDue = k ∧ s.settled) ∧
    (∃ (q : Residency) (s : State),
      s.rst = false ∧ s.resides q = true ∧ (s.acu.counters.read (resIndex q)).owed = 0 ∧ (s.acu.counters.read (resIndex q)).value + 1 < 4294967295 ∧ (s.acu.counters.read (resIndex q)).remainder < 100 ∧ (s.elapse (100 - (s.acu.counters.read (resIndex q)).remainder)).tenthsDue = 0) ∧
    (∃ (q : Residency) (k : Counter) (s : State),
      s.rst = false ∧ s.tenthsDue = 0 ∧ s.acu.counters.read (resIndex q) = k ∧ 0 < k.owed ∧ k.value + 1 < 4294967295) ∧
    (∃ (c : Instr) (q : Asked) (d : Clock) (s : State),
      asked c = some q ∧ s.closed = false ∧ s.tenthDue = some d ∧ reached s.clock d = true ∧ s.tenthsDue ≠ 0 ∧ (s.onTime).tenthsDue = 0) ∧
    (∃ (c : LevelChange) (d : Clock) (s : State),
      s.rst = false ∧ s.tenthDue = some d ∧ reached s.clock d = true ∧ s.tenthsDue ≠ 0 ∧ (s.onTime).tenthsDue = 0) ∧
    (∃ (q : Residency) (d : Clock) (s : State),
      s.rst = false ∧ 0 < (s.acu.counters.read (resIndex q)).owed ∧ s.tenthDue = some d ∧ reached s.clock d = true ∧ s.tenthsDue ≠ 0 ∧ (s.onTime).tenthsDue = 0) ∧
    (∃ (f : Code) (r : Code) (pa : Code) (pt : Code) (vs : Code) (d : Clock) (s : State),
      s.rst = false ∧ (s.bringTo s.scanStart).tenthDue = some d ∧ reached (s.bringTo s.scanStart).clock d = true ∧ (s.bringTo s.scanStart).tenthsDue ≠ 0 ∧ ((s.bringTo s.scanStart).onTime).tenthsDue = 0) ∧
    (∃ (tm : Timer) (d : Clock) (s : State),
      s.rst = false ∧ s.limitTimer = some tm ∧ (s.bringTo tm.due).tenthDue = some d ∧ reached (s.bringTo tm.due).clock d = true ∧ (s.bringTo tm.due).tenthsDue ≠ 0 ∧ ((s.bringTo tm.due).onTime).tenthsDue = 0) :=
  ⟨⟨State.reset, by decide +kernel⟩,
    ⟨tx3, 5, turnOn, 1, onAir, by decide +kernel⟩,
    ⟨tx3, 5, turnOn, 1, 1, lastTenth, by decide +kernel⟩,
    ⟨idTx3, 1, (sending [⟨true, 3, 1⟩]), by decide +kernel⟩,
    ⟨.ampOn, ({ State.reset with amg := { State.reset.amg with state := .on } }), by decide +kernel⟩,
    ⟨.ampOn, (⟨0, 5, 1⟩), ({ State.reset with acu := { State.reset.acu with counters := Table.build fun _ => ⟨0, 5, 1⟩ } }), by decide +kernel⟩,
    ⟨(.pttOff 1 5), (⟨0x25, 1, 5, .ownSlot⟩), 100, overdue, by decide +kernel⟩,
    ⟨(.wired 1 true), 100, overdue, by decide +kernel⟩,
    ⟨.exciting, 100, ({ overdue with acu := { overdue.acu with counters := Table.build fun _ => ⟨0, 5, 1⟩ } }), by decide +kernel⟩,
    ⟨1000, 100, 0, 0, 500, 100, overdue, by decide +kernel⟩,
    ⟨(⟨0, 180000⟩), 100, overdue, by decide +kernel⟩⟩

theorem witness_InputsAreDebounced :
    (∃ (i : InputId) (y : Input) (s : State),
      s.rst = false ∧ s.inr.inputs.read i = y ∧ y.since = none ∧ y.debounce ≠ 0 ∧ s.tenthsDue = 0 ∧ s.settled) ∧
    (∃ (i : InputId) (y : Input) (s : State),
      s.rst = false ∧ s.inr.inputs.read i = y ∧ s.tenthsDue = 0 ∧ s.settled) ∧
    (∃ (i : InputId) (y : Input) (n : Clock) (s : State),
      s.rst = false ∧ s.inr.inputs.read i = y ∧ y.since = some n ∧ y.function = .none ∧ s.settled ∧ (s.bringTo (n + BitVec.ofNat 32 y.debounce)).tenthsDue = 0) ∧
    (∃ (i : InputId) (y : Input) (n : Clock) (s : State),
      s.rst = false ∧ s.inr.inputs.read i = y ∧ y.since = some n ∧ y.function = .extFault ∧ y.trigger = .level ∧ y.raw = true ∧ y.debounced = false ∧ y.polarity = .activeHigh ∧ s.functionActive .extFault = false ∧ s.prt.station = .ready ∧ s.stationFollows ∧ s.oneHolder ∧ (s.bringTo (n + BitVec.ofNat 32 y.debounce)).tenthsDue = 0) ∧
    (∃ (i : InputId) (y : Input) (n : Clock) (f : InputFunction) (o : Origin) (s : State),
      s.rst = false ∧ s.inr.inputs.read i = y ∧ y.since = some n ∧ y.trigger = .level ∧ (f = .localPtt ∧ o = .localPtt ∨ f = .localRequest ∧ o = .localRequestLevel) ∧ y.function = f ∧ s.functionActive f = false ∧ ({ y with debounced := y.raw }).active = true ∧ s.tenancy 0 = .opened ∧ s.oneHolder ∧ s.arb.arbiter ≠ .free ∧ s.permit 0 s.arb.defaultBand s.arb.defaultEmission = true ∧ s.exhausted 0 = false ∧ s.settled ∧ (s.bringTo (n + BitVec.ofNat 32 y.debounce)).tenthsDue = 0) ∧
    (∃ (i : InputId) (y : Input) (n : Clock) (f : InputFunction) (o : Origin) (s : State),
      s.rst = false ∧ s.inr.inputs.read i = y ∧ y.since = some n ∧ y.trigger = .level ∧ (f = .localPtt ∧ o = .localPtt ∨ f = .localRequest ∧ o = .localRequestLevel) ∧ y.function = f ∧ s.functionActive f = false ∧ ({ y with debounced := y.raw }).active = true ∧ s.tenancy 0 = .opened ∧ s.oneHolder ∧ s.permit 0 s.arb.defaultBand s.arb.defaultEmission = false ∧ s.settled ∧ (s.bringTo (n + BitVec.ofNat 32 y.debounce)).tenthsDue = 0) ∧
    (∃ (i : InputId) (y : Input) (n : Clock) (f : InputFunction) (o : Origin) (r : RequestRec) (s : State),
      s.rst = false ∧ s.inr.inputs.read i = y ∧ y.since = some n ∧ y.trigger = .level ∧ (f = .localPtt ∧ o = .localPtt ∨ f = .localRequest ∧ o = .localRequestLevel) ∧ y.function = f ∧ s.functionActive f = true ∧ ({ y with debounced := y.raw }).active = false ∧ (∀ j, j ≠ i → (s.inr.inputs.read j).function = f → (s.inr.inputs.read j).active = false) ∧ s.tenancy 0 = .waiting r ∧ r.origin = o ∧ s.oneHolder ∧ s.settled ∧ (s.bringTo (n + BitVec.ofNat 32 y.debounce)).tenthsDue = 0) ∧
    (∃ (i : InputId) (y : Input) (n : Clock) (f : InputFunction) (s : State),
      s.rst = false ∧ s.inr.inputs.read i = y ∧ y.since = some n ∧ y.trigger = .level ∧ f = .extFault ∧ y.function = f ∧ s.functionActive f = true ∧ ({ y with debounced := y.raw }).active = false ∧ (∀ j, j ≠ i → (s.inr.inputs.read j).function = f → (s.inr.inputs.read j).active = false) ∧ s.settled ∧ (s.bringTo (n + BitVec.ofNat 32 y.debounce)).tenthsDue = 0) ∧
    (∃ (k : KillInput) (s : State),
      s.rst = false ∧ s.inr.kill = k ∧ k.since = none ∧ s.tenthsDue = 0 ∧ s.settled) ∧
    (∃ (k : KillInput) (n : Clock) (s : State),
      s.rst = false ∧ s.inr.kill = k ∧ k.since = some n ∧ k.raw = true ∧ k.debounced = false ∧ s.prt.killLatch = false ∧ s.stationFollows ∧ s.oneHolder ∧ s.idu.due = false ∧ (s.bringTo (n + 5)).tenthsDue = 0) ∧
    (∃ (k : KillInput) (n : Clock) (s : State),
      s.rst = false ∧ s.inr.kill = k ∧ k.since = some n ∧ k.raw = false ∧ s.settled ∧ (s.bringTo (n + 5)).tenthsDue = 0) :=
  ⟨⟨3, (⟨.none, .level, .activeHigh, 10, false, false, none⟩), State.reset, by decide +kernel⟩,
    ⟨3, (⟨.none, .level, .activeHigh, 10, true, false, some 0⟩), (differing .none), by decide +kernel⟩,
    ⟨3, (⟨.none, .level, .activeHigh, 10, true, false, some 0⟩), 0, (differing .none), by decide +kernel⟩,
    ⟨3, (⟨.extFault, .level, .activeHigh, 10, true, false, some 0⟩), 0, (differing .extFault), by decide +kernel⟩,
    ⟨3, (⟨.localRequest, .level, .activeHigh, 10, true, false, some 0⟩), 0, .localRequest, .localRequestLevel, (differing .localRequest), by decide +kernel⟩,
    ⟨3, (⟨.localPtt, .level, .activeHigh, 10, true, false, some 0⟩), 0, .localPtt, .localPtt, ({ differing .localPtt with arb := { ready.arb with defaultBand := 0 } }), by decide +kernel⟩,
    ⟨3, (⟨.localPtt, .level, .activeHigh, 10, false, true, some 0⟩), 0, .localPtt, .localPtt, ({ request3 with origin := .localPtt }), localWaiting, by decide +kernel⟩,
    ⟨3, (⟨.extFault, .level, .activeHigh, 10, false, true, some 0⟩), 0, .extFault, ({ ready with inr := { ready.inr with inputs := ready.inr.inputs.write 3 ⟨.extFault, .level, .activeHigh, 10, false, true, some 0⟩ } }), by decide +kernel⟩,
    ⟨(⟨false, false, none⟩), State.reset, by decide +kernel⟩,
    ⟨(⟨true, false, some 0⟩), 0, ({ onAir with inr := { onAir.inr with kill := ⟨true, false, some 0⟩ } }), by decide +kernel⟩,
    ⟨(⟨false, true, some 0⟩), 0, ({ State.reset with inr := { State.reset.inr with kill := ⟨false, true, some 0⟩ } }), by decide +kernel⟩⟩

theorem witness_DriveCodesInterpolate :
    (∃ (p : Table 8 Point) (n : Nat),
      (∀ k : Fin 8, 1 ≤ (p.read k).power ∧ (p.read k).code ≤ 255) ∧ (∀ k : Fin 7, (p.read k.castSucc).power < (p.read k.succ).power ∧ (p.read k.castSucc).code ≤ (p.read k.succ).code)) ∧
    (∃ (x : Tx) (n : Nat) (s : State),
      s.seq.tx = some x ∧ s.txTarget x = some n) :=
  ⟨⟨curve3, 50, by decide +kernel⟩,
    ⟨tx3, 50, onAir, by decide +kernel⟩⟩

end Sys2Proof.Tests
end

section
/-! What nothing that turns, transmissions and identifications do among themselves can change, and how LNK hears of it:
one lemma for each of their operations. -/

namespace Sys2Proof.Machine

set_option Elab.async false

/-! ### LNK only gains -/

/-- From `l` to `m` LNK only gained: flags were set, reports joined, and the report enables stayed (R188, R189). -/
structure Lnk.Grows (l m : Lnk) : Prop where
  flags : ∀ b : BitVec 16, l.flags &&& b ≠ 0 → m.flags &&& b ≠ 0
  enable : m.reportEnable = l.reportEnable
  reports : l.reports <+: m.reports

namespace Lnk.Grows

theorem refl (l : Lnk) : l.Grows l := ⟨fun _ h => h, rfl, List.prefix_rfl⟩

theorem trans {k l m : Lnk} (a : k.Grows l) (b : l.Grows m) : k.Grows m :=
  ⟨fun i h => b.flags i (a.flags i h), b.enable.trans a.enable, a.reports.trans b.reports⟩

end Lnk.Grows

@[simp] theorem Lnk.flags_raise (r : Report) (l : Lnk) : (l.raise r).flags = l.flags ||| kindBit r.index := by
  simp only [Lnk.raise, Lnk.offer]; split <;> (try split) <;> rfl

@[simp] theorem Lnk.reportEnable_raise (r : Report) (l : Lnk) : (l.raise r).reportEnable = l.reportEnable := by
  simp only [Lnk.raise, Lnk.offer]; split <;> (try split) <;> rfl

/-- The reports after a raise: the enabled report joins a queue with room, and nothing else joins. -/
theorem Lnk.reports_raise (r : Report) (l : Lnk) : (l.raise r).reports =
    if l.reportEnable &&& kindBit r.index ≠ 0 ∧ l.reports.length < Config.reportCapacity then l.reports ++ [r]
    else l.reports := by
  by_cases hb : l.reportEnable &&& kindBit r.index = 0
  · simp [Lnk.raise, hb]
  · simp only [Lnk.raise, Lnk.offer, ne_eq, hb, not_false_eq_true, if_true, true_and]
    split <;> rfl

theorem Lnk.length_reports_raise (r : Report) (l : Lnk) : (l.raise r).reports.length ≤ l.reports.length + 1 := by
  rw [Lnk.reports_raise]; split <;> simp

theorem and_or_ne_zero {a b : BitVec 16} (c : BitVec 16) (h : a &&& b ≠ 0) : (a ||| c) &&& b ≠ 0 := by
  intro e
  refine h (BitVec.eq_of_getLsbD_eq fun i hi => ?_)
  have hz := congrArg (·.getLsbD i) e
  simp only [BitVec.getLsbD_and, BitVec.getLsbD_or] at hz
  simp_all

theorem kindBit_ne_zero (r : Report) : kindBit r.index ≠ 0 := by unfold Report.index; split <;> decide

theorem Lnk.grows_raise (r : Report) (l : Lnk) : l.Grows (l.raise r) where
  flags b h := by rw [Lnk.flags_raise]; exact and_or_ne_zero _ h
  enable := Lnk.reportEnable_raise r l
  reports := by rw [Lnk.reports_raise]; split <;> simp

/-- A raise that nothing but gains surround is `raised`, when at most seven reports joined before it. -/
theorem State.raised_of_grows {h t : State} {l : Lnk} {r : Report} (before : h.lnk.Grows l)
    (room : l.reports.length ≤ h.lnk.reports.length + 7) (after : (l.raise r).Grows t.lnk) : h.raised t r := by
  have hflag : (l.raise r).flags &&& kindBit r.index ≠ 0 := by
    rw [Lnk.flags_raise, BitVec.or_comm]
    exact and_or_ne_zero _ (by simpa using kindBit_ne_zero r)
  refine ⟨after.flags _ hflag, fun hen hlen => ?_⟩
  have hjoin : (l.raise r).reports = l.reports ++ [r] := by
    rw [Lnk.reports_raise, if_pos ⟨by rwa [before.enable], by simp only [Config.reportCapacity]; omega⟩]
  obtain ⟨a, ha⟩ := before.reports
  obtain ⟨b, hb⟩ := after.reports
  rw [← hb, hjoin, ← ha]
  simp [List.append_assoc]

/-- Three occurrences raised one after the other are `raised`, whatever joins after them. -/
theorem State.raised_three {h t : State} {a b c : Report}
    (after : (((h.lnk.raise a).raise b).raise c).Grows t.lnk) : h.raised t a ∧ h.raised t b ∧ h.raised t c := by
  have ha := Lnk.grows_raise a h.lnk
  have hb := Lnk.grows_raise b (h.lnk.raise a)
  have hc := Lnk.grows_raise c ((h.lnk.raise a).raise b)
  have na := Lnk.length_reports_raise a h.lnk
  have nb := Lnk.length_reports_raise b (h.lnk.raise a)
  exact ⟨State.raised_of_grows (.refl _) (by omega) ((hb.trans hc).trans after),
    State.raised_of_grows ha (by omega) (hc.trans after),
    State.raised_of_grows (ha.trans hb) (by omega) after⟩

/-! ### What stays -/

/-- What the operations over turns, transmissions and identifications keep: all of `fixed`, the residency counters and
the instant of the next scan. -/
def State.kept (s : State) : Fixed × Table 6 Counter × Clock := (s.fixed, s.acu.counters, s.msr.nextScan)

/-- From `h` to `s` no more happened than what blocks ask of each other: `kept` is as it was and LNK only gained. -/
structure State.Evolves (h s : State) : Prop where
  kept : s.kept = h.kept
  link : h.lnk.Grows s.lnk

namespace State.Evolves

variable {h s t : State}

theorem refl (s : State) : s.Evolves s := ⟨rfl, .refl _⟩

theorem trans (a : h.Evolves s) (b : s.Evolves t) : h.Evolves t := ⟨b.kept.trans a.kept, a.link.trans b.link⟩

/-- A change that touches neither `kept` nor LNK. -/
theorem same (e : h.Evolves s) (hk : t.kept = s.kept := by rfl) (hl : t.lnk = s.lnk := by rfl) : h.Evolves t :=
  ⟨hk.trans e.kept, hl ▸ e.link⟩

theorem ite {c : Prop} [Decidable c] {a b : State} (ha : h.Evolves a) (hb : h.Evolves b) :
    h.Evolves (if c then a else b) := by split <;> assumption

theorem raise (e : h.Evolves s) (r : Report) : h.Evolves (s.raise r) where
  kept := by
    rw [← e.kept]
    simp only [State.raise, Lnk.raise, Lnk.offer]; split <;> (try split) <;> rfl
  link := e.link.trans (Lnk.grows_raise r s.lnk)

theorem modTurn (e : h.Evolves s) (f : Turn → Turn) : h.Evolves (s.modTurn f) := by
  unfold State.modTurn; split
  · exact e.same
  · exact e

theorem writeRecord (e : h.Evolves s) (r : TurnRec) : h.Evolves (s.writeRecord r) := .ite e e.same

/-! #### Amplifier and key -/

theorem ampTo (e : h.Evolves s) (a : AmpState) (c : AmpCause) : h.Evolves (s.ampTo a c) := by
  unfold State.ampTo; exact .raise e.same _

theorem warmAmp (e : h.Evolves s) (c : AmpCause) : h.Evolves (s.warmAmp c) :=
  .ite ((e.ampTo _ _).ampTo _ _) (e.ampTo _ _)

theorem startAmpIdle (e : h.Evolves s) : h.Evolves s.startAmpIdle := .ite e.same e

theorem ampAtGrant (e : h.Evolves s) (u : Nat) : h.Evolves (s.ampAtGrant u) := by
  unfold State.ampAtGrant; refine .ite ?_ e
  split
  · exact e.warmAmp _
  · exact .ite e.startAmpIdle e
  · exact e
  · exact e

theorem syncKey (e : h.Evolves s) : h.Evolves s.syncKey := e.same

theorem flushKeys (e : h.Evolves s) : h.Evolves s.flushKeys := e.same

theorem flushTurnKeys (e : h.Evolves s) : h.Evolves s.flushTurnKeys := e.same

/-! #### Starts and ends of transmissions -/

theorem startStep (e : h.Evolves s) (ms : Nat) : h.Evolves (s.startStep ms) := e.same

theorem modTx (e : h.Evolves s) (f : Tx → Tx) : h.Evolves (s.modTx f) := e.same

theorem enterArmRelay (e : h.Evolves s) : h.Evolves s.enterArmRelay := e.same

theorem takeStart (e : h.Evolves s) : h.Evolves s.takeStart := by
  unfold State.takeStart; split
  · exact e
  · exact (e.same.modTurn _).enterArmRelay

theorem takeIdStart (e : h.Evolves s) : h.Evolves s.takeIdStart := by
  unfold State.takeIdStart; split
  · exact e.same
  · exact e

theorem takePending (e : h.Evolves s) : h.Evolves s.takePending := by
  unfold State.takePending; split
  · exact .ite e.takeStart e
  · exact e

theorem clearPending (e : h.Evolves s) : h.Evolves s.clearPending := e.modTurn _

theorem startElement (e : h.Evolves s) : h.Evolves s.startElement := by
  unfold State.startElement; split
  · exact e.same
  · exact e

theorem beginSending (e : h.Evolves s) : h.Evolves s.beginSending := by
  unfold State.beginSending; split
  · exact e.same.startElement
  · exact e

theorem markOwed (e : h.Evolves s) : h.Evolves s.markOwed := e.same

theorem computeDrive (e : h.Evolves s) : h.Evolves s.computeDrive := by
  unfold State.computeDrive; split
  · exact e
  · split
    · exact e
    · exact e.same

theorem enterExciting (e : h.Evolves s) : h.Evolves s.enterExciting := by
  unfold State.enterExciting; split
  · exact e
  · dsimp only
    generalize hq : State.computeDrive _ = q
    have e : h.Evolves q := by rw [← hq]; exact State.Evolves.computeDrive e.same
    exact State.Evolves.syncKey (.ite (.raise (.ite (.same e.markOwed) e) _)
      (.beginSending (.raise (.ite (.same e.markOwed) e) _)))

theorem conditionGone (e : h.Evolves s) (k : FaultKind) : h.Evolves (s.conditionGone k) := e.same

theorem leaveExciting (e : h.Evolves s) (c : TxEndCause) (q : SeqState) : h.Evolves (s.leaveExciting c q) := by
  unfold State.leaveExciting; split
  · exact e
  · exact ((e.same.raise _).conditionGone _).syncKey

theorem enterDisarmAmp (e : h.Evolves s) : h.Evolves s.enterDisarmAmp := e.same

theorem enterDisarmRelay (e : h.Evolves s) : h.Evolves s.enterDisarmRelay := e.same

theorem disarm (e : h.Evolves s) : h.Evolves s.disarm := .ite e.enterDisarmAmp e.enterDisarmRelay

theorem normalEnd (e : h.Evolves s) (c : TxEndCause) : h.Evolves (s.normalEnd c) :=
  .ite ((e.leaveExciting _ _).startStep _) e

theorem clearPttFor (e : h.Evolves s) (c : TxEndCause) : h.Evolves (s.clearPttFor c) := e.same

theorem abandonArming (e : h.Evolves s) (c : TxEndCause) : h.Evolves (s.abandonArming c) :=
  ((e.modTx _).clearPttFor _).disarm

theorem enterRetune (e : h.Evolves s) (b : BandId) : h.Evolves (s.enterRetune b) := e.same

theorem askRetune (e : h.Evolves s) (b : BandId) : h.Evolves (s.askRetune b) := .ite (e.enterRetune b) e.same

/-! #### Claims, grants and the turn end -/

theorem beginCycle (e : h.Evolves s) (c : CycleHome) : h.Evolves (s.beginCycle c) :=
  .ite (State.Evolves.takeIdStart e.same) e.same

theorem claimPause (e : h.Evolves s) : h.Evolves s.claimPause := by
  have e := (e.modTurn fun t => { t with sub := .paused, idleStart := none }).flushTurnKeys
  exact .ite (State.Evolves.beginCycle e.same _) e.same

theorem claimTurn (e : h.Evolves s) : h.Evolves s.claimTurn := by
  unfold State.claimTurn; split
  · exact e
  · split
    · exact .ite e.same e.claimPause
    · exact e.same
    · exact e

theorem enterActive (e : h.Evolves s) : h.Evolves s.enterActive := by
  have e := (e.modTurn fun t => { t with sub := .active }).syncKey
  exact .ite e.claimPause e.takePending

theorem setArbiter (e : h.Evolves s) (a : Arbiter) : h.Evolves (s.setArbiter a) := e.same

theorem stopGap (e : h.Evolves s) : h.Evolves s.stopGap := e.same

theorem setTenancy (e : h.Evolves s) (w : SlotId) (x : Tenancy) : h.Evolves (s.setTenancy w x) := e.same

theorem stopPresence (e : h.Evolves s) (w : SlotId) : h.Evolves (s.stopPresence w) := e.same

theorem setFactor (e : h.Evolves s) (f : Nat) : h.Evolves (s.setFactor f) := e.same

theorem grantSteps (e : h.Evolves s) (w : SlotId) (r : RequestRec) : h.Evolves (s.grantSteps w r) :=
  .raise (.ampAtGrant (.setFactor (.same (e.setTenancy w .holding)) _) _) _

theorem enterGranted (e : h.Evolves s) (r : RequestRec) : h.Evolves (s.enterGranted r) := by
  have e' := e.flushTurnKeys.askRetune r.band
  exact .ite (.ite e.claimTurn e.enterActive) (.ite e'.claimTurn e')

theorem grantRequest (e : h.Evolves s) (w : SlotId) (r : RequestRec) : h.Evolves (s.grantRequest w r) :=
  (e.grantSteps w r).enterGranted r

theorem grant (e : h.Evolves s) (w : SlotId) : h.Evolves (s.grant w) := by
  unfold State.grant; split
  · exact e.grantRequest _ _
  · exact e

theorem arbitrate (e : h.Evolves s) : h.Evolves s.arbitrate := by
  unfold State.arbitrate; split
  · exact e.grant _
  · exact e.setArbiter _

theorem endTurnTx (e : h.Evolves s) : h.Evolves s.endTurnTx :=
  .ite (.ite (e.normalEnd _) (.ite (e.abandonArming _) e)) e

theorem forgetTurn (e : h.Evolves s) : h.Evolves s.forgetTurn := e.same

theorem moveCycle (e : h.Evolves s) (toId : Bool) : h.Evolves (s.moveCycle toId) :=
  .ite (State.Evolves.beginCycle e.same _) e.same

theorem leaveHolding (e : h.Evolves s) (t : Turn) (again : Bool) : h.Evolves (s.leaveHolding t again) :=
  .ite (e.setTenancy _ _) ((e.setTenancy _ _).stopPresence _)

theorem afterTurn (e : h.Evolves s) (a b : Bool) : h.Evolves (s.afterTurn a b) := e.same

theorem turnEnd (e : h.Evolves s) (c : TurnEndCause) : h.Evolves (s.turnEnd c) := by
  unfold State.turnEnd; split
  · exact e
  · exact ((((e.endTurnTx.forgetTurn.flushKeys.writeRecord _).raise _).afterTurn _ _).moveCycle _).leaveHolding _ _

/-! #### Ends of identifications and of transmissions, the cut -/

theorem idTurnOver (e : h.Evolves s) : h.Evolves s.idTurnOver :=
  .ite e (.ite (.ite e.arbitrate (.ite e.stopGap.arbitrate (e.setArbiter _)))
    (.ite (e.setArbiter _) (e.setArbiter _)))

theorem abandonCycle (e : h.Evolves s) : h.Evolves s.abandonCycle := by
  unfold State.abandonCycle; split
  · exact (e.writeRecord _).same
  · exact e

theorem dropAbandons (e : h.Evolves s) : h.Evolves s.dropAbandons := by
  unfold State.dropAbandons; refine .ite ?_ e
  split
  · exact e.abandonCycle.beginCycle _
  · exact e

theorem tellExit (e : h.Evolves s) (c : TxEndCause) (left : Bool) : h.Evolves (s.tellExit c left) :=
  .ite (.ite (e.turnEnd _) (.ite e.claimPause e)) (.ite e.dropAbandons e)

theorem endTx (e : h.Evolves s) (c : TxEndCause) : h.Evolves (s.endTx c) :=
  .ite ((e.normalEnd _).tellExit _ _) (.ite ((e.abandonArming _).tellExit _ _) e)

theorem endMemberTx (e : h.Evolves s) (c : TxEndCause) : h.Evolves (s.endMemberTx c) := .ite (e.endTx _) e

theorem cutFlush (e : h.Evolves s) (c : CutCause) : h.Evolves (s.cutFlush c) := by
  unfold State.cutFlush; split
  · exact .ite e.flushTurnKeys e
  · exact e

theorem cut (e : h.Evolves s) (c : CutCause) : h.Evolves (s.cut c) := by
  unfold State.cut
  dsimp only
  generalize hq : State.cutFlush c _ = q
  have e : h.Evolves q := by rw [← hq]; exact State.Evolves.cutFlush (e.clearPending.same) c
  split
  · exact e
  · exact e
  · exact e
  · exact e
  · exact (e.abandonArming _).tellExit _ _
  · exact (e.abandonArming _).tellExit _ _
  · exact (e.leaveExciting _ _).disarm.tellExit _ _
  · exact e.disarm

/-! #### The waits' ends and what settles at once -/

theorem closeCycle (e : h.Evolves s) (n : Nat) : h.Evolves (s.closeCycle n) := by
  unfold State.closeCycle; split
  · rename_i c _ _
    dsimp only
    split
    · exact State.Evolves.enterActive (.same (e.writeRecord (s.idRecord c n .complete)))
    · exact State.Evolves.idTurnOver (.same (e.writeRecord (s.idRecord c n .complete)))
    · exact (e.writeRecord _).same
  · exact e

theorem swapProfile (e : h.Evolves s) : h.Evolves s.swapProfile := .ite e.same e

theorem restartIdle (e : h.Evolves s) : h.Evolves s.restartIdle := e.modTurn _

theorem enterQuiet (e : h.Evolves s) : h.Evolves s.enterQuiet := by
  unfold State.enterQuiet
  dsimp only
  generalize hx : State.swapProfile _ = x
  have e : h.Evolves x := by rw [← hx]; exact (State.Evolves.closeCycle e.same _).swapProfile
  generalize hq : State.startAmpIdle _ = q
  have e : h.Evolves q := by rw [← hq]; exact State.Evolves.startAmpIdle e.same
  split
  · exact e.enterRetune _
  · exact .ite e.takeIdStart e.takePending

theorem enterArmAmp (e : h.Evolves s) : h.Evolves s.enterArmAmp :=
  .ite (.ite e.same (State.Evolves.cut e.same _)) e.same

theorem settleBand (e : h.Evolves s) : h.Evolves s.settleBand := by
  unfold State.settleBand
  dsimp only
  generalize hq : State.enterQuiet _ = q
  have e : h.Evolves q := by rw [← hq]; exact State.Evolves.enterQuiet e.same
  cases s.seq.retuneBand with
  | none => exact .ite e.enterActive e
  | some b => exact .ite (e.raise _).enterActive (e.raise _)

theorem advance (e : h.Evolves s) : h.Evolves s.advance := by
  unfold State.advance; split
  · exact e.settleBand
  · exact e.enterArmAmp
  · exact e.enterExciting
  · exact e.enterDisarmAmp
  · exact e.enterDisarmRelay
  · exact e.restartIdle.enterQuiet
  · exact e
  · exact e

theorem enterIdTurn (e : h.Evolves s) : h.Evolves s.enterIdTurn := (e.setArbiter _).beginCycle _

theorem gapExpires (e : h.Evolves s) : h.Evolves s.gapExpires := .ite e.stopGap.arbitrate e.stopGap

theorem syncIdle (e : h.Evolves s) : h.Evolves s.syncIdle := e.modTurn _

theorem syncQuiet (e : h.Evolves s) : h.Evolves s.syncQuiet := e.same

theorem settleStep (e : h.Evolves s) (ht : s.settleStep = some t) : h.Evolves t := by
  rcases State.settleStep_cases ht with ⟨-, -, rfl⟩ | ⟨-, rfl⟩ | ⟨-, rfl⟩
  · exact e.enterIdTurn
  · exact e.gapExpires
  · exact State.Evolves.advance e.same

theorem settle (e : h.Evolves s) : h.Evolves s.settle :=
  State.settle_induct (fun _ _ ht e => e.settleStep ht) (fun _ e => e.syncIdle) (fun _ e => e.syncQuiet) e

theorem exhaustionEffects (e : h.Evolves s) (w : SlotId) : h.Evolves (s.exhaustionEffects w) :=
  State.Evolves.raise (.ite (State.Evolves.turnEnd (.ite (e.endMemberTx _) e) _) e) _

end State.Evolves
end Sys2Proof.Machine
end

section
/-! What the ends of transmissions and turns leave of SEQ's lines, of the slots and of LNK, and what of it settling
keeps while SEQ waits. -/

namespace Sys2Proof.Machine

set_option Elab.async false

/-! ### Values that `kept` names: `fixed`, and its single items -/

theorem State.Evolves.fixed {h s : State} (e : h.Evolves s) : s.fixed = h.fixed := congrArg (·.1) e.kept
theorem State.Evolves.clock {h s : State} (e : h.Evolves s) : s.clock = h.clock := congrArg (·.1.time.1) e.kept
theorem State.Evolves.rst {h s : State} (e : h.Evolves s) : s.rst = h.rst := congrArg (·.1.time.2.2.2) e.kept
theorem State.Evolves.clt {h s : State} (e : h.Evolves s) : s.clt = h.clt := congrArg (·.1.clt) e.kept
theorem State.Evolves.used {h s : State} (e : h.Evolves s) : s.acu.used = h.acu.used := congrArg (·.1.used) e.kept

/-! ### Blocks that the operations leave alone -/

@[simp] theorem State.modTurn_lnk (f : Turn → Turn) (s : State) : (s.modTurn f).lnk = s.lnk := by
  unfold State.modTurn; split <;> rfl

@[simp] theorem State.modTurn_seq (f : Turn → Turn) (s : State) : (s.modTurn f).seq = s.seq := by
  unfold State.modTurn; split <;> rfl

@[simp] theorem State.modTurn_drv (f : Turn → Turn) (s : State) : (s.modTurn f).drv = s.drv := by
  unfold State.modTurn; split <;> rfl

@[simp] theorem State.modTurn_msr (f : Turn → Turn) (s : State) : (s.modTurn f).msr = s.msr := by
  unfold State.modTurn; split <;> rfl

@[simp] theorem State.modTurn_clt (f : Turn → Turn) (s : State) : (s.modTurn f).clt = s.clt := by
  unfold State.modTurn; split <;> rfl

@[simp] theorem State.modTurn_acu (f : Turn → Turn) (s : State) : (s.modTurn f).acu = s.acu := by
  unfold State.modTurn; split <;> rfl

@[simp] theorem State.modTurn_slots (f : Turn → Turn) (s : State) : (s.modTurn f).arb.slots = s.arb.slots := by
  unfold State.modTurn; split <;> rfl

@[simp] theorem State.turn_modTurn (f : Turn → Turn) (s : State) : (s.modTurn f).turn = s.turn.map f :=
  (s.modTurn_frame f).2

/-- A change of the turn context that keeps its holder keeps the holder. -/
theorem State.holder_modTurn {f : Turn → Turn} (hf : ∀ t, (f t).holder = t.holder) (s : State) :
    (s.modTurn f).holder = s.holder := by
  simp [State.holder, Function.comp_def, hf]

@[simp] theorem State.writeRecord_lnk (r : TurnRec) (s : State) : (s.writeRecord r).lnk = s.lnk := by
  unfold State.writeRecord; split <;> rfl

@[simp] theorem State.writeRecord_arb (r : TurnRec) (s : State) : (s.writeRecord r).arb = s.arb := by
  unfold State.writeRecord; split <;> rfl

@[simp] theorem State.writeRecord_seq (r : TurnRec) (s : State) : (s.writeRecord r).seq = s.seq := by
  unfold State.writeRecord; split <;> rfl

@[simp] theorem State.writeRecord_drv (r : TurnRec) (s : State) : (s.writeRecord r).drv = s.drv := by
  unfold State.writeRecord; split <;> rfl

@[simp] theorem State.takeIdStart_lnk (s : State) : s.takeIdStart.lnk = s.lnk := by
  unfold State.takeIdStart; split <;> rfl

@[simp] theorem State.takeIdStart_arb (s : State) : s.takeIdStart.arb = s.arb := by
  unfold State.takeIdStart; split <;> rfl

@[simp] theorem State.beginCycle_lnk (c : CycleHome) (s : State) : (s.beginCycle c).lnk = s.lnk := by
  unfold State.beginCycle; dsimp only; split <;> simp

@[simp] theorem State.beginCycle_arb (c : CycleHome) (s : State) : (s.beginCycle c).arb = s.arb := by
  unfold State.beginCycle; dsimp only; split <;> simp

@[simp] theorem State.claimPause_lnk (s : State) : s.claimPause.lnk = s.lnk := by
  unfold State.claimPause; dsimp only; split <;> simp

/-- The claim's pause keeps the holder. -/
theorem State.holder_claimPause (s : State) : s.claimPause.holder = s.holder := by
  have key : s.claimPause.arb = (s.modTurn fun t => { t with sub := .paused, idleStart := none }).arb := by
    unfold State.claimPause; dsimp only; split <;> simp
  rw [← State.holder_modTurn (f := fun t => { t with sub := .paused, idleStart := none }) (fun _ => rfl) s]
  simp only [State.holder, State.turn, key]

@[simp] theorem State.moveCycle_lnk (b : Bool) (s : State) : (s.moveCycle b).lnk = s.lnk := by
  unfold State.moveCycle; dsimp only; split <;> simp

@[simp] theorem State.moveCycle_arb (b : Bool) (s : State) : (s.moveCycle b).arb = s.arb := by
  unfold State.moveCycle; dsimp only; split <;> simp

@[simp] theorem State.leaveHolding_lnk (t : Turn) (b : Bool) (s : State) : (s.leaveHolding t b).lnk = s.lnk := by
  unfold State.leaveHolding; split <;> rfl

@[simp] theorem State.leaveHolding_seq (t : Turn) (b : Bool) (s : State) : (s.leaveHolding t b).seq = s.seq := by
  unfold State.leaveHolding; split <;> rfl

@[simp] theorem State.leaveHolding_drv (t : Turn) (b : Bool) (s : State) : (s.leaveHolding t b).drv = s.drv := by
  unfold State.leaveHolding; split <;> rfl

/-- Outside QUIET the ID start of a cycle waits (R71). -/
theorem State.beginCycle_of_busy {s : State} (c : CycleHome) (hq : s.seq.state ≠ .quiet) :
    s.beginCycle c = { s with idu := { s.idu with
      cycle := .starting, context := some ⟨s.seconds, [], 0, 0, c, [], false⟩, startWaits := true } } := by
  simp [State.beginCycle, hq]

theorem State.moveCycle_seq {s : State} {b : Bool} (hq : s.seq.state ≠ .quiet) : (s.moveCycle b).seq = s.seq := by
  unfold State.moveCycle; dsimp only; split
  · rw [State.beginCycle_of_busy _ (by exact hq)]
  · rfl

theorem State.moveCycle_drv {s : State} {b : Bool} (hq : s.seq.state ≠ .quiet) : (s.moveCycle b).drv = s.drv := by
  unfold State.moveCycle; dsimp only; split
  · rw [State.beginCycle_of_busy _ (by exact hq)]
  · rfl

/-! ### A normal end from EXCITING (R61) -/

section NormalEnd

variable {s : State} {x : Tx} (c : TxEndCause)

/-- SEQ after a normal end: in DRAIN with the tail running. -/
theorem State.normalEnd_seq (hs : s.seq.state = .exciting) (hx : s.seq.tx = some x) :
    (s.normalEnd c).seq = { s.seq with
      state := .drain, exc := false, keyGate := false, pttDemand := s.seq.pttDemand && keepsPtt c
      tx := some { x with endCause := some c, limitStart := none }
      step := some ⟨s.clock, s.seq.active.tail⟩ } := by
  simp [State.normalEnd, State.leaveExciting, hs, hx, State.startStep, State.timer]

theorem State.normalEnd_drv (hs : s.seq.state = .exciting) (hx : s.seq.tx = some x) :
    (s.normalEnd c).drv = { s.drv with applied := { s.drv.applied with active := false } } := by
  simp [State.normalEnd, State.leaveExciting, hs, hx]

theorem State.normalEnd_lnk (hs : s.seq.state = .exciting) (hx : s.seq.tx = some x) :
    (s.normalEnd c).lnk = s.lnk.raise (.txEnded x.kind c x.airTime s.msr.peak) := by
  simp [State.normalEnd, State.leaveExciting, hs, hx, State.raise]

theorem State.normalEnd_idu (hs : s.seq.state = .exciting) (hx : s.seq.tx = some x) :
    (s.normalEnd c).idu = { s.idu with element := none } := by
  simp [State.normalEnd, State.leaveExciting, hs, hx]

theorem State.normalEnd_arb (s : State) : (s.normalEnd c).arb = s.arb := by
  unfold State.normalEnd
  split
  · unfold State.leaveExciting; split <;> simp
  · rfl

theorem State.memberExciting_iff : s.memberExciting = true ↔ s.seq.state = .exciting ∧ s.memberTx = true := by
  simp [State.memberExciting]

/-- The end of the holder's transmission for a cause that completes no over: the normal end, and a claim that waited for
it takes the turn (R37, R61, R157). -/
theorem State.endMemberTx_of_exciting (hm : s.memberExciting = true) (hc : completesOver c = false) :
    s.endMemberTx c = if s.idu.claim = .atTxEnd then (s.normalEnd c).claimPause else s.normalEnd c := by
  obtain ⟨hs, hm⟩ := State.memberExciting_iff.mp hm
  obtain ⟨y, hy⟩ : ∃ y, s.seq.tx = some y := by
    cases hy : s.seq.tx with
    | none => simp [State.memberTx, hy] at hm
    | some y => exact ⟨y, rfl⟩
  have hm' : (s.normalEnd c).memberTx = true := by
    simp only [State.memberTx, hy] at hm
    simp only [State.memberTx, State.normalEnd_seq c hs hy]
    exact hm
  simp [State.endMemberTx, State.endTx, State.tellExit, hm, hm', hs, hc, State.normalEnd_idu c hs hy]

end NormalEnd

/-! ### The turn end (R35, R36, R38) -/

/-- A transmission that is neither armed nor on the air is not ended with the turn. -/
theorem State.endTurnTx_of_over {s : State} (hs : s.seq.state ≠ .exciting) (ha : s.arming = false) :
    s.endTurnTx = s := by
  simp [State.endTurnTx, hs, ha]

theorem State.endTurnTx_arb (s : State) : s.endTurnTx.arb = s.arb := by
  have hd (s : State) : s.disarm.arb = s.arb := by unfold State.disarm; split <;> rfl
  unfold State.endTurnTx
  split
  · split
    · exact s.normalEnd_arb _
    · split
      · simp [State.abandonArming, hd]
      · rfl
  · rfl

@[simp] theorem State.turn_afterTurn (a b : Bool) (s : State) : (s.afterTurn a b).turn = none := by
  cases a <;> cases b <;> rfl

@[simp] theorem State.turn_moveCycle (b : Bool) (s : State) : (s.moveCycle b).turn = s.turn := by
  simp [State.turn]

@[simp] theorem State.turn_leaveHolding (t : Turn) (b : Bool) (s : State) : (s.leaveHolding t b).turn = s.turn := by
  unfold State.leaveHolding; split <;> rfl

@[simp] theorem State.leaveHolding_slots (t : Turn) (b : Bool) (s : State) : (s.leaveHolding t b).arb.slots =
    s.arb.slots.write t.holder (if b then .waiting t.requeued else .opened) := by
  cases b <;> rfl

/-- There is no turn after a turn end. -/
@[simp] theorem State.turn_turnEnd (c : TurnEndCause) (s : State) : (s.turnEnd c).turn = none := by
  cases ht : s.turn <;> simp [State.turnEnd, ht]

/-- The holder is WAITING again after a turn end that queues it, and OPEN after another. -/
theorem State.turnEnd_slots {s : State} {t : Turn} (c : TurnEndCause) (ht : s.turn = some t) :
    (s.turnEnd c).arb.slots = s.arb.slots.write t.holder
      (if decide (t.mode = .standing) && requeues c then .waiting t.requeued else .opened) := by
  simp [State.turnEnd, ht, State.afterTurn, State.endTurnTx_arb]

/-- LNK after a turn end with no transmission to end hears TURN_ENDED alone. -/
theorem State.turnEnd_lnk {s : State} {t : Turn} (c : TurnEndCause) (ht : s.turn = some t)
    (hs : s.seq.state ≠ .exciting) (ha : s.arming = false) :
    (s.turnEnd c).lnk =
      s.lnk.raise (.turnEnded t.holder c (decide (t.mode = .standing) && requeues c)) := by
  simp only [State.turnEnd, ht, State.endTurnTx_of_over hs ha]
  simp [State.raise]

/-! ### A slot that waits for nothing -/

/-- Slot `w` is OPEN and does not hold the turn. -/
structure State.OpenApart (w : SlotId) (s : State) : Prop where
  opened : s.tenancy w = .opened
  apart : s.holder ≠ some w

theorem State.OpenApart.of_arb {w : SlotId} {s t : State} (o : s.OpenApart w) (hs : t.arb.slots = s.arb.slots)
    (ht : t.holder = s.holder) : t.OpenApart w :=
  ⟨by rw [State.tenancy, hs]; exact o.opened, by rw [ht]; exact o.apart⟩

/-- The turn end leaves its holder so, for a cause that does not queue it again. -/
theorem State.turnEnd_openApart {s : State} {t : Turn} {c : TurnEndCause} (ht : s.turn = some t)
    (hr : requeues c = false) : (s.turnEnd c).OpenApart t.holder := by
  exact ⟨by simp [State.tenancy, State.turnEnd_slots c ht, hr], by simp [State.holder]⟩

/-- The turn end leaves every other slot that was OPEN so. -/
theorem State.OpenApart.turnEnd {s : State} {w : SlotId} (o : s.OpenApart w) (c : TurnEndCause) :
    (s.turnEnd c).OpenApart w := by
  refine ⟨?_, by simp [State.holder]⟩
  cases ht : s.turn with
  | none => simpa [State.turnEnd, ht] using o.opened
  | some t =>
    have hw : w ≠ t.holder := by
      rintro rfl
      exact o.apart (by simp [State.holder, ht])
    rw [State.tenancy, State.turnEnd_slots c ht, Table.read_write_other _ _ hw]
    exact o.opened

/-! ### SEQ while it waits -/

/-- From `h`, with SEQ outside QUIET, to `s` only what leaves SEQ in its state happened: its wait, its lines and DRV are
as they were (of SEQ only the PTT demand, the retune asked for and the transmission's marks may differ), and a slot that
was OPEN apart from the turn still is. -/
structure State.SeqStays (h s : State) : Prop where
  busy : h.seq.state ≠ .quiet
  seq : { s.seq with
    pttDemand := h.seq.pttDemand, queuedRetune := h.seq.queuedRetune, retuneCurrent := h.seq.retuneCurrent
    tx := h.seq.tx } = h.seq
  drv : s.drv = h.drv
  openApart : ∀ w, h.OpenApart w → s.OpenApart w

namespace State.SeqStays

variable {h s t : State}

theorem refl (hq : s.seq.state ≠ .quiet) : s.SeqStays s := ⟨hq, rfl, rfl, fun _ o => o⟩

theorem state (e : h.SeqStays s) : s.seq.state = h.seq.state := congrArg (·.state) e.seq
theorem step (e : h.SeqStays s) : s.seq.step = h.seq.step := congrArg (·.step) e.seq
theorem exc (e : h.SeqStays s) : s.seq.exc = h.seq.exc := congrArg (·.exc) e.seq
theorem notQuiet (e : h.SeqStays s) : s.seq.state ≠ .quiet := e.state ▸ e.busy

theorem trans (a : h.SeqStays s) (b : s.SeqStays t) : h.SeqStays t where
  busy := a.busy
  seq := by
    have key := congrArg (fun q : Seq => { q with
      pttDemand := h.seq.pttDemand, queuedRetune := h.seq.queuedRetune, retuneCurrent := h.seq.retuneCurrent
      tx := h.seq.tx }) b.seq
    exact key.trans a.seq
  drv := b.drv.trans a.drv
  openApart w o := b.openApart w (a.openApart w o)

/-- A change outside SEQ, DRV, the tenancies and the holder. -/
theorem same (e : h.SeqStays s) (hq : t.seq = s.seq := by rfl) (hd : t.drv = s.drv := by rfl)
    (hs : t.arb.slots = s.arb.slots := by rfl) (ht : t.holder = s.holder := by rfl) : h.SeqStays t :=
  e.trans ⟨e.notQuiet, by rw [hq], hd, fun _ o => o.of_arb hs ht⟩

theorem ite {c : Prop} [Decidable c] {a b : State} (ha : h.SeqStays a) (hb : h.SeqStays b) :
    h.SeqStays (if c then a else b) := by split <;> assumption

theorem modTurn (e : h.SeqStays s) (f : Turn → Turn) (hf : ∀ t, (f t).holder = t.holder := by exact fun _ => rfl) :
    h.SeqStays (s.modTurn f) :=
  e.same (by simp) (by simp) (by simp) (State.holder_modTurn hf s)

theorem raise (e : h.SeqStays s) (r : Report) : h.SeqStays (s.raise r) := e.same

/-- The arbiter's states without a turn take no slot. -/
theorem setArbiter (e : h.SeqStays s) (a : Arbiter) (ha : (s.setArbiter a).turn = none) :
    h.SeqStays (s.setArbiter a) :=
  e.trans ⟨e.notQuiet, rfl, rfl, fun _ o => ⟨o.opened, by simp [State.holder, ha]⟩⟩

theorem flushTurnKeys (e : h.SeqStays s) : h.SeqStays s.flushTurnKeys := e.same

theorem syncKey (e : h.SeqStays s) : h.SeqStays s.syncKey := e.same

theorem beginCycle (e : h.SeqStays s) (c : CycleHome) : h.SeqStays (s.beginCycle c) := by
  rw [State.beginCycle_of_busy c e.notQuiet]
  exact e.same

theorem claimPause (e : h.SeqStays s) : h.SeqStays s.claimPause := by
  have e := (e.modTurn fun t => { t with sub := .paused, idleStart := none }).flushTurnKeys
  exact .ite (.beginCycle e.same _) e.same

theorem claimTurn (e : h.SeqStays s) : h.SeqStays s.claimTurn := by
  unfold State.claimTurn; split
  · exact e
  · split
    · exact .ite e.same e.claimPause
    · exact e.same
    · exact e

theorem takePending (e : h.SeqStays s) : h.SeqStays s.takePending := by
  have hq := e.notQuiet
  unfold State.takePending; split
  · simpa [hq] using e
  · exact e

theorem enterActive (e : h.SeqStays s) : h.SeqStays s.enterActive := by
  have e := (e.modTurn fun t => { t with sub := .active }).syncKey
  exact .ite e.claimPause e.takePending

theorem askRetune (e : h.SeqStays s) (b : BandId) : h.SeqStays (s.askRetune b) := by
  have hq := e.notQuiet
  rw [State.askRetune, if_neg hq]
  exact e.trans ⟨hq, rfl, rfl, fun _ o => o.of_arb rfl rfl⟩

theorem ampAtGrant (e : h.SeqStays s) (u : Nat) : h.SeqStays (s.ampAtGrant u) := by
  unfold State.ampAtGrant; refine .ite ?_ e
  split
  · exact .ite e.same e.same
  · exact .ite (.ite e.same e) e
  · exact e
  · exact e

/-- A grant goes to a slot that waits, and so to none that is OPEN. -/
theorem grantSteps (e : h.SeqStays s) {w : SlotId} {r : RequestRec} (hw : (s.tenancy w).record = some r) :
    h.SeqStays (s.grantSteps w r) := by
  have key : h.SeqStays (State.setFactor Config.fullFactor { s.setTenancy w .holding with
      arb := { (s.setTenancy w .holding).arb with
        ranks := rotate s.arb.ranks w, arbiter := .turn ((s.setTenancy w .holding).newTurn w r), gap := none } }) := by
    refine e.trans ⟨e.notQuiet, rfl, rfl, fun v o => ?_⟩
    have hv : v ≠ w := by
      rintro rfl
      rw [o.opened] at hw
      cases hw
    exact ⟨(State.tenancy_setTenancy_other _ s hv).trans o.opened, fun hh => hv (Option.some.inj hh).symm⟩
  exact (key.ampAtGrant _).raise _

theorem enterGranted (e : h.SeqStays s) (r : RequestRec) : h.SeqStays (s.enterGranted r) := by
  have e' := e.flushTurnKeys.askRetune r.band
  exact .ite (.ite e.claimTurn e.enterActive) (.ite e'.claimTurn e')

theorem arbitrate (e : h.SeqStays s) : h.SeqStays s.arbitrate := by
  unfold State.arbitrate; split
  · unfold State.grant; split
    · exact (e.grantSteps ‹_›).enterGranted _
    · exact e
  · exact e.setArbiter .free rfl

/-- A turn end after the transmission's leaves SEQ as it stands. -/
theorem turnEnd (e : h.SeqStays s) (c : TurnEndCause) (hs : s.seq.state ≠ .exciting) (ha : s.arming = false) :
    h.SeqStays (s.turnEnd c) := by
  have hq := e.notQuiet
  cases ht : s.turn with
  | none => simpa [State.turnEnd, ht] using e
  | some t =>
    refine e.trans ⟨hq, ?_, ?_, fun _ o => o.turnEnd c⟩
    · simp only [State.turnEnd, ht, State.endTurnTx_of_over hs ha, State.leaveHolding_seq]
      rw [State.moveCycle_seq (by simpa [State.forgetTurn] using hq)]
      simp [State.forgetTurn]
    · simp only [State.turnEnd, ht, State.endTurnTx_of_over hs ha, State.leaveHolding_drv]
      rw [State.moveCycle_drv (by simpa [State.forgetTurn] using hq)]
      simp

theorem enterIdTurn (e : h.SeqStays s) : h.SeqStays s.enterIdTurn :=
  State.SeqStays.beginCycle (e.setArbiter .idTurn rfl) _

theorem gapExpires (e : h.SeqStays s) : h.SeqStays s.gapExpires := .ite (.arbitrate e.same) e.same

/-- While SEQ's wait takes time, settling leaves SEQ as it stands. -/
theorem settle (e : h.SeqStays s) (hz : zeroLength h.seq.step = false) : h.SeqStays s.settle := by
  refine State.settle_induct (P := h.SeqStays) (fun s t ht e => ?_) (fun _ e => e.modTurn _) (fun _ e => e.same) e
  rcases State.settleStep_cases ht with ⟨-, -, rfl⟩ | ⟨-, rfl⟩ | ⟨hstep, -⟩
  · exact e.enterIdTurn
  · exact e.gapExpires
  · rw [e.step, hz] at hstep
    cases hstep

end State.SeqStays

end Sys2Proof.Machine
end

section
/-! What passing time, the counting of air time and the taking of an occurrence at its instant do. -/

namespace Sys2Proof.Machine

set_option Elab.async false

/-! ### A settled state -/

/-- The idle hang agrees with its conditions. -/
theorem State.syncIdle_eq_self {s : State} :
    s.syncIdle = s ↔ ∀ t, s.turn = some t → t.idleStart.isSome = s.idleMayRun t := by
  cases ht : s.turn with
  | none => simp [State.syncIdle_of_no_turn ht]
  | some t =>
    have harb := State.turn_eq_some.mp ht
    rw [State.syncIdle, State.modTurn_of_turn _ ht]
    constructor
    · intro e u hu
      have hturn := congrArg State.turn e
      rw [State.turn_setArbiter, ht, Option.some.injEq] at hturn
      cases hu
      rw [← congrArg Turn.idleStart hturn]
      cases s.idleMayRun t <;> rfl
    · intro e
      have key : (if s.idleMayRun t then some (t.idleStart.getD s.clock) else none) = t.idleStart := by
        rw [← e t rfl]
        cases t.idleStart <;> rfl
      simp only [key, State.setArbiter, ← harb]

/-- The quiet timer agrees with its conditions. -/
theorem State.syncQuiet_eq_self {s : State} : s.syncQuiet = s ↔ s.idu.quiet.isSome = s.quietMayRun := by
  constructor
  · intro e
    rw [← congrArg (·.idu.quiet) e]
    simp only [State.syncQuiet]
    cases s.quietMayRun <;> rfl
  · intro e
    have key : (if s.quietMayRun then some (s.idu.quiet.getD (s.timer (s.idu.params.quietDelay * 1000))) else none) =
        s.idu.quiet := by
      rw [← e]
      cases s.idu.quiet <;> rfl
    simp only [State.syncQuiet, key]

theorem State.settleStep_eq_none {s : State} : s.settleStep = none ↔
    ¬(s.idu.due = true ∧ s.idTurnOpen = true) ∧ zeroLength s.arb.gap = false ∧ zeroLength s.seq.step = false := by
  unfold State.settleStep
  split
  · simp_all
  · split
    · simp_all
    · split <;> simp_all

/-- What a settled state is, without the clock: nothing comes about at once, and the two timers agree with their
conditions. -/
theorem State.settled_iff {s : State} : s.settled ↔
    (¬(s.idu.due = true ∧ s.idTurnOpen = true) ∧ zeroLength s.arb.gap = false ∧ zeroLength s.seq.step = false) ∧
      (∀ t, s.turn = some t → t.idleStart.isSome = s.idleMayRun t) ∧ s.idu.quiet.isSome = s.quietMayRun := by
  rw [State.settled, State.settleStep_eq_none, State.syncIdle_eq_self, State.syncQuiet_eq_self]

theorem State.settle_eq_self {s : State} (h : s.settled) : s.settle = s :=
  State.settle_of_settled h.1 h.2.1 h.2.2

/-! ### Passing time (R1, R168) -/

/-- Passing time unsettles nothing. -/
theorem State.settled_elapse {s : State} (n : Nat) (h : s.settled) : (s.elapse n).settled := by
  rw [State.settled_iff] at h ⊢
  exact h

theorem State.settled_bringTo {s : State} (t : Clock) (h : s.settled) : (s.bringTo t).settled := by
  rcases s.bringTo_cases t with e | e <;> rw [e]
  · exact h
  · exact State.settled_elapse _ h

section BringTo

variable (t : Clock) (s : State)

@[simp] theorem State.bringTo_rst : (s.bringTo t).rst = s.rst := by
  unfold State.bringTo; split <;> rfl
@[simp] theorem State.bringTo_lnk : (s.bringTo t).lnk = s.lnk := by
  unfold State.bringTo; split <;> rfl
@[simp] theorem State.bringTo_clt : (s.bringTo t).clt = s.clt := by
  unfold State.bringTo; split <;> rfl
@[simp] theorem State.bringTo_arb : (s.bringTo t).arb = s.arb := by
  unfold State.bringTo; split <;> rfl
@[simp] theorem State.bringTo_seq : (s.bringTo t).seq = s.seq := by
  unfold State.bringTo; split <;> rfl
@[simp] theorem State.bringTo_msr : (s.bringTo t).msr = s.msr := by
  unfold State.bringTo; split <;> rfl
@[simp] theorem State.bringTo_used : (s.bringTo t).acu.used = s.acu.used := by
  unfold State.bringTo; split <;> rfl
theorem State.bringTo_acu : { (s.bringTo t).acu with counters := s.acu.counters } = s.acu := by
  unfold State.bringTo; split <;> rfl
@[simp] theorem State.turn_bringTo : (s.bringTo t).turn = s.turn := by simp [State.turn]
@[simp] theorem State.memberTx_bringTo : (s.bringTo t).memberTx = s.memberTx := by simp [State.memberTx]

end BringTo

/-- An instant that has come stands still. -/
theorem State.bringTo_of_reached {t : Clock} {s : State} (h : reached s.clock t = true) : s.bringTo t = s := by
  simp [State.bringTo, h]

@[simp] theorem reached_self {w : Nat} (t : BitVec w) : reached t t = true := by simp [reached]

/-- After bringing the clock to an instant, the instant has come. -/
@[simp] theorem State.reached_bringTo (t : Clock) (s : State) : reached (s.bringTo t).clock t = true := by
  cases h : reached s.clock t with
  | true => rw [State.bringTo_of_reached h, h]
  | false => rw [State.clock_bringTo h, reached_self]

/-! ### Air time (R165, R166) -/

/-- `n` tenths join the air time of the transmission, of the turn and of slot `w`. -/
def State.chargeTenths (w : SlotId) (n : Nat) (s : State) : State :=
  let s := (s.addAir n).modTurn fun t => { t with airTime := t.airTime + n }
  { s with acu := { s.acu with used := s.acu.used.write w (min max32 (s.acu.used.read w + n)) } }

/-- The usable tenths of a MEMBER transmission are charged, and the exhausting one has its effects. -/
theorem State.memberTenths_eq (w : SlotId) (k : Nat) (s : State) :
    s.memberTenths w k =
      if !s.exhausted w && (s.chargeTenths w (s.usable w k)).exhausted w then
        (s.chargeTenths w (s.usable w k)).exhaustionEffects w
      else s.chargeTenths w (s.usable w k) := rfl

@[simp] theorem State.memberTx_addAir (n : Nat) (s : State) : (s.addAir n).memberTx = s.memberTx := by
  cases h : s.seq.tx <;> simp [State.addAir, State.modTx, State.memberTx, h]

/-- Counting air time unsettles nothing. -/
theorem State.settled_addAir {s : State} (n : Nat) (h : s.settled) : (s.addAir n).settled := by
  have hm := s.memberTx_addAir n
  rw [State.settled_iff] at h ⊢
  obtain ⟨hstep, hidle, hquiet⟩ := h
  refine ⟨hstep, fun t ht => ?_, hquiet⟩
  rw [State.idleMayRun, hm]
  exact hidle t ht

section Charged

variable {s : State} {x : Tx} {t : Turn} (w : SlotId) (n : Nat)

/-- Of a member turn's transmission, the charged state. -/
theorem State.chargeTenths_eq (hx : s.seq.tx = some x) (ht : s.turn = some t) :
    s.chargeTenths w n = { s with
      seq := { s.seq with tx := some { x with airTime := x.airTime + n } }
      arb := { s.arb with arbiter := .turn { t with airTime := t.airTime + n } }
      acu := { s.acu with used := s.acu.used.write w (min max32 (s.acu.used.read w + n)) } } := by
  have ht' : (s.addAir n).turn = some t := ht
  simp only [State.chargeTenths, State.modTurn_of_turn _ ht']
  simp [State.addAir, State.modTx, hx, State.setArbiter]

@[simp] theorem State.chargeTenths_lnk (s : State) : (s.chargeTenths w n).lnk = s.lnk := by
  simp [State.chargeTenths, State.addAir]

@[simp] theorem State.chargeTenths_msr (s : State) : (s.chargeTenths w n).msr = s.msr := by
  simp [State.chargeTenths, State.addAir]

@[simp] theorem State.identity_chargeTenths (v : SlotId) (s : State) :
    (s.chargeTenths w n).identity v = s.identity v := by
  simp [State.identity, State.chargeTenths, State.addAir]

@[simp] theorem State.used_chargeTenths (s : State) :
    (s.chargeTenths w n).acu.used.read w = min max32 (s.acu.used.read w + n) := by
  simp [State.chargeTenths, State.addAir]

@[simp] theorem State.memberExciting_chargeTenths (s : State) :
    (s.chargeTenths w n).memberExciting = s.memberExciting := by
  have hm := s.memberTx_addAir n
  simp only [State.memberTx] at hm
  simp only [State.memberExciting, State.memberTx, State.chargeTenths, State.modTurn_seq, hm]
  rfl

theorem State.settled_chargeTenths (ht : s.turn = some t) (h : s.settled) : (s.chargeTenths w n).settled := by
  have h := State.settled_addAir n h
  have ht' : (s.addAir n).turn = some t := ht
  have harb := State.turn_eq_some.mp ht'
  simp only [State.chargeTenths, State.modTurn_of_turn _ ht']
  rw [State.settled_iff] at h ⊢
  obtain ⟨⟨hdue, hgap, hstep⟩, hidle, hquiet⟩ := h
  refine ⟨⟨?_, hgap, hstep⟩, fun u hu => ?_, ?_⟩
  · simp [State.idTurnOpen, State.setArbiter]
  · cases hu
    exact hidle t ht'
  · simpa [State.quietMayRun, State.setArbiter, harb] using hquiet

end Charged

/-- With tenths complete they are counted, and what takes no time comes about. -/
theorem State.onTime_of_due {s : State} {k : Nat} (hk : s.tenthsDue = k) (hpos : 0 < k) :
    s.onTime = (s.airTenths k).settle := by
  rw [State.onTime, hk, if_neg (by omega)]

theorem State.airTenths_of_member {s : State} {t : Turn} (k : Nat) (ht : s.turn = some t) (hm : s.memberTx = true) :
    s.airTenths k = s.memberTenths t.holder k := by
  simp [State.airTenths, ht, hm]

theorem State.airTenths_of_ident {s : State} (k : Nat) (hm : s.memberTx = false) : s.airTenths k = s.addAir k := by
  unfold State.airTenths; split <;> simp [hm]

/-- Counting air time changes of `kept` the air time used alone, and LNK only gains: what the exhausting tenth does is
what a turn's end does. -/
theorem State.onTime_evolves (s : State) :
    ∃ u, State.Evolves { s with acu := { s.acu with used := u } } s.onTime := by
  have haddAir (k : Nat) : State.Evolves { s with acu := { s.acu with used := s.acu.used } } (s.addAir k) :=
    State.Evolves.modTx (.refl s) _
  have hcharge (w : SlotId) (n : Nat) :
      State.Evolves { s with acu := { s.acu with used := s.acu.used.write w (min max32 (s.acu.used.read w + n)) } }
        (s.chargeTenths w n) := by
    unfold State.chargeTenths State.modTurn
    split <;> exact .same (.refl _)
  unfold State.onTime
  split
  · exact ⟨s.acu.used, .refl s⟩
  · unfold State.airTenths
    split
    · split
      · rw [State.memberTenths_eq]
        exact ⟨_, .settle (.ite ((hcharge _ _).exhaustionEffects _) (hcharge _ _))⟩
      · exact ⟨_, (haddAir _).settle⟩
    · exact ⟨_, (haddAir _).settle⟩

section OnTime

variable (s : State)

@[simp] theorem State.onTime_clock : s.onTime.clock = s.clock := by
  obtain ⟨_, e⟩ := s.onTime_evolves; exact e.clock

@[simp] theorem State.onTime_rst : s.onTime.rst = s.rst := by
  obtain ⟨_, e⟩ := s.onTime_evolves; exact e.rst

@[simp] theorem State.onTime_closed : s.onTime.closed = s.closed := by
  obtain ⟨_, e⟩ := s.onTime_evolves
  have hrestart : s.onTime.lnk.restarting = s.lnk.restarting := congrArg (·.1.link.2.2.2.2.2) e.kept
  rw [State.closed, State.closed, State.onTime_rst, hrestart]

@[simp] theorem State.onTime_counters : s.onTime.acu.counters = s.acu.counters := by
  obtain ⟨_, e⟩ := s.onTime_evolves; exact congrArg (·.2.1) e.kept

@[simp] theorem State.onTime_nextScan : s.onTime.msr.nextScan = s.msr.nextScan := by
  obtain ⟨_, e⟩ := s.onTime_evolves; exact congrArg (·.2.2) e.kept

end OnTime

/-! ### The exhausting tenth (R166) -/

section Exhaustion

variable {s : State} {x : Tx} {t : Turn}

/-- The end of the holder's transmission for a cause that completes no over keeps SEQ in DRAIN, the holder, and what LNK
heard. -/
theorem State.endMemberTx_stays (c : TxEndCause) (hm : s.memberExciting = true) (hc : completesOver c = false)
    (hx : s.seq.tx = some x) :
    (s.normalEnd c).SeqStays (s.endMemberTx c) ∧ (s.endMemberTx c).holder = s.holder ∧
      (s.endMemberTx c).lnk = s.lnk.raise (.txEnded x.kind c x.airTime s.msr.peak) := by
  have hs := (State.memberExciting_iff.mp hm).1
  have hq : (s.normalEnd c).seq.state ≠ .quiet := by simp [State.normalEnd_seq c hs hx]
  have hh : (s.normalEnd c).holder = s.holder := by simp [State.holder, State.turn, State.normalEnd_arb]
  rw [State.endMemberTx_of_exciting c hm hc]
  split
  · refine ⟨(State.SeqStays.refl hq).claimPause, ?_, ?_⟩
    · rw [State.holder_claimPause, hh]
    · rw [State.claimPause_lnk, State.normalEnd_lnk c hs hx]
  · exact ⟨.refl hq, hh, State.normalEnd_lnk c hs hx⟩

/-- What the exhausting tenth of the holder's transmission leaves before settling: the transmission ended with
ALLOWANCE, then the turn, then ALLOWANCE_EXHAUSTED. -/
theorem State.exhaustionEffects_of_exciting (ht : s.turn = some t) (hm : s.memberExciting = true) :
    s.exhaustionEffects t.holder = ((s.endMemberTx .allowance).turnEnd .allowance).raise
      (.allowanceExhausted t.holder ((s.identity t.holder).allowance.getD 0) (s.acu.used.read t.holder)
        (((s.endMemberTx .allowance).turnEnd .allowance).tenancy t.holder).shown) := by
  have e := ((State.Evolves.refl s).endMemberTx .allowance).turnEnd .allowance
  have hid := congrArg (fun c : Clt => c.ids) e.clt
  have hh : s.holdsTurn t.holder = true := by simp [State.holdsTurn, State.holder, ht]
  simp only [State.exhaustionEffects, hh, hm, if_true, State.identity, hid, e.used]

/-- The exhausting tenth of the holder's transmission with the tail not 0, and what takes no time after it: SEQ is in
DRAIN with EXC and DRIVE off, the slot is OPEN without the turn, and the three occurrences were raised. -/
theorem State.exhaustion_settles (ht : s.turn = some t) (hm : s.memberExciting = true) (hx : s.seq.tx = some x)
    (htail : s.seq.active.tail ≠ 0) :
    let u := (s.exhaustionEffects t.holder).settle
    u.acu.used = s.acu.used ∧ u.OpenApart t.holder ∧
      u.seq.state = .drain ∧ u.seq.exc = false ∧ u.drv.applied.active = false ∧
      s.raised u (.txEnded x.kind .allowance x.airTime s.msr.peak) ∧
      s.raised u (.turnEnded t.holder .allowance false) ∧
      s.raised u (.allowanceExhausted t.holder ((s.identity t.holder).allowance.getD 0) (s.acu.used.read t.holder)
        .opened) := by
  intro u
  have hs := (State.memberExciting_iff.mp hm).1
  obtain ⟨hstays, hholder, hlnkTx⟩ := State.endMemberTx_stays .allowance hm rfl hx
  have hend := State.normalEnd_seq .allowance hs hx
  have hdrain : (s.endMemberTx .allowance).seq.state = .drain := by rw [hstays.state, hend]
  obtain ⟨v, hv, hvw⟩ : ∃ v, (s.endMemberTx .allowance).turn = some v ∧ v.holder = t.holder := by
    simpa [State.holder, ht] using hholder
  have hnoTx : (s.endMemberTx .allowance).seq.state ≠ .exciting := by simp [hdrain]
  have hnoArm : (s.endMemberTx .allowance).arming = false := by simp [State.arming, hdrain]
  have hopen := State.turnEnd_openApart (c := .allowance) hv rfl
  have hlnkTurn := State.turnEnd_lnk .allowance hv hnoTx hnoArm
  rw [hvw] at hopen hlnkTurn
  simp only [requeues, Bool.and_false] at hlnkTurn
  have heff := State.exhaustionEffects_of_exciting ht hm
  rw [hopen.opened] at heff
  have hturn := hstays.turnEnd .allowance hnoTx hnoArm
  have hsettle : ((s.endMemberTx .allowance).turnEnd .allowance).SeqStays u := by
    have hz : zeroLength ((s.endMemberTx .allowance).turnEnd .allowance).seq.step = false := by
      rw [hturn.step, hend]
      simp [zeroLength, htail]
    simp only [u, heff]
    exact ((State.SeqStays.refl hturn.notQuiet).raise _).settle hz
  have hu := hturn.trans hsettle
  have hkept := ((State.Evolves.refl s).exhaustionEffects t.holder).settle
  have hafter := (State.Evolves.refl (s.exhaustionEffects t.holder)).settle.link
  rw [congrArg State.lnk heff] at hafter
  simp only [State.raise, hlnkTurn, hlnkTx] at hafter
  have hexc : u.seq.exc = false := by rw [hu.exc, hend]
  have hdrive : u.drv.applied.active = false := by rw [hu.drv, State.normalEnd_drv .allowance hs hx]
  exact ⟨hkept.used, hsettle.openApart _ hopen, by rw [hu.state, hend], hexc, hdrive,
    State.raised_three hafter⟩

end Exhaustion

end Sys2Proof.Machine
end

section
/-! What an empty queue brings (O2), and the counting of time (O58). -/

namespace Sys2Proof.Machine

set_option Elab.async false

/-! ### The empty queue (log 2) -/

section EmptyQueue

variable {s : State} (hp : s.pending = []) (hr : s.rst = false)
include hp hr

theorem step_of_due {i : Instr} (hd : s.nextDue = some i) : step s = exec i s := by
  simp [step, hp, State.idle, hr, hd]

theorem step_of_frame {f : RawFrame} (hd : s.nextDue = none) (hf : s.nextFrameIn = some f) :
    step s = s.takeFrame f := by
  simp [step, hp, State.idle, hr, hd, hf]

theorem step_of_nothing (hd : s.nextDue = none) (hf : s.nextFrameIn = none) : step s = .next (s.elapse 1) := by
  simp [step, hp, State.idle, hr, hd, hf]

end EmptyQueue

/-- A frame may be taken only while LNK takes requests. -/
theorem State.closed_of_nextFrameIn {s : State} {f : RawFrame} (h : s.nextFrameIn = some f) : s.closed = false := by
  by_contra hc
  simp [State.nextFrameIn, hc] at h

/-- A frame of another length than its kind calls for is answered BAD_LENGTH while LNK takes requests. -/
theorem State.turnAwayFrame_badLength {s : State} (f : RawFrame) (hc : s.closed = false) :
    s.turnAwayFrame f false = s.readyToTake.answer f.kind.toNat f.tag.toNat .badLength .empty := by
  simp [State.turnAwayFrame, State.turnAway, hc]

/-- A Query of an unknown topic by an allowed actor is answered BAD_ARGUMENT (R187). -/
theorem State.turnAwayFrame_unknownTopic {s : State} {f : RawFrame} {a : Actor} (hc : s.closed = false)
    (hn : s.tenthsDue = 0) (ha : actorOf f.actor.toNat = some a) (hallow : s.permitsActor .anyActor a = true) :
    s.turnAwayFrame f true = (s.heard a).answer 0x0E f.tag.toNat .badArgument .empty := by
  simp only [State.turnAwayFrame, State.takeQuery, if_true]
  rw [State.takeRequest_taken _ _ _ _ _ hc hn ha hallow]
  rfl

/-- Settles O2: each clause is one branch of the idle step, and the two refusals are what LNK makes of such a frame. -/
theorem idleStep : Obligations.IdleStep := by
  refine ⟨fun s hp hr => ?_, fun i s hp hr hd => step_of_due hp hr hd, fun f i s hp hr hd hf hi => ?_,
    fun f s hp hr hd hf hi => ?_, fun f a s hp hr hd hn hf hi ha hallow => ?_,
    fun s hp hr hd hf => step_of_nothing hp hr hd hf⟩
  · simp [step, hp, State.idle, hr]
  · simp only [step_of_frame hp hr hd hf, State.takeFrame, hi]
  · have hc := State.closed_of_nextFrameIn hf
    simp only [step_of_frame hp hr hd hf, State.takeFrame, hi]
    exact congrArg Host.Outcome.next (State.turnAwayFrame_badLength f hc)
  · have hc := State.closed_of_nextFrameIn hf
    simp only [step_of_frame hp hr hd hf, State.takeFrame, hi]
    exact congrArg Host.Outcome.next (State.turnAwayFrame_unknownTopic hc hn ha hallow)

/-! ### Station seconds (R1) -/

/-- A new second begins less than a second after the last one, and so its instant has not come. -/
theorem not_reached_next_second {s : State} (h : (s.clock - s.secondAt).toNat < 1000) :
    reached s.clock (s.secondAt + 1000) = false := by
  have e : s.clock - (s.secondAt + 1000) = s.clock - s.secondAt - 1000 := by bv_omega
  rw [reached, e, decide_eq_false_iff_not]
  generalize s.clock - s.secondAt = d at h
  have hd : (d - 1000).toNat = d.toNat + 4294966296 := by bv_omega
  rw [BitVec.toInt_eq_toNat_cond, hd]
  split <;> omega

/-- Bringing the clock to the next second counts it. -/
theorem State.bringTo_next_second {s : State} (h : (s.clock - s.secondAt).toNat < 1000) :
    (s.bringTo (s.secondAt + 1000)).clock = s.secondAt + 1000 ∧
      (s.bringTo (s.secondAt + 1000)).seconds = s.seconds + 1 ∧
      (s.bringTo (s.secondAt + 1000)).secondAt = s.secondAt + 1000 := by
  have hreach := not_reached_next_second h
  have hclock := State.clock_bringTo hreach
  refine ⟨hclock, ?_⟩
  rw [State.bringTo, hreach, if_neg (by decide)] at hclock ⊢
  generalize (s.secondAt + 1000 - s.clock).toNat = n at hclock ⊢
  have hwhole : ((s.elapse n).clock - s.secondAt).toNat / 1000 = 1 := by
    rw [hclock, add_sub_cancel_left]
    rfl
  change s.seconds + BitVec.ofNat 32 (((s.elapse n).clock - s.secondAt).toNat / 1000) = _ ∧
    s.secondAt + BitVec.ofNat 32 (1000 * (((s.elapse n).clock - s.secondAt).toNat / 1000)) = _
  rw [hwhole]
  exact ⟨rfl, rfl⟩

/-- STATION_SECOND_TICK with no tenth complete brings the clock to the next second, which is counted. -/
theorem exec_stationSecondTick {s : State} (hr : s.rst = false) (h : (s.clock - s.secondAt).toNat < 1000)
    (hn : (s.bringTo (s.secondAt + 1000)).tenthsDue = 0) :
    exec .stationSecondTick s = .next (s.bringTo (s.secondAt + 1000)) := by
  obtain ⟨hclock, -, hat⟩ := State.bringTo_next_second h
  have hcount := State.countSeconds_of_lt (s := s.bringTo (s.secondAt + 1000))
    (by rw [hclock, hat, BitVec.sub_self]; decide)
  simp only [exec, execStationSecondTick, hr, State.onTime_of_none hn, hcount]
  rfl

/-! ### Requests find every complete tenth counted (R165) -/

/-- Every request row of the catalogue is a request that LNK takes. -/
theorem exec_of_asked {c : Instr} {q : Asked} (h : asked c = some q) :
    ∃ f, ∀ s : State, exec c s = .next (s.takeRequest q.kind q.tag q.actor q.who f) := by
  cases c <;> simp only [asked, Option.some.injEq, reduceCtorEq] at h <;> subst h <;> exact ⟨_, fun _ => rfl⟩

/-- Taking a request counts first, and a state in which that is done takes it in the same way. -/
theorem State.takeRequest_onTime {s : State} (kind tag actor : Nat) (who : Allowed) (f : Actor → State → Handled)
    (hc : s.closed = false) (h : s.onTime.tenthsDue = 0) :
    s.onTime.takeRequest kind tag actor who f = s.takeRequest kind tag actor who f := by
  simp [State.takeRequest, hc, State.onTime_of_none h]

/-! ### Occurrences at their instants (R165, R172) -/

/-- An occurrence whose instant stands: the complete tenths come first, and it follows if they leave the instant. -/
theorem State.atInstant_of_due {s : State} {due : State → Option Clock} {t : Clock} (act : State → State)
    (hr : s.rst = false) (hd : due s = some t) :
    s.atInstant due act =
      if due (s.bringTo t).onTime = some t then act (s.bringTo t).onTime else (s.bringTo t).onTime := by
  simp [State.atInstant, hd, hr]

/-- AIR_TIME_TENTH counts the tenths that are complete at its instant. -/
theorem exec_airTimeTenth {s : State} {t : Clock} (hr : s.rst = false) (hd : s.tenthDue = some t) :
    exec .airTimeTenth s = .next (s.bringTo t).onTime := by
  simp [exec, execAirTimeTenth, State.atInstant_of_due id hr hd]

/-- The instant of the next tenth of the transmission on the air. -/
theorem State.tenthDue_of_exciting {s : State} {x : Tx} (hs : s.seq.state = .exciting) (hx : s.seq.tx = some x) :
    s.tenthDue = some (x.excitedAt + BitVec.ofNat 32 (100 * (x.airTime + 1))) := by
  simp [State.tenthDue, hs, hx]

/-- A timer's expiry at its instant, where the tenths counted first leave the timer or stop it. -/
theorem State.onExpirySettled_counted {s : State} {timer : State → Option Timer} {tm : Timer} (act : State → State)
    (hr : s.rst = false) (ht : timer s = some tm) (hn : (s.bringTo tm.due).onTime.tenthsDue = 0) :
    s.onExpirySettled timer act =
      if (timer (s.bringTo tm.due).onTime).map Timer.due = some tm.due then
        (s.bringTo tm.due).onTime.onExpirySettled timer act
      else (s.bringTo tm.due).onTime := by
  have hreach : (s.bringTo tm.due).onTime.bringTo tm.due = (s.bringTo tm.due).onTime :=
    State.bringTo_of_reached (by simp)
  have hd : (timer s).map Timer.due = some tm.due := by rw [ht]; rfl
  unfold State.onExpirySettled State.onExpiry
  rw [State.atInstant_of_due _ hr hd]
  split
  · rename_i hu
    rw [State.atInstant_of_due _ (by simpa using hr) hu, hreach, State.onTime_of_none hn, if_pos hu]
  · rfl

/-! ### Tenths of a holder's transmission (R165, R166) -/

section Holder

variable {s : State} {t : Turn} {k : Nat}

/-- A budget that the tenths do not exhaust, or none, can use them all. -/
theorem State.usable_of_within {w : SlotId}
    (h : ∀ a ∈ (s.identity w).allowance, s.acu.used.read w + k < 10 * a) : s.usable w k = k := by
  cases ha : (s.identity w).allowance with
  | none => simp [State.usable, ha]
  | some a =>
    have := h a ha
    simp [State.usable, ha, State.exhausted, exhausts]
    omega

/-- Tenths within the budget are charged and have no other effect. -/
theorem State.onTime_within (hm : s.memberTx = true) (ht : s.turn = some t) (hk : s.tenthsDue = k)
    (hpos : 0 < k)
    (h : ∀ a ∈ (s.identity t.holder).allowance, s.acu.used.read t.holder + k < 10 * a) (hset : s.settled) :
    s.onTime = s.chargeTenths t.holder k := by
  have hafter : (s.chargeTenths t.holder k).exhausted t.holder = false := by
    cases ha : (s.identity t.holder).allowance with
    | none => simp [State.exhausted, exhausts, ha]
    | some a =>
      have hin := h a ha
      simp [State.exhausted, exhausts, ha]
      omega
  rw [State.onTime_of_due hk hpos, State.airTenths_of_member k ht hm, State.memberTenths_eq,
    State.usable_of_within h, hafter, Bool.and_false, if_neg (by decide)]
  exact State.settle_eq_self (State.settled_chargeTenths _ _ ht hset)

/-- The tenths of a budget that runs out: those up to the exhausting one are charged, and its effects follow. -/
theorem State.onTime_exhausting {a : Nat} (hm : s.memberTx = true) (ht : s.turn = some t)
    (hk : s.tenthsDue = k) (hpos : 0 < k) (ha : (s.identity t.holder).allowance = some a) (hbound : a ≤ 86400)
    (hbefore : s.acu.used.read t.holder < 10 * a) (hafter : 10 * a ≤ s.acu.used.read t.holder + k) :
    let g := s.chargeTenths t.holder (10 * a - s.acu.used.read t.holder)
    g.acu.used.read t.holder = 10 * a ∧ s.onTime = (g.exhaustionEffects t.holder).settle := by
  intro g
  have hused : g.acu.used.read t.holder = 10 * a := by
    simp only [g, State.used_chargeTenths, max32]
    omega
  have hnot : s.exhausted t.holder = false := by simp [State.exhausted, exhausts, ha]; omega
  have husable : s.usable t.holder k = 10 * a - s.acu.used.read t.holder := by
    simp [State.usable, ha, hnot]; omega
  have hnow : g.exhausted t.holder = true := by
    simp [State.exhausted, exhausts, hused, g, ha]
  refine ⟨hused, ?_⟩
  rw [State.onTime_of_due hk hpos, State.airTenths_of_member k ht hm, State.memberTenths_eq, husable, hnot, hnow]
  rfl

end Holder

/-! ### The scan's instant (log 19) -/

/-- The multiple of 10 ms at or before an instant has been reached. -/
theorem reached_floor (c : Clock) : reached c (c - c % 10) = true := by
  have e : c - (c - c % 10) = c % 10 := sub_sub_cancel c _
  have hlt : (c % 10).toNat < 10 := by
    rw [BitVec.toNat_umod]
    exact Nat.mod_lt _ (by decide)
  rw [reached, e, decide_eq_true_iff, BitVec.toInt_eq_toNat_cond]
  split <;> omega

theorem State.scanStart_congr {s t : State} (hc : t.clock = s.clock) (hn : t.msr.nextScan = s.msr.nextScan) :
    t.scanStart = s.scanStart := by
  simp only [State.scanStart, hc, hn]

/-- Bringing the clock to a scan's start leaves the start. -/
theorem State.scanStart_bringTo (s : State) : (s.bringTo s.scanStart).scanStart = s.scanStart := by
  cases h : reached s.clock s.scanStart with
  | true => rw [State.bringTo_of_reached h]
  | false =>
    have hnext : s.scanStart = s.msr.nextScan := by
      by_contra hne
      have hfloor : s.scanStart = s.clock - s.clock % 10 := by
        unfold State.scanStart at hne ⊢
        dsimp only at hne ⊢
        split at hne
        · exact absurd rfl hne
        · rw [if_neg ‹_›]
      rw [hfloor, reached_floor] at h
      cases h
    have hclock := State.clock_bringTo h
    rw [hnext] at hclock ⊢
    simp only [State.scanStart, hclock, State.bringTo_msr, reached_floor, if_true]

/-! ### Residency (R168) -/

@[simp] theorem resOf_resIndex (q : Residency) : resOf (resIndex q) = q := by cases q <;> rfl

/-- Passing time passes in a counter whose condition holds. -/
theorem State.counter_elapse {s : State} {q : Residency} (n : Nat) (h : s.resides q = true) :
    (s.elapse n).acu.counters.read (resIndex q) = (s.acu.counters.read (resIndex q)).pass n := by
  change (s.countersAfter n).read _ = _
  simp [State.countersAfter, h]

/-- RESIDENCY_TENTH, once the complete tenths of air time are counted, adds the tenth that the passing time completes. -/
theorem exec_residencyTenth {s : State} (q : Residency) (hr : s.rst = false) :
    exec (.residencyTenth q) s = .next ((s.toTenth q).onTime.addTenth q) := by
  simp [exec, execResidencyTenth, hr]

/-- With a tenth that waits no time passes. -/
theorem State.toTenth_of_owed {s : State} {q : Residency} (h : 0 < (s.acu.counters.read (resIndex q)).owed) :
    s.toTenth q = s := by
  simp [State.toTenth, Nat.ne_of_gt h]

/-- A waiting tenth below the counter's top is added. -/
theorem State.addTenth_of_owed {s : State} {q : Residency} {k : Counter}
    (hk : s.acu.counters.read (resIndex q) = k) (ho : 0 < k.owed) (hv : k.value + 1 < max32) :
    s.addTenth q = s.setCounter (resIndex q) ⟨k.value + 1, k.remainder, k.owed - 1⟩ := by
  have htop : k.value < max32 := by omega
  simp [State.addTenth, hk, ho, htop, Counter.tenth, Nat.ne_of_lt hv]

/-- The time that a counter's tenth still needs passes, and the tenth is added. -/
theorem exec_residencyTenth_passing {s : State} {q : Residency} {k : Counter} (hr : s.rst = false)
    (hq : s.resides q = true) (hk : s.acu.counters.read (resIndex q) = k) (ho : k.owed = 0)
    (hv : k.value + 1 < max32) (hm : k.remainder < 100) (hn : (s.elapse (100 - k.remainder)).tenthsDue = 0) :
    exec (.residencyTenth q) s =
      .next ((s.elapse (100 - k.remainder)).setCounter (resIndex q) ⟨k.value + 1, 0, 0⟩) := by
  have hbelow : k.value < max32 := by omega
  have hpass : k.pass (100 - k.remainder) = ⟨k.value, 0, 1⟩ := by
    simp [Counter.pass, Nat.ne_of_lt hbelow, Nat.add_sub_cancel' hm.le, ho]
  have hto : s.toTenth q = s.elapse (100 - k.remainder) := by simp [State.toTenth, hk, ho, hbelow, hq]
  have hread := State.counter_elapse (100 - k.remainder) hq
  rw [hk, hpass] at hread
  rw [exec_residencyTenth q hr, hto, State.onTime_of_none hn, State.addTenth_of_owed hread Nat.one_pos hv]
  rfl

/-! ### The tenths come first (R165, R172) -/

theorem exec_inputLevelChange {s : State} (c : LevelChange) (hr : s.rst = false) :
    exec (.inputLevelChange c) s = .next (s.onTime.levelChanges c).settle := by
  simp [exec, execInputLevelChange, hr]

theorem exec_scanCompletion {s : State} (f r pa pt vs : Code) (hr : s.rst = false) :
    exec (.scanCompletion f r pa pt vs) s = .next (s.completeScan f r pa pt vs).settle := by
  simp [exec, execScanCompletion, hr]

/-- A scan counts the tenths first that are complete at its start. -/
theorem State.completeScan_onTime {s : State} (f r pa pt vs : Code)
    (hn : (s.bringTo s.scanStart).onTime.tenthsDue = 0) :
    (s.bringTo s.scanStart).onTime.completeScan f r pa pt vs = s.completeScan f r pa pt vs := by
  have hstart : (s.bringTo s.scanStart).onTime.scanStart = s.scanStart :=
    (State.scanStart_congr (by simp) (by simp)).trans s.scanStart_bringTo
  have hback : (s.bringTo s.scanStart).onTime.bringTo s.scanStart = (s.bringTo s.scanStart).onTime :=
    State.bringTo_of_reached (by simp)
  simp only [State.completeScan, hstart, hback, State.onTime_of_none hn]

/-- The exhausting tenth, at its instant or later, ends the holder's transmission and its turn (R166). -/
theorem State.onTime_ends {s : State} {x : Tx} {t : Turn} {k a : Nat} (hm : s.memberExciting = true)
    (hx : s.seq.tx = some x) (ht : s.turn = some t) (hk : s.tenthsDue = k) (hpos : 0 < k)
    (ha : (s.identity t.holder).allowance = some a) (hbound : a ≤ 86400)
    (hbefore : s.acu.used.read t.holder < 10 * a) (hafter : 10 * a ≤ s.acu.used.read t.holder + k)
    (htail : s.seq.active.tail ≠ 0) :
    s.onTime.acu.used.read t.holder = 10 * a ∧ s.onTime.OpenApart t.holder ∧
      s.onTime.seq.state = .drain ∧ s.onTime.seq.exc = false ∧ s.onTime.drv.applied.active = false ∧
      s.raised s.onTime (.txEnded x.kind .allowance (x.airTime + (10 * a - s.acu.used.read t.holder)) s.msr.peak) ∧
      s.raised s.onTime (.turnEnded t.holder .allowance false) ∧
      s.raised s.onTime (.allowanceExhausted t.holder a (10 * a) .opened) := by
  obtain ⟨hused, hon⟩ := State.onTime_exhausting (State.memberExciting_iff.mp hm).2 ht hk hpos ha hbound hbefore hafter
  have hcharge := State.chargeTenths_eq t.holder (10 * a - s.acu.used.read t.holder) hx ht
  obtain ⟨hacu, hopen, hstate, hexc, hdrive, hraised⟩ := State.exhaustion_settles
    (s := s.chargeTenths t.holder (10 * a - s.acu.used.read t.holder))
    (x := { x with airTime := x.airTime + (10 * a - s.acu.used.read t.holder) })
    (t := { t with airTime := t.airTime + (10 * a - s.acu.used.read t.holder) })
    (by rw [hcharge]; rfl) (by simpa using hm) (by rw [hcharge]) (by rw [hcharge]; exact htail)
  rw [hon]
  refine ⟨by rw [hacu, hused], hopen, hstate, hexc, hdrive, ?_⟩
  simpa only [State.raised, State.chargeTenths_lnk, State.chargeTenths_msr, State.identity_chargeTenths, ha, hused,
    Option.getD_some] using hraised

/-- Settles O58: the instants that stand bring the clock forward and count, and what is counted first is found counted
by every row that asks for it. -/
theorem timeIsCounted : Obligations.TimeIsCounted := by
  refine ⟨fun n s => ⟨rfl, rfl, ?_⟩, ?_, ?_, ?_, ?_, ?_, ?_, ?_, ?_, ?_, ?_, ?_⟩
  · exact (State.countSeconds_counts _).trans_lt (Nat.mod_lt _ (by decide))
  · intro s hr hlt hn
    obtain ⟨hclock, hseconds, hat⟩ := State.bringTo_next_second hlt
    exact ⟨_, exec_stationSecondTick hr hlt hn, hseconds, hat, hclock, State.bringTo_frame _ s,
      State.bringTo_acu _ s⟩
  · intro x w tn k s h hr hm hx ht hw hpos hk hin hset
    subst hw
    obtain ⟨hs, hm⟩ := State.memberExciting_iff.mp hm
    have hon : h.onTime = h.chargeTenths tn.holder k := State.onTime_within (by simpa [h] using hm)
      (by simpa [h] using ht) hk hpos (by simpa [h, State.identity] using hin) (State.settled_bringTo _ hset)
    rw [exec_airTimeTenth hr (State.tenthDue_of_exciting hs hx), hon,
      State.chargeTenths_eq _ _ (by simpa [h] using hx) (by simpa [h] using ht)]
    rfl
  · intro x w tn k a s h hr hm hx ht hw _ hpos hk ha hbound hbefore hafter htail _
    subst hw
    obtain ⟨hs, hm'⟩ := State.memberExciting_iff.mp hm
    obtain ⟨hused, hopen, hstate, hexc, hdrive, hraised⟩ := State.onTime_ends (s := h)
      (by simpa [h, State.memberExciting] using hm) (by simpa [h] using hx) (by simpa [h] using ht) hk hpos
      (by simpa [h, State.identity] using ha) hbound (by simpa [h] using hbefore) (by simpa [h] using hafter)
      (by simpa [h] using htail)
    exact ⟨_, exec_airTimeTenth hr (State.tenthDue_of_exciting hs hx), hused, hopen.opened, hopen.apart, hstate, hexc,
      hdrive, hraised⟩
  · intro x k s h hr hs hx hm hpos hk hset
    have hon : h.onTime = h.addAir k := by
      rw [State.onTime_of_due hk hpos, State.airTenths_of_ident k (by simpa [h] using hm)]
      exact State.settle_eq_self (State.settled_addAir k (State.settled_bringTo _ hset))
    rw [exec_airTimeTenth hr (State.tenthDue_of_exciting hs hx), hon]
    simp [State.addAir, State.modTx, h, hx]
  · intro q s hr hq ho hv hrem hn
    exact ⟨_, exec_residencyTenth_passing hr hq rfl ho hv hrem hn, Table.read_write_same _ _ _, rfl, rfl⟩
  · intro q k s hr hn hk ho hv
    rw [exec_residencyTenth q hr, State.toTenth_of_owed (by rw [hk]; exact ho), State.onTime_of_none hn,
      State.addTenth_of_owed hk ho hv]
    rfl
  · intro c q d s u hc hopen hd hreach _ hn
    obtain ⟨f, hf⟩ := exec_of_asked hc
    have hr : s.rst = false := by
      simp only [State.closed, Bool.or_eq_false_iff] at hopen
      exact hopen.1
    refine ⟨?_, ?_⟩
    · rw [exec_airTimeTenth hr hd, State.bringTo_of_reached hreach]
    · rw [hf, hf, State.takeRequest_onTime _ _ _ _ f hopen hn]
  · intro c d s u hr _ _ _ hn
    rw [exec_inputLevelChange c hr, exec_inputLevelChange c (by simpa [u] using hr), State.onTime_of_none hn]
  · intro q d s u hr ho _ _ _ hn
    have ho' : 0 < (u.acu.counters.read (resIndex q)).owed := by simpa [u] using ho
    rw [exec_residencyTenth q hr, exec_residencyTenth q (by simpa [u] using hr), State.toTenth_of_owed ho,
      State.toTenth_of_owed ho', State.onTime_of_none hn]
  · intro f r pa pt vs d s h u hr _ _ _ hn
    have hr' : u.rst = false := by simpa [u, h] using hr
    rw [exec_scanCompletion f r pa pt vs hr, exec_scanCompletion f r pa pt vs hr',
      State.completeScan_onTime f r pa pt vs hn]
  · intro tm d s h u hr htm _ _ _ hn
    simp only [exec, execTxLimitExpiry]
    rw [State.onExpirySettled_counted _ hr htm hn]
    split <;> rfl

end Sys2Proof.Machine
end

section
/-! What the operations of a step leave of ARB while no slot is granted the transmitter and no turn ends, and what settling
does to a slot that is not eligible. -/

namespace Sys2Proof.Machine

/-! ### The terms of a turn (R31) -/

/-- A turn without what moves in its course: the sub-state, the counts, the pending start and the idle hang. -/
def Turn.terms (t : Turn) : Turn :=
  { t with sub := .active, txCount := 0, airTime := 0, pendingStart := false, idleStart := none }

/-- The arbiter state without what moves in the course of a turn. -/
def Arbiter.terms : Arbiter → Arbiter
  | .turn t => .turn t.terms
  | a => a

/-- ARB without what moves in the course of a turn. -/
def State.tenure (s : State) : Arb := { s.arb with arbiter := s.arb.arbiter.terms }

/-- From `h` to `s` no slot was granted and no turn ended: of ARB at most the course of the turn moved, the due flag is as
it was, no cycle came to CLOSING, and PRT stayed. -/
structure State.Lasts (h s : State) : Prop where
  tenure : s.tenure = h.tenure
  due : s.idu.due = h.idu.due
  closing : s.idu.cycle = .closing → h.idu.cycle = .closing
  prt : s.prt = h.prt

namespace State.Lasts

variable {h s t : State}

theorem refl (s : State) : s.Lasts s := ⟨rfl, rfl, id, rfl⟩

theorem trans (a : h.Lasts s) (b : s.Lasts t) : h.Lasts t :=
  ⟨b.tenure.trans a.tenure, b.due.trans a.due, a.closing ∘ b.closing, b.prt.trans a.prt⟩

/-! #### What is read from it -/

theorem slots (e : h.Lasts s) : s.arb.slots = h.arb.slots := congrArg (·.slots) e.tenure
theorem ranks (e : h.Lasts s) : s.arb.ranks = h.arb.ranks := congrArg (·.ranks) e.tenure
theorem presence (e : h.Lasts s) : s.arb.presence = h.arb.presence := congrArg (·.presence) e.tenure
theorem gap (e : h.Lasts s) : s.arb.gap = h.arb.gap := congrArg (·.gap) e.tenure
theorem arbiterTerms (e : h.Lasts s) : s.arb.arbiter.terms = h.arb.arbiter.terms := congrArg (·.arbiter) e.tenure

theorem tenancy (e : h.Lasts s) (w : SlotId) : s.tenancy w = h.tenancy w := by
  simp only [State.tenancy, e.slots]

/-- The turn keeps its terms. -/
theorem turnTerms (e : h.Lasts s) : s.turn.map Turn.terms = h.turn.map Turn.terms := by
  have key (u : State) : u.turn.map Turn.terms =
      match u.arb.arbiter.terms with | .turn t => some t | _ => none := by
    unfold State.turn; cases u.arb.arbiter <;> rfl
  rw [key, key, e.arbiterTerms]

theorem holder (e : h.Lasts s) : s.holder = h.holder := by
  have key (u : State) : u.holder = (u.turn.map Turn.terms).map (·.holder) := by
    simp [State.holder, Function.comp_def, Turn.terms]
  rw [key, key, e.turnTerms]

/-- Without a turn the arbiter state stays. -/
theorem arbiter (e : h.Lasts s) (ht : h.turn = none) : s.arb.arbiter = h.arb.arbiter := by
  have key := e.arbiterTerms
  unfold State.turn at ht
  cases hs : s.arb.arbiter <;> cases hh : h.arb.arbiter <;> simp_all [Arbiter.terms]

/-- Without a turn ARB stays. -/
theorem arb (e : h.Lasts s) (ht : h.turn = none) : s.arb = h.arb := by
  have key : { s.tenure with arbiter := s.arb.arbiter } = { h.tenure with arbiter := h.arb.arbiter } := by
    rw [e.tenure, e.arbiter ht]
  exact key

/-! #### Small changes -/

/-- A change outside ARB and PRT that leaves IDU's due flag and cycle state. -/
theorem same (e : h.Lasts s) (ha : t.arb = s.arb := by rfl) (hd : t.idu.due = s.idu.due := by rfl)
    (hc : t.idu.cycle = s.idu.cycle := by rfl) (hp : t.prt = s.prt := by rfl) : h.Lasts t :=
  e.trans ⟨by simp only [State.tenure, ha], hd, fun k => hc ▸ k, hp⟩

theorem ite {c : Prop} [Decidable c] {a b : State} (ha : h.Lasts a) (hb : h.Lasts b) :
    h.Lasts (if c then a else b) := by split <;> assumption

/-- A change of the turn context that keeps its terms. -/
theorem modTurn (e : h.Lasts s) (f : Turn → Turn) (hf : ∀ t, (f t).terms = t.terms := by exact fun _ => rfl) :
    h.Lasts (s.modTurn f) := by
  unfold State.modTurn
  split
  · rename_i t ht
    refine e.trans ⟨?_, rfl, id, rfl⟩
    simp only [State.tenure, State.turn_eq_some.mp ht, Arbiter.terms, hf]
  · exact e

theorem raise (e : h.Lasts s) (r : Report) : h.Lasts (s.raise r) := e.same

theorem writeRecord (e : h.Lasts s) (r : TurnRec) : h.Lasts (s.writeRecord r) := .ite e e.same

theorem syncKey (e : h.Lasts s) : h.Lasts s.syncKey := e.same

theorem flushTurnKeys (e : h.Lasts s) : h.Lasts s.flushTurnKeys := e.same

theorem startAmpIdle (e : h.Lasts s) : h.Lasts s.startAmpIdle := .ite e.same e

/-! #### Starts and ends of transmissions -/

theorem enterArmRelay (e : h.Lasts s) : h.Lasts s.enterArmRelay := e.same

theorem takeStart (e : h.Lasts s) : h.Lasts s.takeStart := by
  unfold State.takeStart; split
  · exact e
  · exact (e.same.modTurn _).enterArmRelay

theorem takeIdStart (e : h.Lasts s) : h.Lasts s.takeIdStart := by
  unfold State.takeIdStart; split
  · exact e.same
  · exact e

theorem takePending (e : h.Lasts s) : h.Lasts s.takePending := by
  unfold State.takePending; split
  · exact .ite e.takeStart e
  · exact e

theorem computeDrive (e : h.Lasts s) : h.Lasts s.computeDrive := by
  unfold State.computeDrive; split
  · exact e
  · split
    · exact e
    · exact e.same

/-- A cycle that begins to send is not CLOSING. -/
theorem beginSending (e : h.Lasts s) : h.Lasts s.beginSending := by
  unfold State.beginSending; split
  · unfold State.startElement
    exact e.trans ⟨rfl, rfl, nofun, rfl⟩
  · exact e

theorem enterExciting (e : h.Lasts s) : h.Lasts s.enterExciting := by
  unfold State.enterExciting; split
  · exact e
  · dsimp only
    generalize hq : State.computeDrive _ = q
    have e : h.Lasts q := by rw [← hq]; exact State.Lasts.computeDrive e.same
    exact .syncKey (.ite (.raise (.ite e.same e) _) (.beginSending (.raise (.ite e.same e) _)))

theorem disarm (e : h.Lasts s) : h.Lasts s.disarm := .ite e.same e.same

theorem abandonArming (e : h.Lasts s) (c : TxEndCause) : h.Lasts (s.abandonArming c) := .disarm e.same

theorem enterRetune (e : h.Lasts s) (b : BandId) : h.Lasts (s.enterRetune b) := e.same

theorem askRetune (e : h.Lasts s) (b : BandId) : h.Lasts (s.askRetune b) := .ite (e.enterRetune b) e.same

/-! #### Claims and cycles -/

theorem beginCycle (e : h.Lasts s) (c : CycleHome) : h.Lasts (s.beginCycle c) := by
  have e : h.Lasts { s with idu := { s.idu with
      cycle := .starting, context := some ⟨s.seconds, [], 0, 0, c, [], false⟩, startWaits := true } } :=
    e.trans ⟨rfl, rfl, nofun, rfl⟩
  exact .ite e.takeIdStart e

theorem claimPause (e : h.Lasts s) : h.Lasts s.claimPause := by
  have e := (e.modTurn fun t => { t with sub := .paused, idleStart := none }).flushTurnKeys
  exact .ite (.beginCycle e.same _) e.same

theorem claimTurn (e : h.Lasts s) : h.Lasts s.claimTurn := by
  unfold State.claimTurn; split
  · exact e
  · split
    · exact .ite e.same e.claimPause
    · exact e.same
    · exact e

theorem enterActive (e : h.Lasts s) : h.Lasts s.enterActive := by
  have e := (e.modTurn fun t => { t with sub := .active }).syncKey
  exact .ite e.claimPause e.takePending

theorem enterGranted (e : h.Lasts s) (r : RequestRec) : h.Lasts (s.enterGranted r) := by
  have e' := e.flushTurnKeys.askRetune r.band
  exact .ite (.ite e.claimTurn e.enterActive) (.ite e'.claimTurn e')

theorem abandonCycle (e : h.Lasts s) : h.Lasts s.abandonCycle := by
  unfold State.abandonCycle; split
  · exact (e.writeRecord _).trans ⟨rfl, rfl, nofun, rfl⟩
  · exact e

theorem dropAbandons (e : h.Lasts s) : h.Lasts s.dropAbandons := by
  unfold State.dropAbandons; refine .ite ?_ e
  split
  · exact e.abandonCycle.beginCycle _
  · exact e

/-- The end of a transmission ends the turn only where it completes an over (R37). -/
theorem tellExit (e : h.Lasts s) {c : TxEndCause} (left : Bool) (hc : completesOver c = false) :
    h.Lasts (s.tellExit c left) := by
  simp only [State.tellExit, hc, Bool.and_false, Bool.false_and, Bool.false_eq_true, if_false]
  exact .ite (.ite e.claimPause e) (.ite e.dropAbandons e)

/-- A cut outside EXCITING ends no turn (R69). -/
theorem cut (e : h.Lasts s) (c : CutCause) (hs : s.seq.state ≠ .exciting) : h.Lasts (s.cut c) := by
  have hc : completesOver (cutEnd c) = false := by cases c <;> rfl
  unfold State.cut
  dsimp only
  generalize hq : State.cutFlush c _ = q
  have key : h.Lasts q ∧ q.seq.state = s.seq.state := by
    rw [← hq]
    have e : h.Lasts s.clearPending := e.modTurn _
    have hclear : s.clearPending.seq = s.seq := State.modTurn_seq _ s
    unfold State.cutFlush; split
    · split
      · exact ⟨e.same, congrArg (·.state) hclear⟩
      · exact ⟨e.same, congrArg (·.state) hclear⟩
    · exact ⟨e.same, congrArg (·.state) hclear⟩
  obtain ⟨e, hstate⟩ := key
  split
  · exact e
  · exact e
  · exact e
  · exact e
  · exact (e.abandonArming _).tellExit _ hc
  · exact (e.abandonArming _).tellExit _ hc
  · rename_i hx
    exact absurd (hstate.symm.trans hx) hs
  · exact e.disarm

/-! #### The waits' ends -/

/-- The end of a cycle reaches ARB only from an ID turn (R160). -/
theorem closeCycle (e : h.Lasts s) (n : Nat) (hid : s.arb.arbiter = .idTurn → s.idu.cycle ≠ .closing) :
    h.Lasts (s.closeCycle n) := by
  unfold State.closeCycle; split
  · rename_i c hc _
    have hid : s.arb.arbiter ≠ .idTurn := fun k => hid k hc
    dsimp only
    generalize hq : ({ s.writeRecord (s.idRecord c n .complete) with idu := _ } : State) = q
    have e : h.Lasts q := by rw [← hq]; exact (e.writeRecord _).trans ⟨rfl, rfl, nofun, rfl⟩
    have hq' : q.arb = s.arb := by rw [← hq]; exact State.writeRecord_arb _ s
    split
    · exact e.enterActive
    · rwa [State.idTurnOver, if_pos (by rwa [hq'])]
    · exact e
  · exact e

theorem enterArmAmp (e : h.Lasts s) : h.Lasts s.enterArmAmp := .ite (.ite e.same (.cut e.same _ nofun)) e.same

theorem restartIdle (e : h.Lasts s) : h.Lasts s.restartIdle :=
  e.modTurn _ fun t => by split <;> rfl

theorem syncIdle (e : h.Lasts s) : h.Lasts s.syncIdle := e.modTurn _

theorem syncQuiet (e : h.Lasts s) : h.Lasts s.syncQuiet := e.same

end State.Lasts

/-- SEQ as it enters QUIET, before the cycle closes (R63). -/
def State.overAndOut (s : State) : State := { s with seq := { s.seq with tx := none, step := none } }

/-- Once the cycle is closed QUIET entry grants nothing and ends no turn. -/
theorem State.enterQuiet_lasts (s : State) : (s.overAndOut.closeCycle s.txAirTime).Lasts s.enterQuiet := by
  unfold State.enterQuiet State.overAndOut
  dsimp only
  generalize State.closeCycle _ _ = x
  have e : x.Lasts x.swapProfile := .ite (.same (.refl x)) (.refl x)
  generalize hq : State.startAmpIdle _ = q
  have e : x.Lasts q := by rw [← hq]; exact .startAmpIdle e.same
  split
  · exact e.enterRetune _
  · exact .ite e.takeIdStart e.takePending

/-- Nor does what follows QUIET entry at the end of a band settle. -/
theorem State.settleBand_lasts (s : State) :
    (State.enterQuiet { s with seq := { s.seq with retuneBand := none, retuneCurrent := false } }).Lasts s.settleBand := by
  unfold State.settleBand
  dsimp only
  generalize State.enterQuiet _ = q
  cases s.seq.retuneBand with
  | none => exact .ite (.enterActive (.refl q)) (.refl q)
  | some b => exact .ite (State.Lasts.raise (.refl q) _).enterActive (.raise (.refl q) _)

namespace State.Lasts

variable {h s t : State} (hid : s.arb.arbiter = .idTurn → s.idu.cycle ≠ .closing)
include hid

theorem enterQuiet (e : h.Lasts s) : h.Lasts s.enterQuiet :=
  (State.Lasts.closeCycle (s := s.overAndOut) e.same _ hid).trans s.enterQuiet_lasts

/-- The end of a wait grants nothing and ends no turn, but where it closes the cycle of an ID turn. -/
theorem advance (e : h.Lasts s) : h.Lasts s.advance := by
  unfold State.advance; split
  · refine .trans ?_ s.settleBand_lasts
    exact .enterQuiet hid e.same
  · exact e.enterArmAmp
  · exact e.enterExciting
  · exact e.same
  · exact e.same
  · refine .enterQuiet (fun k => ?_) e.restartIdle
    have hs := (State.Lasts.refl s).restartIdle
    have ht : s.arb.arbiter = .idTurn := by
      have key := hs.arbiterTerms
      rw [k] at key
      cases ha : s.arb.arbiter <;> simp_all [Arbiter.terms]
    exact fun c => hid ht (hs.closing c)
  · exact e
  · exact e

end State.Lasts

/-- Settling grants nothing and ends no turn while the gap takes time, no due identification finds the transmitter free,
and no ID turn is about to close. -/
theorem State.lasts_settle {s : State} (hg : zeroLength s.arb.gap = false)
    (hd : s.idu.due = true → s.arb.arbiter ≠ .free ∧ s.arb.arbiter ≠ .gap)
    (hid : s.arb.arbiter = .idTurn → s.idu.cycle ≠ .closing) : s.Lasts s.settle := by
  refine State.settle_induct (P := s.Lasts) (fun u t ht e => ?_) (fun _ e => e.syncIdle) (fun _ e => e.syncQuiet) (.refl s)
  have hterms := e.arbiterTerms
  rcases State.settleStep_cases ht with ⟨hdue, hopen, -⟩ | ⟨hgap, -⟩ | ⟨-, rfl⟩
  · obtain ⟨hfree, hgap⟩ := hd (e.due ▸ hdue)
    have hu : u.arb.arbiter = .free ∨ u.arb.arbiter = .gap := by
      simp only [State.idTurnOpen, Bool.and_eq_true, decide_eq_true_eq] at hopen
      exact hopen.1.1.1
    cases hs : s.arb.arbiter <;> rcases hu with hu | hu <;> simp_all [Arbiter.terms]
  · rw [e.gap, hg] at hgap
    cases hgap
  · refine State.Lasts.advance (s := { u with seq := { u.seq with step := none } }) (fun hu c => ?_) e.same
    have hs : s.arb.arbiter = .idTurn := by
      change u.arb.arbiter = .idTurn at hu
      rw [hu] at hterms
      cases hs : s.arb.arbiter <;> simp_all [Arbiter.terms]
    exact hid hs (e.closing c)

/-- While a turn stands and no gap of 0 ms does, settling leaves the turn. -/
theorem State.lasts_settle_of_turn {s : State} {t : Turn} (ht : s.turn = some t) (hg : zeroLength s.arb.gap = false) :
    s.Lasts s.settle := by
  have ha := State.turn_eq_some.mp ht
  exact State.lasts_settle hg (by simp [ha]) (by simp [ha])

/-! ### The grant (R30) -/

@[simp] theorem State.ampAtGrant_arb (u : Nat) (s : State) : (s.ampAtGrant u).arb = s.arb := by
  unfold State.ampAtGrant State.warmAmp State.startAmpIdle
  split
  · cases s.amg.state <;> dsimp only <;> split <;> (try split) <;> rfl
  · rfl

/-- ARB after the first steps of a grant. -/
theorem State.grantSteps_arb (w : SlotId) (r : RequestRec) (s : State) : (s.grantSteps w r).arb = { s.arb with
    slots := s.arb.slots.write w .holding, ranks := rotate s.arb.ranks w, arbiter := .turn (s.newTurn w r), gap := none } := by
  simp only [State.grantSteps, State.raise_arb, State.ampAtGrant_arb]
  rfl

/-- The other steps of a grant leave what its first steps made of ARB, but for the course of the turn. -/
theorem State.grantRequest_lasts (w : SlotId) (r : RequestRec) (s : State) :
    (s.grantSteps w r).Lasts (s.grantRequest w r) := .enterGranted (.refl _) r

/-! ### A slot that is not eligible -/

/-- From `h` to `s` slot `w` stood: its tenancy and its presence timer are as they were, and it was not granted. -/
structure State.Stands (w : SlotId) (h s : State) : Prop extends h.Evolves s where
  tenancy : s.tenancy w = h.tenancy w
  presence : s.arb.presence.read w = h.arb.presence.read w
  apart : h.holder ≠ some w → s.holder ≠ some w

namespace State.Stands

variable {w : SlotId} {h s t : State}

theorem refl (s : State) : s.Stands w s := ⟨.refl s, rfl, rfl, id⟩

theorem trans (a : h.Stands w s) (b : s.Stands w t) : h.Stands w t :=
  ⟨a.toEvolves.trans b.toEvolves, b.tenancy.trans a.tenancy, b.presence.trans a.presence, b.apart ∘ a.apart⟩

theorem ite {c : Prop} [Decidable c] {a b : State} (ha : h.Stands w a) (hb : h.Stands w b) :
    h.Stands w (if c then a else b) := by split <;> assumption

/-- Where nothing is granted and no turn ends every slot stands. -/
theorem lasts (e : h.Stands w s) (l : s.Lasts t) (ev : h.Evolves t) : h.Stands w t :=
  ⟨ev, (l.tenancy w).trans e.tenancy, by rw [l.presence, e.presence], by rw [l.holder]; exact e.apart⟩

/-- A slot that stands is eligible as it was. -/
theorem eligible (e : h.Stands w s) : s.eligible w = h.eligible w := by
  have hclt := congrArg (·.clt) e.fixed
  have hbands := congrArg (·.bands) e.fixed
  have hused := e.used
  simp only [State.fixed] at hclt hbands
  simp only [State.eligible, e.tenancy, State.permit, State.exhausted, State.identity, State.classOf, hclt, hbands, hused]

/-- The arbiter's states without a turn grant nothing. -/
theorem setArbiter {a : Arbiter} (e : h.Stands w s) (ha : (s.setArbiter a).turn = none) : h.Stands w (s.setArbiter a) :=
  e.trans ⟨.setArbiter (.refl s) a, rfl, rfl, fun _ => by simp [State.holder, ha]⟩

variable (hw : s.eligible w = false)
include hw

/-- A grant goes to a slot that is eligible. -/
theorem arbitrate : s.Stands w s.arbitrate := by
  unfold State.arbitrate
  split
  · rename_i v hv
    have hwin : s.winner = some v := by
      cases hr : s.ready <;> simp_all
    have hne : w ≠ v := by
      rintro rfl
      rw [State.winner_eligible hwin] at hw
      cases hw
    unfold State.grant
    split
    · rename_i r _
      have hl := s.grantRequest_lasts v r
      have harb := s.grantSteps_arb v r
      have hholder : (s.grantSteps v r).holder = some v := by simp [State.holder, State.turn, harb, State.newTurn]
      exact ⟨.grantRequest (.refl s) v r, by rw [hl.tenancy, State.tenancy, harb, Table.read_write_other _ _ hne]; rfl,
        by rw [hl.presence, harb], fun _ => by rw [hl.holder, hholder]; simpa using Ne.symm hne⟩
    · exact .refl s
  · exact .setArbiter (.refl s) rfl

theorem stopGap_arbitrate : s.Stands w s.stopGap.arbitrate :=
  .trans (t := s.stopGap.arbitrate) ⟨.stopGap (.refl s), rfl, rfl, id⟩ (.arbitrate (s := s.stopGap) hw)

theorem idTurnOver : s.Stands w s.idTurnOver := by
  unfold State.idTurnOver
  exact .ite (.refl s) (.ite (.ite (.arbitrate hw) (.ite (.stopGap_arbitrate hw) (.setArbiter (.refl s) rfl)))
    (.ite (.setArbiter (.refl s) rfl) (.setArbiter (.refl s) rfl)))

theorem closeCycle (n : Nat) : s.Stands w (s.closeCycle n) := by
  have ev := (State.Evolves.refl s).closeCycle n
  unfold State.closeCycle at ev ⊢
  split at ev
  · rename_i c _ _
    have e : s.Stands w { s.writeRecord (s.idRecord c n .complete) with
        idu := { (s.writeRecord (s.idRecord c n .complete)).idu with cycle := .idle, context := none, claim := .none } } :=
      .lasts (.refl s) (State.Lasts.writeRecord (.refl s) _ |>.trans ⟨rfl, rfl, nofun, rfl⟩) (.same (.writeRecord (.refl s) _))
    dsimp only at ev ⊢
    split at ev
    · exact e.lasts (.enterActive (.refl _)) ev
    · exact e.trans (.idTurnOver (e.eligible.trans hw))
    · exact e
  · exact .refl s

theorem enterQuiet : s.Stands w s.enterQuiet := by
  have e : s.Stands w s.overAndOut := .lasts (.refl s) (.same (.refl s)) (.same (.refl s))
  exact .lasts (e.trans (.closeCycle (e.eligible.trans hw) _)) s.enterQuiet_lasts (.enterQuiet (.refl s))

theorem advance : s.Stands w s.advance := by
  have ev := (State.Evolves.refl s).advance
  unfold State.advance at ev ⊢
  split at ev
  · have e : s.Stands w { s with seq := { s.seq with retuneBand := none, retuneCurrent := false } } :=
      .lasts (.refl s) (.same (.refl s)) (.same (.refl s))
    exact .lasts (e.trans (.enterQuiet (e.eligible.trans hw))) s.settleBand_lasts ev
  · exact .lasts (.refl s) (.enterArmAmp (.refl s)) ev
  · exact .lasts (.refl s) (.enterExciting (.refl s)) ev
  · exact .lasts (.refl s) (.same (.refl s)) ev
  · exact .lasts (.refl s) (.same (.refl s)) ev
  · have e : s.Stands w s.restartIdle := .lasts (.refl s) (.restartIdle (.refl s)) (.restartIdle (.refl s))
    exact e.trans (.enterQuiet (e.eligible.trans hw))
  · exact .refl s
  · exact .refl s

theorem settleStep (ht : s.settleStep = some t) : s.Stands w t := by
  rcases State.settleStep_cases ht with ⟨-, -, rfl⟩ | ⟨-, rfl⟩ | ⟨-, rfl⟩
  · exact .lasts (.setArbiter (.refl s) rfl) (.beginCycle (.refl _) _) (.enterIdTurn (.refl s))
  · exact .ite (.stopGap_arbitrate hw) ⟨.stopGap (.refl s), rfl, rfl, id⟩
  · have e : s.Stands w { s with seq := { s.seq with step := none } } :=
      .lasts (.refl s) (.same (.refl s)) (.same (.refl s))
    exact e.trans (.advance (e.eligible.trans hw))

end State.Stands

/-- Settling leaves the slots that are not eligible as they are. -/
theorem State.stands_settle {s : State} {w : SlotId} (hw : s.eligible w = false) : s.Stands w s.settle := by
  refine State.settle_induct (P := s.Stands w) (fun u t ht e => ?_) (fun u e => ?_) (fun u e => ?_) (.refl s)
  · exact e.trans (.settleStep (e.eligible.trans hw) ht)
  · exact e.lasts (.syncIdle (.refl u)) e.toEvolves.syncIdle
  · exact e.lasts (.syncQuiet (.refl u)) e.toEvolves.syncQuiet

theorem State.not_eligible_of_record {s : State} {w : SlotId} (h : (s.tenancy w).record = none) : s.eligible w = false := by
  simp [State.eligible, h]

theorem State.not_eligible_of_exhausted {s : State} {w : SlotId} (h : s.exhausted w = true) : s.eligible w = false := by
  unfold State.eligible
  split <;> simp [h]

/-- A slot that is OPEN apart from the turn is so after settling. -/
theorem State.OpenApart.settle {s : State} {w : SlotId} (o : s.OpenApart w) : s.settle.OpenApart w := by
  have e := State.stands_settle (State.not_eligible_of_record (by rw [o.opened]; rfl))
  exact ⟨e.tenancy.trans o.opened, e.apart o.apart⟩

/-! ### The turn end (R35, R36, R38) -/

/-- ARB after a turn end: the holder has left HOLDING, and the arbiter is in an ID turn, in the gap or FREE. -/
theorem State.turnEnd_arb {s : State} {t : Turn} (c : TurnEndCause) (ht : s.turn = some t) :
    (s.turnEnd c).arb = { s.arb with
      slots := s.arb.slots.write t.holder
        (if decide (t.mode = .standing) && requeues c then .waiting t.requeued else .opened)
      presence :=
        if decide (t.mode = .standing) && requeues c then s.arb.presence else s.arb.presence.write t.holder none
      arbiter := if decide (t.sub = .paused) && s.ready then .idTurn else if startsGap c then .gap else .free
      gap := if startsGap c then some ⟨s.clock, s.arb.turnGap⟩ else none } := by
  have hclock : s.endTurnTx.clock = s.clock := ((State.Evolves.refl s).endTurnTx).clock
  have hwrite (r : TurnRec) (u : State) : (u.writeRecord r).clock = u.clock := ((State.Evolves.refl u).writeRecord r).clock
  simp only [State.turnEnd, ht]
  generalize hagain : (decide (t.mode = .standing) && requeues c) = again
  cases again <;>
    simp [State.leaveHolding, State.setTenancy, State.stopPresence, State.afterTurn, State.timer, State.endTurnTx_arb,
      hclock, hwrite]

/-- LNK hears of a turn end after the end of its transmission. -/
theorem State.lnk_turnEnd {s : State} {t : Turn} (c : TurnEndCause) (ht : s.turn = some t) :
    (s.turnEnd c).lnk = s.endTurnTx.lnk.raise (.turnEnded t.holder c (decide (t.mode = .standing) && requeues c)) := by
  simp only [State.turnEnd, ht]
  simp [State.raise]

/-- A turn end leaves the other slots. -/
theorem State.Stands.turnEnd {s : State} {w : SlotId} (c : TurnEndCause) (hw : s.holder ≠ some w) :
    s.Stands w (s.turnEnd c) := by
  cases ht : s.turn with
  | none => simpa [State.turnEnd, ht] using State.Stands.refl s
  | some t =>
    have hne : w ≠ t.holder := by
      rintro rfl
      exact hw (by simp [State.holder, ht])
    refine ⟨.turnEnd (.refl s) c, ?_, ?_, fun _ => by simp [State.holder]⟩
    · rw [State.tenancy, State.turnEnd_arb c ht, Table.read_write_other _ _ hne]
      rfl
    · simp only [State.turnEnd_arb c ht]
      split
      · rfl
      · exact Table.read_write_other _ _ hne

@[simp] theorem State.takeIdStart_prt (s : State) : s.takeIdStart.prt = s.prt := by
  unfold State.takeIdStart; split <;> rfl

@[simp] theorem State.beginCycle_prt (c : CycleHome) (s : State) : (s.beginCycle c).prt = s.prt := by
  unfold State.beginCycle; dsimp only; split <;> simp

@[simp] theorem State.moveCycle_prt (b : Bool) (s : State) : (s.moveCycle b).prt = s.prt := by
  unfold State.moveCycle; dsimp only; split <;> simp

@[simp] theorem State.writeRecord_prt (r : TurnRec) (s : State) : (s.writeRecord r).prt = s.prt := by
  unfold State.writeRecord; split <;> rfl

@[simp] theorem State.leaveHolding_prt (t : Turn) (b : Bool) (s : State) : (s.leaveHolding t b).prt = s.prt := by
  unfold State.leaveHolding; split <;> rfl

/-- Of PRT a turn end changes what the end of its transmission does. -/
theorem State.turnEnd_prt {s : State} {t : Turn} (c : TurnEndCause) (ht : s.turn = some t) :
    (s.turnEnd c).prt = s.endTurnTx.prt := by
  simp [State.turnEnd, ht]

/-- Where no identification goes on in an ID turn, SEQ forgets the turn and does no more. -/
theorem State.turnEnd_seq {s : State} {t : Turn} (c : TurnEndCause) (ht : s.turn = some t)
    (hp : (decide (t.sub = .paused) && s.ready) = false) : (s.turnEnd c).seq = s.endTurnTx.forgetTurn.seq := by
  simp only [State.turnEnd, ht, hp]
  simp [State.moveCycle]

/-! ### How many reports join -/

theorem State.endTurnTx_reports (s : State) : s.endTurnTx.lnk.reports.length ≤ s.lnk.reports.length + 1 := by
  have hd (u : State) : u.disarm.lnk = u.lnk := by unfold State.disarm; split <;> rfl
  unfold State.endTurnTx
  split
  · split
    · rename_i hs
      cases hx : s.seq.tx with
      | none => simp [State.normalEnd, State.leaveExciting, hs, hx]
      | some x => rw [State.normalEnd_lnk _ hs hx]; exact Lnk.length_reports_raise _ _
    · split
      · simp [State.abandonArming, hd]
      · omega
  · omega

theorem State.turnEnd_reports (c : TurnEndCause) (s : State) :
    (s.turnEnd c).lnk.reports.length ≤ s.lnk.reports.length + 2 := by
  cases ht : s.turn with
  | none => simp [State.turnEnd, ht]
  | some t =>
    rw [State.lnk_turnEnd c ht]
    exact (Lnk.length_reports_raise _ _).trans (Nat.succ_le_succ s.endTurnTx_reports)

theorem State.ampAtGrant_reports (u : Nat) (s : State) :
    (s.ampAtGrant u).lnk.reports.length ≤ s.lnk.reports.length + 2 := by
  have hto (a : AmpState) (c : AmpCause) (v : State) : (v.ampTo a c).lnk.reports.length ≤ v.lnk.reports.length + 1 :=
    Lnk.length_reports_raise _ _
  unfold State.ampAtGrant State.warmAmp State.startAmpIdle
  split
  · cases s.amg.state
    · dsimp only
      split
      · exact (hto _ _ _).trans (Nat.succ_le_succ (hto _ _ s))
      · exact (hto _ _ s).trans (Nat.le_succ _)
    · exact Nat.le_add_right _ _
    · dsimp only
      split <;> (try split) <;> exact Nat.le_add_right _ _
    · exact Nat.le_add_right _ _
  · omega

/-- TURN_ENDED is raised by a turn end that at most six reports precede, whatever follows. -/
theorem State.raised_turnEnded {h s u : State} {t : Turn} {c : TurnEndCause} (ht : s.turn = some t)
    (before : h.lnk.Grows s.lnk) (room : s.lnk.reports.length ≤ h.lnk.reports.length + 6)
    (after : (s.turnEnd c).lnk.Grows u.lnk) :
    h.raised u (.turnEnded t.holder c (decide (t.mode = .standing) && requeues c)) := by
  rw [State.lnk_turnEnd c ht] at after
  have hroom := s.endTurnTx_reports
  exact State.raised_of_grows (before.trans (State.Evolves.refl s).endTurnTx.link) (by omega) after

/-- So it is for a cause that queues no holder again. -/
theorem State.raised_turnEnded_for_good {h s u : State} {t : Turn} {c : TurnEndCause} (hc : requeues c = false)
    (ht : s.turn = some t) (before : h.lnk.Grows s.lnk) (room : s.lnk.reports.length ≤ h.lnk.reports.length + 6)
    (after : (s.turnEnd c).lnk.Grows u.lnk) : h.raised u (.turnEnded t.holder c false) := by
  have key := State.raised_turnEnded ht before room after
  rwa [hc, Bool.and_false] at key

/-- TURN_GRANTED is raised by a grant that at most five reports precede, whatever follows. -/
theorem State.raised_turnGranted {h s u : State} {w : SlotId} {r : RequestRec} (before : h.lnk.Grows s.lnk)
    (room : s.lnk.reports.length ≤ h.lnk.reports.length + 5) (after : (s.grantSteps w r).lnk.Grows u.lnk) :
    h.raised u (.turnGranted w r.band r.emission r.power) := by
  unfold State.grantSteps at after
  dsimp only at after
  generalize hq : State.setFactor _ _ = q at after
  generalize State.uncapped _ _ _ _ _ = p at after
  have hl : q.lnk = s.lnk := by rw [← hq]; rfl
  have hn := q.ampAtGrant_reports p
  have hg := ((State.Evolves.refl q).ampAtGrant p).link
  rw [hl] at hn hg
  exact State.raised_of_grows (before.trans hg) (by omega) after

end Sys2Proof.Machine
end

section
/-! How a request that LNK takes comes to its block, and what a settled state becomes when a request writes outside what
settling reads. -/

namespace Sys2Proof.Machine

/-! ### The state in which a request finds its block (R22, R183) -/

/-- LNK's reply is out and a presence timer may run afresh: nothing else differs. -/
theorem State.heard_eq (a : Actor) (s : State) :
    ∃ p, s.heard a = { s.readyToTake with arb := { s.arb with presence := p } } := by
  cases a with
  | station => exact ⟨s.arb.presence, rfl⟩
  | slot w =>
    rcases s.readyToTake.restartPresence_cases w with e | ⟨-, t, -, e⟩
    · exact ⟨s.arb.presence, e⟩
    · exact ⟨_, e⟩

section Heard

variable (a : Actor) (s : State)

@[simp] theorem State.heard_clock : (s.heard a).clock = s.clock := by obtain ⟨p, h⟩ := s.heard_eq a; rw [h]; rfl
@[simp] theorem State.heard_clt : (s.heard a).clt = s.clt := by obtain ⟨p, h⟩ := s.heard_eq a; rw [h]; rfl
@[simp] theorem State.heard_seq : (s.heard a).seq = s.seq := by obtain ⟨p, h⟩ := s.heard_eq a; rw [h]; rfl
@[simp] theorem State.heard_drv : (s.heard a).drv = s.drv := by obtain ⟨p, h⟩ := s.heard_eq a; rw [h]; rfl
@[simp] theorem State.heard_prt : (s.heard a).prt = s.prt := by obtain ⟨p, h⟩ := s.heard_eq a; rw [h]; rfl
@[simp] theorem State.heard_idu : (s.heard a).idu = s.idu := by obtain ⟨p, h⟩ := s.heard_eq a; rw [h]; rfl
@[simp] theorem State.heard_acu : (s.heard a).acu = s.acu := by obtain ⟨p, h⟩ := s.heard_eq a; rw [h]; rfl
@[simp] theorem State.heard_slots : (s.heard a).arb.slots = s.arb.slots := by
  obtain ⟨p, h⟩ := s.heard_eq a; rw [h]
@[simp] theorem State.heard_arbiter : (s.heard a).arb.arbiter = s.arb.arbiter := by
  obtain ⟨p, h⟩ := s.heard_eq a; rw [h]
@[simp] theorem State.heard_gap : (s.heard a).arb.gap = s.arb.gap := by
  obtain ⟨p, h⟩ := s.heard_eq a; rw [h]
@[simp] theorem State.heard_tenancy (w : SlotId) : (s.heard a).tenancy w = s.tenancy w := by simp [State.tenancy]
@[simp] theorem State.heard_identity (w : SlotId) : (s.heard a).identity w = s.identity w := by simp [State.identity]
@[simp] theorem State.heard_classOf (w : SlotId) : (s.heard a).classOf w = s.classOf w := by simp [State.classOf]
@[simp] theorem State.heard_turn : (s.heard a).turn = s.turn := by simp [State.turn]
@[simp] theorem State.heard_holder : (s.heard a).holder = s.holder := by simp [State.holder]
@[simp] theorem State.heard_ready : (s.heard a).ready = s.ready := by simp [State.ready]
@[simp] theorem State.heard_exhausted (w : SlotId) : (s.heard a).exhausted w = s.exhausted w := by
  simp [State.exhausted]
@[simp] theorem State.heard_permit (w : SlotId) (b : BandId) (e : Emission) :
    (s.heard a).permit w b e = s.permit w b e := by simp [State.permit]

end Heard

@[simp] theorem State.heard_station (s : State) : s.heard .station = s.readyToTake := rfl

section Taking

variable {s : State} {kind tag actor : Nat} {a : Actor} {f : State → Handled}

/-- A request of STATION comes to its block once the reply owed has been sent. -/
theorem State.takeStation_taken (hc : s.closed = false) (hn : s.tenthsDue = 0) :
    s.takeStation kind tag 0xFF f = (f s.readyToTake).reply kind tag :=
  State.takeRequest_taken _ _ _ _ _ hc hn actorOf_station rfl

theorem State.takeControl_taken (h : s.takes .controlSlot actor a) :
    s.takeControl kind tag actor f = (f (s.heard a)).reply kind tag := by
  obtain ⟨hc, hn, ha, hp⟩ := h
  exact State.takeRequest_taken _ _ _ _ _ hc hn ha hp

theorem State.takeQuery_taken (h : s.takes .anyActor actor a) :
    s.takeQuery tag actor f = (f (s.heard a)).reply 0x0E tag := by
  obtain ⟨hc, hn, ha, hp⟩ := h
  exact State.takeRequest_taken _ _ _ _ _ hc hn ha hp

end Taking

/-- Whether an occurrence was raised since `h` depends on LNK's part of `h` alone. -/
theorem State.raised_of_lnk {g h t : State} {r : Report} (e : g.lnk = h.lnk) (k : g.raised t r) : h.raised t r := by
  unfold State.raised at k ⊢
  rwa [e] at k

/-! #### A ready reply is of LNK alone -/

section Reply

variable (kind tag : Nat) (h : Handled)

@[simp] theorem Handled.reply_clt : (h.reply kind tag).clt = h.state.clt := rfl
@[simp] theorem Handled.reply_arb : (h.reply kind tag).arb = h.state.arb := rfl
@[simp] theorem Handled.reply_seq : (h.reply kind tag).seq = h.state.seq := rfl
@[simp] theorem Handled.reply_ktl : (h.reply kind tag).ktl = h.state.ktl := rfl
@[simp] theorem Handled.reply_drv : (h.reply kind tag).drv = h.state.drv := rfl
@[simp] theorem Handled.reply_amg : (h.reply kind tag).amg = h.state.amg := rfl
@[simp] theorem Handled.reply_msr : (h.reply kind tag).msr = h.state.msr := rfl
@[simp] theorem Handled.reply_prt : (h.reply kind tag).prt = h.state.prt := rfl
@[simp] theorem Handled.reply_idu : (h.reply kind tag).idu = h.state.idu := rfl
@[simp] theorem Handled.reply_acu : (h.reply kind tag).acu = h.state.acu := rfl
@[simp] theorem Handled.reply_flags : (h.reply kind tag).lnk.flags = h.state.lnk.flags := rfl
@[simp] theorem Handled.reply_fixed : (h.reply kind tag).fixed = h.state.fixed := rfl
@[simp] theorem Handled.reply_tenancy (w : SlotId) : (h.reply kind tag).tenancy w = h.state.tenancy w := rfl
@[simp] theorem Handled.reply_identity (w : SlotId) : (h.reply kind tag).identity w = h.state.identity w := rfl
@[simp] theorem Handled.reply_turn : (h.reply kind tag).turn = h.state.turn := rfl
@[simp] theorem Handled.reply_holder : (h.reply kind tag).holder = h.state.holder := rfl
theorem Handled.raised_reply (s : State) (r : Report) : s.raised (h.reply kind tag) r ↔ s.raised h.state r := Iff.rfl

end Reply

/-- The reply of a block that answers anything but UNKNOWN_KIND is ready. -/
theorem Handled.replied (kind tag : Nat) (h : Handled) (hx : h.status ≠ .unknownKind) :
    (h.reply kind tag).replied kind tag h.status h.body := by
  simp [Handled.reply, State.answer, State.replied, replyKind, hx]

theorem okStatus_ne_unknown (b : Bool) : okStatus b ≠ .unknownKind := by cases b <;> decide

@[simp] theorem indexOf_val {n : Nat} (i : Fin n) : indexOf n i.val = some i := by simp [indexOf]

theorem indexOf_of_le {n x : Nat} (h : n ≤ x) : indexOf n x = none := by simp [indexOf, Nat.not_lt.mpr h]

@[simp] theorem flagOf_toNat (b : Bool) : flagOf b.toNat = some b := by cases b <;> rfl

theorem flagOf_of_le {n : Nat} (h : 2 ≤ n) : flagOf n = none := by
  match n, h with
  | n + 2, _ => rfl

/-! ### The reset (O3) -/

/-- Settles O3: each block's reset value is written in its definition. -/
theorem resetValues : Obligations.ResetValues := by
  refine ⟨⟨rfl, rfl, rfl⟩, fun c => ?_, fun w => ⟨?_, ?_, ?_, ?_, ?_⟩, ⟨rfl, rfl, rfl, rfl⟩,
    ⟨rfl, rfl, rfl, rfl, by decide⟩, ⟨rfl, rfl, rfl⟩, fun b => ⟨?_, fun p => ?_⟩, ⟨rfl, rfl, rfl, rfl, rfl⟩,
    ⟨rfl, rfl, rfl, rfl, rfl⟩, ⟨rfl, rfl, rfl, rfl, rfl, rfl⟩⟩
  · exact Table.read_build _ c
  · exact Table.read_build _ w
  · exact Table.read_build _ w
  · exact Table.read_build _ w
  · exact Table.read_build _ w
  · exact Table.read_build _ w
  · exact congrArg BandRec.enabled (Table.read_build _ b)
  · cases p
    · exact Table.read_build _ b
    · exact Table.read_build _ b

end Sys2Proof.Machine
end

section
/-! What each Query topic shows (O23). -/

namespace Sys2Proof.Machine

section Queries

variable {s : State} {tag actor : Nat} {a : Actor} {f : State → Handled} (ht : s.takes .anyActor actor a)
include ht

/-- A Query that shows something is answered OK with it. -/
theorem State.query_shows {b : Body} (hf : f (s.heard a) = shows b (s.heard a)) :
    Host.Outcome.next (φ := Fault) (ρ := Refusal) (s.takeQuery tag actor f) =
      .next ((s.heard a).answer 0x0E tag .ok b) := by
  rw [State.takeQuery_taken ht, hf]
  rfl

/-- A Query that is refused is answered BAD_ARGUMENT. -/
theorem State.query_refuses (hf : f (s.heard a) = refuse .badArgument (s.heard a)) :
    Host.Outcome.next (φ := Fault) (ρ := Refusal) (s.takeQuery tag actor f) =
      .next ((s.heard a).answer 0x0E tag .badArgument .empty) := by
  rw [State.takeQuery_taken ht, hf]
  rfl

end Queries

/-! ### The inputs (R173) -/

/-- An input is active when its debounced level is the one its polarity names. -/
theorem Input.active_eq (i : Input) : i.active = decide (i.debounced = decide (i.polarity = .activeHigh)) := by
  unfold Input.active
  cases i.polarity <;> cases i.debounced <;> rfl

theorem filterMap_guard {α β : Type} (p : α → Prop) [DecidablePred p] (g : α → β) (l : List α) :
    (l.filterMap fun i => if p i then some (g i) else none) = (l.filter fun i => decide (p i)).map g := by
  induction l with
  | nil => rfl
  | cons i l ih => by_cases h : p i <;> simp [h, ih]

/-- The inputs routed to a function, by number. -/
theorem State.routed_eq (s : State) (f : InputFunction) :
    s.routed f = ((numbers 4).filter fun i => decide ((s.inr.inputs.read i).function = f)).map s.inr.inputs.read :=
  filterMap_guard _ _ _

/-- A function is active while a LEVEL input of it is. -/
theorem State.functionActive_eq (s : State) (f : InputFunction) : s.functionActive f =
    (numbers 4).any fun i => decide ((s.inr.inputs.read i).function = f ∧ (s.inr.inputs.read i).trigger = .level) &&
      (s.inr.inputs.read i).active := by
  rw [State.functionActive, State.routed_eq, List.any_map, List.any_filter]
  congr 1
  funext i
  simp only [Function.comp_apply, Bool.decide_and, Bool.and_assoc]

theorem State.isRouted_eq (s : State) (f : InputFunction) :
    s.isRouted f = (numbers 4).any fun i => decide ((s.inr.inputs.read i).function = f) := by
  rw [State.isRouted, State.routed_eq, Bool.eq_iff_iff]
  simp

/-! ### What is left on the timers (R31, R49, R64, R151) -/

theorem State.idleLeft_eq (s : State) : s.idleLeft = s.turn.bind fun v => v.idleStart.map fun i =>
    (s.classOf v.holder).idleHang * 1000 - sinceMs s.clock i := by
  unfold State.idleLeft
  cases s.turn <;> rfl

theorem State.limitLeft_eq (s : State) : s.limitLeft = s.seq.tx.bind fun x => s.turn.bind fun v =>
    x.limitStart.map fun i => (s.classOf v.holder).txLimit * 1000 - sinceMs s.clock i := by
  unfold State.limitLeft
  cases s.seq.tx <;> cases s.turn <;> rfl

theorem State.sendingChar_eq (s : State) : s.sendingChar =
    if s.idu.cycle = .sending then s.idu.context.bind fun c => c.todo.head?.map (·.char) else none := by
  unfold State.sendingChar
  cases s.idu.cycle <;> cases s.idu.context <;> rfl

theorem State.shownWatts_eq (s : State) (k : Option Nat) :
    s.shownWatts k = if s.seq.currentBand = none then none else k := by
  unfold State.shownWatts
  cases s.seq.currentBand <;> rfl

/-! ### The queue (R25) -/

theorem State.insertRanked_congr {s t : State} (hb : t.beats = s.beats) (w : SlotId) (l : List SlotId) :
    t.insertRanked w l = s.insertRanked w l := by
  induction l with
  | nil => rfl
  | cons v l ih => simp only [State.insertRanked, hb, ih]

/-- The presence timers and LNK are not seen in the queue. -/
theorem State.queueList_heard (a : Actor) (s : State) : (s.heard a).queueList = s.queueList := by
  obtain ⟨p, hp⟩ := s.heard_eq a
  have hinsert : (s.heard a).insertRanked = s.insertRanked := by
    funext w l
    exact State.insertRanked_congr (by rw [hp]; rfl) w l
  unfold State.queueList State.ranked
  rw [hinsert, hp]
  rfl

/-- Settles O23: each topic shows what its view names, and a presence timer that runs afresh is in none of them but
SLOT's. -/
theorem queryContents : Obligations.QueryContents := by
  refine ⟨?_, ?_, ?_, ?_, ?_, ?_, ?_, ?_, ?_, ?_, ?_, ?_, ?_, ?_, ?_, ?_, ?_, ?_⟩
  · intro tag actor a c s h ht
    refine State.query_shows ht ?_
    obtain ⟨p, hp⟩ := s.heard_eq a
    simp only [indexOf_val, hp]
    rfl
  · intro tag actor a n s h ht hn
    exact State.query_refuses ht (by simp only [indexOf_of_le hn])
  · intro tag actor a b s h ht
    refine State.query_shows ht ?_
    obtain ⟨p, hp⟩ := s.heard_eq a
    simp only [indexOf_val, hp]
    rfl
  · intro tag actor a n s h ht hn
    exact State.query_refuses ht (by simp only [indexOf_of_le hn])
  · intro tag actor a b amplified s h ht
    refine State.query_shows ht ?_
    obtain ⟨p, hp⟩ := s.heard_eq a
    cases amplified <;> simp only [indexOf_val, hp] <;> rfl
  · intro tag actor a n m s h ht hn
    refine State.query_refuses ht ?_
    rcases hn with hn | hm
    · simp only [indexOf_of_le hn]
    · have hpath : pathOf m = none := by
        match m, hm with
        | m + 2, _ => rfl
      simp only [hpath]
      cases indexOf 12 n <;> rfl
  · intro tag actor a w s h ht
    exact State.query_shows ht (by simp only [indexOf_val]; rfl)
  · intro tag actor a n s h ht hn
    exact State.query_refuses ht (by simp only [indexOf_of_le hn])
  · intro tag actor a s h ht
    refine State.query_shows ht ?_
    obtain ⟨p, hp⟩ := s.heard_eq a
    simp only [hp, State.measureView, State.shownWatts_eq]
    rfl
  · intro tag actor a s h ht
    refine State.query_shows ht ?_
    obtain ⟨p, hp⟩ := s.heard_eq a
    rw [hp]
    rfl
  · intro tag actor a n s h ht
    refine State.query_shows ht ?_
    obtain ⟨p, hp⟩ := s.heard_eq a
    rw [hp]
    rfl
  · intro tag actor a n s h ht hn
    refine State.query_shows ht ?_
    simp only [indexOf, hn, dif_pos, State.queueList_heard]
  · intro tag actor a n s h ht hn
    exact State.query_refuses ht (by simp only [indexOf_of_le hn])
  · intro tag actor a s h ht
    exact State.query_shows ht rfl
  · intro tag actor a s h ht
    refine State.query_shows ht ?_
    obtain ⟨p, hp⟩ := s.heard_eq a
    rw [hp]
    rfl
  · intro tag actor a s h ht
    refine State.query_shows ht ?_
    obtain ⟨p, hp⟩ := s.heard_eq a
    rw [hp]
    rfl
  · intro tag actor a s h on ht
    refine State.query_shows ht ?_
    obtain ⟨p, hp⟩ := s.heard_eq a
    have hview : (s.heard a).inputsView = s.inputsView := by rw [hp]; rfl
    rw [hview]
    simp only [State.inputsView, State.functionActive_eq, State.routed_eq, List.length_map, Input.active_eq]
    rfl
  · intro tag actor a s h ht
    refine State.query_shows ht ?_
    obtain ⟨p, hp⟩ := s.heard_eq a
    have hview : (s.heard a).stationView = s.stationView := by rw [hp]; rfl
    rw [hview]
    simp only [State.stationView, State.idleLeft_eq, State.limitLeft_eq, State.sendingChar_eq, State.isRouted_eq]
    rfl

end Sys2Proof.Machine
end

section
/-! Opening and closing slots (O39). -/

namespace Sys2Proof.Machine

/-! ### OpenSlot (R9) -/

theorem okStatus_clamped (p : Bool) (lo hi n : Nat) :
    okStatus (p && outside lo hi n) = if p = true ∧ clamp lo hi n ≠ n then .okClamped else .ok := by
  cases p <;> simp [okStatus, outside]

/-- The identity that valid arguments write. -/
theorem openIdentity?_valid (w : SlotId) {l : List Char} (c : ClassId) (p : Bool) (n : Nat)
    (hl : l.length ≤ 10 ∧ l.all callsignChar = true) :
    openIdentity? ⟨w.val, l, c.val, p.toNat, n⟩ = some (w, ⟨if l = [] then none else some l, c,
      if p then some (clamp 1 86400 n) else none, false⟩) := by
  simp only [openIdentity?, callsignOf, if_pos hl, indexOf_val, flagOf_toNat]
  rfl

theorem openIdentity?_invalid {p : OpenArgs} (h : 32 ≤ p.slot ∨ 8 ≤ p.classIx ∨ 2 ≤ p.allowancePresent ∨
    10 < p.callsign.length ∨ p.callsign.all callsignChar = false) : openIdentity? p = none := by
  have hcall (h : 10 < p.callsign.length ∨ p.callsign.all callsignChar = false) : callsignOf p.callsign = none := by
    rw [callsignOf, if_neg]
    rintro ⟨hlen, hall⟩
    rcases h with h | h
    · omega
    · rw [hall] at h
      cases h
  unfold openIdentity?
  rcases h with h | h | h | h
  · simp [indexOf_of_le h]
  · simp [indexOf_of_le h]
  · simp [flagOf_of_le h]
  · simp [hcall h]

section OpenSlot

variable {s : State} {tag : Nat} {p : OpenArgs} (hc : s.closed = false) (hn : s.tenthsDue = 0)
include hc hn

theorem exec_openSlot : exec (.openSlot tag 0xFF p) s = .next ((State.openSlot p s.readyToTake).reply 0x11 tag) :=
  congrArg Host.Outcome.next (State.takeStation_taken hc hn)

theorem exec_closeSlot (n : Nat) :
    exec (.closeSlot tag 0xFF n) s = .next ((State.closeSlot n s.readyToTake).reply 0x12 tag) :=
  congrArg Host.Outcome.next (State.takeStation_taken hc hn)

end OpenSlot

/-! ### CloseSlot (R10) -/

/-- The slot is VACANT, with no presence timer and without the turn. -/
structure State.Shut (w : SlotId) (s : State) : Prop where
  vacant : s.tenancy w = .vacant
  presence : s.arb.presence.read w = none
  apart : s.holder ≠ some w

/-- A closing makes a slot so that does not hold the turn once its own has ended. -/
theorem State.closing_shut (w : SlotId) (s : State) : (s.closing w).Shut w := by
  have key (u : State) (hu : u.holder ≠ some w) :
      State.Shut w (((u.setTenancy w .vacant).stopPresence w).setIdentity w Identity.reset) :=
    ⟨State.tenancy_setTenancy_same w .vacant u, Table.read_write_same _ _ _, hu⟩
  unfold State.closing
  dsimp only
  split
  · exact key _ (by simp [State.holder])
  · rename_i hh
    exact key s (by simpa [State.holdsTurn] using hh)

/-- But for the slot's identity, a closing does no more than a turn end. -/
theorem State.closing_evolves (w : SlotId) (s : State) :
    State.Evolves (s.setIdentity w Identity.reset) (s.closing w) := by
  have e : s.Evolves (if s.holdsTurn w then s.turnEnd .closed else s) := .ite (.turnEnd (.refl s) _) (.refl s)
  refine ⟨?_, e.link⟩
  have hk := congrArg (fun k : Fixed × Table 6 Counter × Clock =>
    ({ k.1 with clt := { k.1.clt with ids := k.1.clt.ids.write w Identity.reset } }, k.2)) e.kept
  exact hk

theorem State.Shut.settle {s : State} {w : SlotId} (h : s.Shut w) : s.settle.Shut w := by
  have e := State.stands_settle (State.not_eligible_of_record (by rw [h.vacant]; rfl))
  exact ⟨e.tenancy.trans h.vacant, e.presence.trans h.presence, e.apart h.apart⟩

/-- A slot that is not VACANT is closed, and what takes no time comes about. -/
theorem State.closeSlot_closes {s : State} {w : SlotId} (hv : s.tenancy w ≠ .vacant) :
    State.closeSlot w.val s = done (s.closing w).settle := by
  have hvac : s.vacant w = false := decide_eq_false hv
  simp only [State.closeSlot, indexOf_val, hvac, Bool.false_eq_true, if_false]

/-- Settles O39: OpenSlot writes three tables, and CloseSlot leaves the slot shut, which settling keeps. -/
theorem slotsOpenAndClose : Obligations.SlotsOpenAndClose := by
  refine ⟨?_, ?_, ?_, ?_, ?_⟩
  · intro tag w l c p n s h hc hn hv hl
    have hvac : s.readyToTake.vacant w = true := decide_eq_true hv
    rw [exec_openSlot hc hn, State.openSlot, openIdentity?_valid w c p n hl]
    simp only [hvac, Bool.true_eq_false, if_false]
    cases p
    · rfl
    · exact congrArg (fun x => Host.Outcome.next (State.answer 0x11 tag x .empty _)) (okStatus_clamped true 1 86400 n)
  · intro tag w l c p n s h hc hn hv hl
    have hvac : s.readyToTake.vacant w = false := decide_eq_false hv
    rw [exec_openSlot hc hn, State.openSlot, openIdentity?_valid w c p n hl]
    simp only [hvac, if_true]
    rfl
  · intro tag w s h hc hn hv
    have hclose := State.closeSlot_closes (s := s.readyToTake) hv
    have hshut := (s.readyToTake.closing_shut w).settle
    have hkept := (s.readyToTake.closing_evolves w).settle
    refine ⟨_, exec_closeSlot hc hn w.val, ?_⟩
    rw [hclose]
    refine ⟨hshut.vacant, hshut.presence, hshut.apart, hkept.clt, ?_, fun hh => ?_, Handled.replied _ _ _ nofun⟩
    · have hfixed := hkept.fixed
      exact congrArg (fun f : Fixed => { f with clt := h.clt }) hfixed
    · obtain ⟨t, ht, rfl⟩ := Option.map_eq_some_iff.mp hh
      have hlnk : (h.closing t.holder).lnk = (h.turnEnd .closed).lnk := by
        have hholds : h.holdsTurn t.holder = true := decide_eq_true hh
        simp [State.closing, hholds]
      have hafter := (State.Evolves.refl (h.closing t.holder)).settle.link
      rw [hlnk] at hafter
      rw [Handled.raised_reply]
      exact State.raised_turnEnded_for_good rfl ht (.refl h.lnk) (by omega) hafter
  · intro tag w s h hc hn hv
    have hvac : s.readyToTake.vacant w = true := decide_eq_true hv
    rw [exec_closeSlot hc hn, State.closeSlot, indexOf_val]
    simp only [hvac, if_true]
    rfl
  · intro tag p s h hc hn hp
    rw [exec_openSlot hc hn, State.openSlot, openIdentity?_invalid hp]
    rfl

end Sys2Proof.Machine
end

section
/-! SetClass (O26): a state of the part in which a waiting slot that the new record permits is granted. -/

namespace Sys2Proof.Machine

/-- Slot 5's transmission is on the air in a PAUSED turn on band 3, while the cycle of that turn is CLOSING; slot 9 waits
for band 5 with a seize mark, and every wait of the profile takes 0 ms. All slots are of class 0. -/
def closingOnAir : State :=
  { State.reset with
    arb := { State.reset.arb with
      slots := (State.reset.arb.slots.write 5 .holding).write 9 (.waiting ⟨5, .phone, 50, .once, .frame, true⟩)
      arbiter := .turn ⟨5, 3, .phone, 50, .once, .paused, 0, 0, 1, 0, false, none⟩ }
    seq := { State.reset.seq with
      state := .exciting, active := ⟨0, 0, 0, 0, 0, 0⟩, currentBand := some 3, trr := true, exc := true, keyGate := true
      tx := some ⟨.member 5, 3, .phone, .barefoot, 0, 0, some 0, none, true⟩ }
    drv := { State.reset.drv with bands := State.reset.drv.bands.write 5 ⟨true, 5, 100, 100, 2000⟩ }
    prt := { State.reset.prt with commissioned := true, station := .ready }
    idu := { State.reset.idu with
      cycle := .closing, claim := .holdingPause, context := some ⟨0, [], 20, 100, .memberTurn, [], true⟩ } }

/-- A SetClass that leaves class 0 band 5, PHONE and CONTROL. -/
def bandFiveOnly : ClassArgs := ⟨0, [5], Table.build fun _ => 100, [1], 0, [0], 10, 60, 180⟩

theorem closingOnAir_holder : ∀ w, closingOnAir.tenancy w = .holding ↔ closingOnAir.holder = some w := by decide

theorem closingOnAir_settled : closingOnAir.settled := by decide

/-- The invariants of Safety.lean do not exclude the state: they let a cycle be CLOSING beside a member's transmission. -/
theorem closingOnAir_keeps_invariants :
    closingOnAir.linesFollow ∧ closingOnAir.ranksPermute ∧ closingOnAir.marksStand ∧ closingOnAir.idRests ∧
      closingOnAir.withinCapacity ∧ closingOnAir.stationFollows ∧ closingOnAir.armsOnlyReady := by
  refine ⟨?_, ?_, ?_, ?_, ?_, ?_, ?_⟩ <;> decide

/-- The SetClass takes band 3 from the holder: its turn ends into an ID turn, its transmission drains in no time, the
cycle closes at QUIET entry, and the end of that ID turn finds slot 9 eligible with a seize mark and grants it (R29, R160). -/
theorem closingOnAir_grants (tag : Nat) :
    ∃ t, exec (.setClass tag 0xFF bandFiveOnly) closingOnAir = .next t ∧ t.tenancy 9 = .holding := by
  refine ⟨_, rfl, ?_⟩
  rw [State.takeStation_taken (by decide) (by decide)]
  change ((State.setClass bandFiveOnly closingOnAir.readyToTake).state).tenancy 9 = .holding
  decide

/-- Refutes O26: its clause on a permitted WAITING slot does not hold where the re-check of the holder in the same class
closes an identification at once and the slot is granted. -/
theorem not_setClassStoresAndRechecks : ¬ Obligations.SetClassStoresAndRechecks := by
  intro h
  obtain ⟨-, -, -, -, hwaits, -⟩ := h
  obtain ⟨t, ht, hten, -⟩ := hwaits 0 bandFiveOnly 0 9 ⟨5, .phone, 50, .once, .frame, true⟩ closingOnAir
    closingOnAir_holder (by decide) (by decide) (by decide) rfl (by decide) (by decide) (by decide) (by decide)
    closingOnAir_settled (by decide)
  obtain ⟨u, hu, hgranted⟩ := closingOnAir_grants 0
  rw [ht, Host.Outcome.next.injEq] at hu
  rw [hu, hgranted] at hten
  cases hten

end Sys2Proof.Machine
end

section
/-! SetAllowance (O34): what the exhaustion of a budget does, whatever the sequencer's state. -/

namespace Sys2Proof.Machine

/-! ### Exhaustion (R15, R166) -/

/-- What the exhaustion of slot `w`'s budget has done when ALLOWANCE_EXHAUSTED is raised. -/
def State.spent (w : SlotId) (s : State) : State :=
  if s.holdsTurn w then (if s.memberExciting then s.endMemberTx .allowance else s).turnEnd .allowance else s

theorem State.exhaustionEffects_eq (w : SlotId) (s : State) : s.exhaustionEffects w = (s.spent w).raise
    (.allowanceExhausted w (((s.spent w).identity w).allowance.getD 0) ((s.spent w).acu.used.read w)
      ((s.spent w).tenancy w).shown) := rfl

section Spent

variable {s : State} {w : SlotId}

theorem State.tx_of_memberExciting (hm : s.memberExciting = true) : ∃ x, s.seq.tx = some x := by
  cases hx : s.seq.tx with
  | none => simp [State.memberExciting, State.memberTx, hx] at hm
  | some x => exact ⟨x, rfl⟩

/-- The end of the holder's transmission with ALLOWANCE keeps the holder, and at most one report joins. -/
theorem State.allowanceEnd_holder (s : State) :
    (if s.memberExciting then s.endMemberTx .allowance else s).holder = s.holder ∧
      (if s.memberExciting then s.endMemberTx .allowance else s).lnk.reports.length ≤ s.lnk.reports.length + 1 := by
  split
  · rename_i hm
    obtain ⟨x, hx⟩ := State.tx_of_memberExciting hm
    obtain ⟨-, hholder, hlnk⟩ := State.endMemberTx_stays .allowance hm rfl hx
    exact ⟨hholder, by rw [hlnk]; exact Lnk.length_reports_raise _ _⟩
  · exact ⟨rfl, Nat.le_succ _⟩

theorem State.spent_evolves (w : SlotId) (s : State) : s.Evolves (s.spent w) :=
  .ite (.turnEnd (.ite (.endMemberTx (.refl s) _) (.refl s)) _) (.refl s)

theorem State.spent_reports (w : SlotId) (s : State) :
    (s.spent w).lnk.reports.length ≤ s.lnk.reports.length + 3 := by
  unfold State.spent
  split
  · obtain ⟨-, hroom⟩ := s.allowanceEnd_holder
    exact (State.turnEnd_reports _ _).trans (by omega)
  · omega

/-- The holder whose budget is exhausted is OPEN without the turn. -/
theorem State.spent_openApart (hh : s.holder = some w) : (s.spent w).OpenApart w := by
  obtain ⟨hholder, -⟩ := s.allowanceEnd_holder
  obtain ⟨t, ht, rfl⟩ := Option.map_eq_some_iff.mp (hholder.trans hh)
  have hholds : s.holdsTurn t.holder = true := decide_eq_true hh
  rw [State.spent, if_pos hholds]
  exact State.turnEnd_openApart ht rfl

/-- TURN_ENDED is raised for it with the cause ALLOWANCE. -/
theorem State.raised_spent {u : State} (hh : s.holder = some w) (after : (s.spent w).lnk.Grows u.lnk) :
    s.raised u (.turnEnded w .allowance false) := by
  obtain ⟨hholder, hroom⟩ := s.allowanceEnd_holder
  obtain ⟨t, ht, rfl⟩ := Option.map_eq_some_iff.mp (hholder.trans hh)
  have hholds : s.holdsTurn t.holder = true := decide_eq_true hh
  rw [State.spent, if_pos hholds] at after
  have e : s.Evolves (if s.memberExciting then s.endMemberTx .allowance else s) :=
    .ite (.endMemberTx (.refl s) _) (.refl s)
  exact State.raised_turnEnded_for_good rfl ht e.link (by omega) after

/-- A slot whose budget is exhausted stands through settling, after what the exhaustion did. -/
theorem State.stands_spent (hx : s.exhausted w = true) : (s.spent w).Stands w (s.exhaustionEffects w).settle := by
  have e := s.spent_evolves w
  have hclt := e.clt
  have hexh : (s.spent w).exhausted w = true := by
    rw [← hx]
    simp only [State.exhausted, State.identity, hclt, e.used]
  exact .trans (s := s.exhaustionEffects w) ⟨.raise (.refl _) _, rfl, rfl, id⟩
    (State.stands_settle (State.not_eligible_of_exhausted hexh))

/-- ALLOWANCE_EXHAUSTED is raised with the request state that the slot is left in. -/
theorem State.raised_exhausted {k : Nat} (hk : (s.identity w).allowance = some k) (hx : s.exhausted w = true) :
    s.raised (s.exhaustionEffects w).settle
      (.allowanceExhausted w k (s.acu.used.read w) ((s.exhaustionEffects w).settle.tenancy w).shown) := by
  have e := s.spent_evolves w
  have hid : (s.spent w).identity w = s.identity w := by simp only [State.identity, e.clt]
  have hafter := (State.Evolves.refl (s.exhaustionEffects w)).settle.link
  have hroom := s.spent_reports w
  rw [(State.stands_spent hx).tenancy]
  rw [congrArg State.lnk (s.exhaustionEffects_eq w), hid, hk, e.used] at hafter
  exact State.raised_of_grows e.link (by omega) hafter

end Spent

/-! ### SetAllowance (R15) -/

/-- The allowance of slot `w` is `x`. -/
def State.setBudget (w : SlotId) (x : Option Nat) (s : State) : State :=
  s.setIdentity w { s.identity w with allowance := x }

@[simp] theorem State.setBudget_lnk (w : SlotId) (x : Option Nat) (s : State) : (s.setBudget w x).lnk = s.lnk :=
  State.setIdentity_lnk ..

@[simp] theorem State.setBudget_acu (w : SlotId) (x : Option Nat) (s : State) : (s.setBudget w x).acu = s.acu :=
  State.setIdentity_acu ..

section SetAllowance

variable {s : State} {tag : Nat} (hc : s.closed = false) (hn : s.tenthsDue = 0)
include hc hn

theorem exec_setAllowance (slot present allowance : Nat) : exec (.setAllowance tag 0xFF slot present allowance) s =
    .next ((State.setAllowance slot present allowance s.readyToTake).reply 0x14 tag) :=
  congrArg Host.Outcome.next (State.takeStation_taken hc hn)

end SetAllowance

/-- What SetAllowance leaves before settling: the allowance, and the effects of an exhaustion that it brings. -/
def State.budgeted (w : SlotId) (x : Option Nat) (s : State) : State :=
  if !s.exhausted w && (s.setBudget w x).exhausted w then (s.setBudget w x).exhaustionEffects w else s.setBudget w x

theorem State.setAllowance_stores {s : State} {w : SlotId} (hv : s.tenancy w ≠ .vacant) (p : Bool) (n : Nat) :
    State.setAllowance w.val p.toNat n s = ⟨(s.budgeted w (if p then some (clamp 1 86400 n) else none)).settle,
      okStatus (p && outside 1 86400 n), .empty⟩ := by
  have hvac : s.vacant w = false := decide_eq_false hv
  simp only [State.setAllowance, indexOf_val, flagOf_toNat, hvac]
  rfl

theorem State.budgeted_evolves (w : SlotId) (x : Option Nat) (s : State) :
    (s.setBudget w x).Evolves (s.budgeted w x) :=
  .ite (.exhaustionEffects (.refl _) w) (.refl _)

/-- A budget at or above which the slot has used its air time is exhausted. -/
theorem State.exhausted_setBudget {s : State} {w : SlotId} {k : Nat} (h : 10 * k ≤ s.acu.used.read w) :
    (s.setBudget w (some k)).exhausted w = true := by
  rw [State.exhausted, State.setBudget, State.identity_setIdentity_same]
  exact decide_eq_true h

/-- A write that exhausts slot `w` raises ALLOWANCE_EXHAUSTED, and ends the turn and the transmission of a holder. -/
theorem State.budgeted_exhausts {h : State} {w : SlotId} {x : Option Nat} {k : Nat} (hx : x = some k)
    (hbefore : h.exhausted w = false) (hused : 10 * k ≤ h.acu.used.read w) :
    let t := (h.budgeted w x).settle
    h.raised t (.allowanceExhausted w k (h.acu.used.read w) (t.tenancy w).shown) ∧
      (h.holder = some w → t.tenancy w = .opened ∧ t.holder ≠ some w ∧ h.raised t (.turnEnded w .allowance false) ∧
        (h.memberExciting = true → h.seq.active.tail ≠ 0 → t.seq.state = .drain)) := by
  subst hx
  have hexh := State.exhausted_setBudget hused
  have hg : h.budgeted w (some k) = (h.setBudget w (some k)).exhaustionEffects w := by
    rw [State.budgeted, hbefore, hexh]
    rfl
  have hallow : ((h.setBudget w (some k)).identity w).allowance = some k := by
    rw [State.setBudget, State.identity_setIdentity_same]
  dsimp only
  rw [hg]
  have hraised := State.raised_exhausted hallow hexh
  rw [State.setBudget_acu] at hraised
  refine ⟨State.raised_of_lnk (State.setBudget_lnk ..) hraised, fun hh => ?_⟩
  have hstands := State.stands_spent hexh
  have hopen := State.spent_openApart (s := h.setBudget w (some k)) hh
  refine ⟨hstands.tenancy.trans hopen.opened, hstands.apart hopen.apart, 
    State.raised_of_lnk (State.setBudget_lnk ..) (State.raised_spent (s := h.setBudget w (some k)) hh hstands.link), fun hm htail => ?_⟩
  obtain ⟨t, ht, rfl⟩ := Option.map_eq_some_iff.mp hh
  obtain ⟨y, hy⟩ := State.tx_of_memberExciting hm
  obtain ⟨-, -, hdrain, -⟩ := State.exhaustion_settles (s := h.setBudget t.holder (some k)) ht hm hy htail
  exact hdrain

/-- Settles O34: the write is an identity's alone; the exhaustion's effects and settling keep what `fixed` names, and the
exhausted slot is not eligible while things settle. -/
theorem allowancesExhaust : Obligations.AllowancesExhaust := by
  refine ⟨?_, ?_, ?_⟩
  · intro tag w n p s h x hc hn hv
    refine ⟨_, exec_setAllowance hc hn w.val p.toNat n, ?_⟩
    rw [State.setAllowance_stores (s := s.readyToTake) hv]
    have hkept := (h.budgeted_evolves w x).settle
    refine ⟨hkept.clt, congrArg (fun f : Fixed => { f with clt := h.clt }) hkept.fixed, ?_, ?_⟩
    · rw [← okStatus_clamped]
      exact Handled.replied _ _ _ (okStatus_ne_unknown _)
    · intro k hk hbefore hused
      simp only [Handled.raised_reply, Handled.reply_tenancy, Handled.reply_holder, Handled.reply_seq]
      exact State.budgeted_exhausts hk hbefore hused
  · intro tag w n p s h hc hn hv
    have hvac : s.readyToTake.vacant w = true := decide_eq_true hv
    rw [exec_setAllowance hc hn, State.setAllowance, indexOf_val, flagOf_toNat]
    simp only [hvac, if_true]
    rfl
  · intro tag k n p s h hc hn hkp
    rw [exec_setAllowance hc hn, State.setAllowance]
    rcases hkp with hk | hp
    · rw [indexOf_of_le hk]
      rfl
    · rw [flagOf_of_le hp]
      cases indexOf 32 k <;> rfl

end Sys2Proof.Machine
end

section
/-! The re-check of waiting and holding slots (R12), and what follows from a changed class (R13, R14, R16). -/

namespace Sys2Proof.Machine

/-! ### What stays -/

namespace State.Evolves

variable {h s : State}

theorem dropRequest (e : h.Evolves s) (c : DropCause) (w : SlotId) : h.Evolves (s.dropRequest c w) := by
  unfold State.dropRequest; split
  · exact ((e.setTenancy _ _).stopPresence _).raise _
  · exact e

theorem recheckSlot (e : h.Evolves s) (w : SlotId) : h.Evolves (s.recheckSlot w) := by
  unfold State.recheckSlot; split
  · exact .ite e (e.dropRequest _ _)
  · exact e

theorem recheckHolder (e : h.Evolves s) (p : SlotId → Bool) : h.Evolves (s.recheckHolder p) := by
  unfold State.recheckHolder; split
  · exact .ite (e.turnEnd _) e
  · exact e

theorem recheck (e : h.Evolves s) (p : SlotId → Bool) : h.Evolves (s.recheck p) :=
  .recheckHolder (List.foldlRecOn _ _ e fun _ e w _ => e.recheckSlot w) p

theorem unmark (e : h.Evolves s) (w : SlotId) : h.Evolves (s.unmark w) := by
  unfold State.unmark; split
  · exact .ite e (e.setTenancy _ _)
  · exact e

theorem unmarkAll (e : h.Evolves s) (p : SlotId → Bool) : h.Evolves (s.unmarkAll p) :=
  List.foldlRecOn _ _ e fun _ e w _ => e.unmark w

theorem recomputeMember (e : h.Evolves s) : h.Evolves s.recomputeMember := .ite (.ite e.computeDrive e) e

theorem compareLimits (e : h.Evolves s) (old new : ClassRec) : h.Evolves (s.compareLimits old new) := by
  unfold State.compareLimits; split
  · exact e
  · exact .ite (e.turnEnd _) (.ite (e.turnEnd _) (.ite (e.endMemberTx _) e))

theorem classEffects (e : h.Evolves s) (p : SlotId → Bool) (old new : ClassRec) :
    h.Evolves (s.classEffects p old new) := by
  have e := (e.recheck p).unmarkAll p
  unfold State.classEffects
  dsimp only
  split
  · exact .ite (.compareLimits (.ite e e.recomputeMember) _ _) e
  · exact e

end State.Evolves

/-! ### Drops and marks touch the slots alone -/

/-- A re-check leaves a slot, or drops its request. -/
theorem State.recheckSlot_cases (w : SlotId) (s : State) : s.recheckSlot w = s ∨
    s.recheckSlot w = ((s.setTenancy w .opened).stopPresence w).raise (.requestDropped w .privilege none) := by
  unfold State.recheckSlot
  split
  · rename_i r hr
    split
    · exact .inl rfl
    · simp only [State.dropRequest, hr]
      simp
  · exact .inl rfl

/-- From `h` to `s` of the part only tenancies, presence timers and LNK changed. -/
structure State.SlotsOnly (h s : State) : Prop where
  eq : { s with arb := { s.arb with slots := h.arb.slots, presence := h.arb.presence }, lnk := h.lnk } = h

namespace State.SlotsOnly

variable {h s t : State}

theorem refl (s : State) : s.SlotsOnly s := ⟨rfl⟩

theorem trans (a : h.SlotsOnly s) (b : s.SlotsOnly t) : h.SlotsOnly t :=
  ⟨(congrArg (fun u : State =>
    { u with arb := { u.arb with slots := h.arb.slots, presence := h.arb.presence }, lnk := h.lnk }) b.eq).trans a.eq⟩

theorem clt (e : h.SlotsOnly s) : s.clt = h.clt := congrArg (·.clt) e.eq
theorem seq (e : h.SlotsOnly s) : s.seq = h.seq := congrArg (·.seq) e.eq
theorem drv (e : h.SlotsOnly s) : s.drv = h.drv := congrArg (·.drv) e.eq
theorem idu (e : h.SlotsOnly s) : s.idu = h.idu := congrArg (·.idu) e.eq
theorem prt (e : h.SlotsOnly s) : s.prt = h.prt := congrArg (·.prt) e.eq
theorem ktl (e : h.SlotsOnly s) : s.ktl = h.ktl := congrArg (·.ktl) e.eq
theorem amg (e : h.SlotsOnly s) : s.amg = h.amg := congrArg (·.amg) e.eq
theorem msr (e : h.SlotsOnly s) : s.msr = h.msr := congrArg (·.msr) e.eq
theorem gap (e : h.SlotsOnly s) : s.arb.gap = h.arb.gap := congrArg (·.arb.gap) e.eq
theorem arbiter (e : h.SlotsOnly s) : s.arb.arbiter = h.arb.arbiter := congrArg (·.arb.arbiter) e.eq
theorem turn (e : h.SlotsOnly s) : s.turn = h.turn := by simp only [State.turn, e.arbiter]
theorem holder (e : h.SlotsOnly s) : s.holder = h.holder := by simp only [State.holder, e.turn]
theorem permit (e : h.SlotsOnly s) : s.permit = h.permit := by
  funext w b x
  simp only [State.permit, State.classOf, State.identity, e.clt, e.drv]

theorem raise (e : h.SlotsOnly s) (r : Report) : h.SlotsOnly (s.raise r) := ⟨e.eq⟩
theorem setTenancy (e : h.SlotsOnly s) (w : SlotId) (x : Tenancy) : h.SlotsOnly (s.setTenancy w x) := ⟨e.eq⟩
theorem stopPresence (e : h.SlotsOnly s) (w : SlotId) : h.SlotsOnly (s.stopPresence w) := ⟨e.eq⟩

theorem recheckSlot (e : h.SlotsOnly s) (w : SlotId) : h.SlotsOnly (s.recheckSlot w) := by
  rcases s.recheckSlot_cases w with hs | hs <;> rw [hs]
  · exact e
  · exact ((e.setTenancy _ _).stopPresence _).raise _

theorem recheckSlots (e : h.SlotsOnly s) (l : List SlotId) :
    h.SlotsOnly (l.foldl (fun s w => s.recheckSlot w) s) :=
  List.foldlRecOn _ _ e fun _ e w _ => e.recheckSlot w

theorem unmark (e : h.SlotsOnly s) (w : SlotId) : h.SlotsOnly (s.unmark w) := by
  unfold State.unmark
  split
  · split
    · exact e
    · exact e.setTenancy _ _
  · exact e

end State.SlotsOnly

/-- What settling looks at is no slot, no identity and no part of LNK. -/
theorem State.settled_congr {s t : State} (ha : t.arb.arbiter = s.arb.arbiter) (hg : t.arb.gap = s.arb.gap)
    (hq : t.seq = s.seq) (hi : t.idu = s.idu) (hp : t.prt = s.prt) : t.settled ↔ s.settled := by
  have hturn : t.turn = s.turn := by simp only [State.turn, ha]
  rw [State.settled_iff, State.settled_iff]
  simp only [hturn, State.idTurnOpen, State.idleMayRun, State.quietMayRun, State.memberTx, State.ready, ha, hg, hq, hi, hp]

/-! ### A slot whose request is dropped -/

/-- Slot `w` waits, not holding the turn, for what it is not permitted. -/
structure State.Doomed (w : SlotId) (s : State) : Prop where
  waits : ∃ x, s.tenancy w = .waiting x ∧ s.permit w x.band x.emission = false
  apart : s.holder ≠ some w

/-- The re-check of a doomed slot leaves it OPEN. -/
theorem State.Doomed.recheckSlot {s : State} {w : SlotId} (d : s.Doomed w) : (s.recheckSlot w).OpenApart w := by
  obtain ⟨⟨x, hx, hp⟩, hapart⟩ := d
  simp only [State.recheckSlot, hx, hp, State.dropRequest, Bool.false_eq_true, if_false]
  exact ⟨State.tenancy_setTenancy_same w .opened s, hapart⟩

theorem State.tenancy_recheckSlot_other {s : State} {v w : SlotId} (h : w ≠ v) :
    (s.recheckSlot v).tenancy w = s.tenancy w := by
  rcases s.recheckSlot_cases v with e | e <;> rw [e]
  exact State.tenancy_setTenancy_other .opened s h

/-- The re-check of another slot leaves it doomed. -/
theorem State.Doomed.recheckSlot_other {s : State} {v w : SlotId} (d : s.Doomed w) (h : w ≠ v) :
    (s.recheckSlot v).Doomed w := by
  have e := (State.SlotsOnly.refl s).recheckSlot v
  obtain ⟨⟨x, hx, hp⟩, hapart⟩ := d
  exact ⟨⟨x, (State.tenancy_recheckSlot_other h).trans hx, by rw [e.permit, hp]⟩, by rwa [e.holder]⟩

/-- A re-check leaves a slot that is OPEN apart from the turn. -/
theorem State.OpenApart.recheckSlot {s : State} {w : SlotId} (o : s.OpenApart w) (v : SlotId) :
    (s.recheckSlot v).OpenApart w := by
  have e := (State.SlotsOnly.refl s).recheckSlot v
  refine ⟨?_, by rw [e.holder]; exact o.apart⟩
  by_cases h : w = v
  · subst h
    simp [State.recheckSlot, o.opened]
  · exact (State.tenancy_recheckSlot_other h).trans o.opened

theorem State.OpenApart.recheckSlots {s : State} {w : SlotId} (o : s.OpenApart w) (l : List SlotId) :
    (l.foldl (fun s w => s.recheckSlot w) s).OpenApart w :=
  List.foldlRecOn l _ o fun _ o v _ => o.recheckSlot v

/-- The drops of a re-check leave OPEN every doomed slot among those concerned. -/
theorem State.Doomed.recheckSlots {w : SlotId} (l : List SlotId) :
    ∀ s : State, s.Doomed w → w ∈ l → (l.foldl (fun s w => s.recheckSlot w) s).OpenApart w := by
  induction l with
  | nil => intro s _ hw; cases hw
  | cons v l ih =>
    intro s d hw
    by_cases h : w = v
    · subst h
      exact d.recheckSlot.recheckSlots l
    · exact ih _ (d.recheckSlot_other h) ((List.mem_cons.mp hw).resolve_left h)

theorem State.OpenApart.recheckHolder {s : State} {w : SlotId} (o : s.OpenApart w) (p : SlotId → Bool) :
    (s.recheckHolder p).OpenApart w := by
  unfold State.recheckHolder; split
  · split
    · exact o.turnEnd _
    · exact o
  · exact o

/-- A re-check leaves OPEN every doomed slot that it concerns (R12). -/
theorem State.Doomed.recheck {s : State} {w : SlotId} (d : s.Doomed w) {p : SlotId → Bool} (hp : p w = true) :
    (s.recheck p).OpenApart w :=
  (State.Doomed.recheckSlots _ s d (List.mem_filter.mpr ⟨mem_numbers w, hp⟩)).recheckHolder p

/-- Without a turn a re-check drops requests and no more. -/
theorem State.recheck_of_no_turn {s : State} (p : SlotId → Bool) (ht : s.turn = none) : s.SlotsOnly (s.recheck p) := by
  have e := (State.SlotsOnly.refl s).recheckSlots ((numbers 32).filter p)
  unfold State.recheck State.recheckHolder
  rw [e.turn, ht]
  exact e

end Sys2Proof.Machine
end

section
/-! SetBand (O27). -/

namespace Sys2Proof.Machine

/-! ### What a SetBand carries (R95) -/

/-- The record of a SetBand with the codes `e` and `c`, clamped. -/
def bandRecordOf (p : BandArgs) (c : Fin 16) : BandRec :=
  ⟨decide (p.enabled = 1), c, clamp 1 4000 p.stationCeiling, clamp 1 4000 p.dutyCeiling, clamp 10 4000 p.fullScale⟩

theorem flagOf_of_lt {n : Nat} (h : n < 2) : flagOf n = some (decide (n = 1)) := by
  match n, h with
  | 0, _ => rfl
  | 1, _ => rfl

theorem bandRecord?_valid {p : BandArgs} {b : BandId} {c : Fin 16} (hb : p.band = b.val) (he : p.enabled < 2)
    (hc : p.relayCode = c.val) : bandRecord? p = some (b, bandRecordOf p c) := by
  simp only [bandRecord?, hb, hc, indexOf_val, flagOf_of_lt he]
  rfl

theorem bandRecord?_invalid {p : BandArgs} (h : 12 ≤ p.band ∨ 2 ≤ p.enabled ∨ 16 ≤ p.relayCode) :
    bandRecord? p = none := by
  unfold bandRecord?
  rcases h with h | h | h
  · simp [indexOf_of_le h]
  · simp [flagOf_of_le h]
  · simp [indexOf_of_le h]

theorem bandStatus_eq (p : BandArgs) (c : Fin 16) : okStatus (bandClamped p) =
    if p.stationCeiling = (bandRecordOf p c).stationCeiling ∧ p.dutyCeiling = (bandRecordOf p c).dutyCeiling ∧
      p.fullScale = (bandRecordOf p c).fullScale then .ok else .okClamped := by
  by_cases h : bandClamped p = true
  · rw [okStatus, if_pos h, if_neg]
    rintro ⟨hs, hd, hf⟩
    simp only [bandRecordOf] at hs hd hf
    simp [bandClamped, outside, ← hs, ← hd, ← hf] at h
  · rw [okStatus, if_neg h, if_pos]
    simp only [bandClamped, outside, Bool.or_eq_true, decide_eq_true_eq, not_or, not_not] at h
    exact ⟨h.1.1.symm, h.1.2.symm, h.2.symm⟩

/-! ### The branches of SetBand (R95, R99) -/

/-- The record is stored for band `b`. -/
def State.storeBand (b : BandId) (r : BandRec) (s : State) : State :=
  { s with drv := { s.drv with bands := s.drv.bands.write b r } }

@[simp] theorem State.storeBand_arb (b : BandId) (r : BandRec) (s : State) : (s.storeBand b r).arb = s.arb := rfl

section SetBand

variable {s : State} {tag : Nat} {p : BandArgs} {b : BandId} {r : BandRec}

theorem exec_setBand (hc : s.closed = false) (hn : s.tenthsDue = 0) :
    exec (.setBand tag 0xFF p) s = .next ((State.setBand p s.readyToTake).reply 0x06 tag) :=
  congrArg Host.Outcome.next (State.takeStation_taken hc hn)

/-- The conditions under which a SetBand is stored: out of service, or with the band map not in use and the commission
checks kept. -/
def State.takesBand (b : BandId) (r : BandRec) (s : State) : Prop :=
  s.prt.station = .uncommissioned ∨ (s.seq.state = .quiet ∧ (∀ tn ∈ s.turn, tn.band ≠ b) ∧
    configFault (s.drv.bands.write b r) s.drv.barefootCal s.drv.amplifiedCal s.drv.barefootCeiling = none)

theorem State.bandBusy_eq_false (hq : s.seq.state = .quiet) (ht : ∀ tn ∈ s.turn, tn.band ≠ b) :
    s.bandBusy b = false := by
  cases h : s.turn <;> simp_all [State.bandBusy]

theorem State.setBand_stores (hp : bandRecord? p = some (b, r)) (h : s.takesBand b r) :
    State.setBand p s = ⟨((s.storeBand b r).bandEffects b (s.drv.bands.read b) r).settle, okStatus (bandClamped p),
      .empty⟩ := by
  rcases h with h | ⟨hq, ht, hf⟩
  · have hin : s.inService = false := by simp [State.inService, h]
    simp only [State.setBand, hp, hin]
    rfl
  · simp only [State.setBand, hp, State.bandBusy_eq_false hq ht, Bool.and_false, hf, ite_self]
    rfl

/-- A band map in use refuses the SetBand. -/
theorem State.setBand_busy (hp : bandRecord? p = some (b, r)) (hs : s.prt.station ≠ .uncommissioned)
    (hu : s.seq.state ≠ .quiet ∨ ∃ tn, s.turn = some tn ∧ tn.band = b) : State.setBand p s = refuse .busy s := by
  have hbusy : s.bandBusy b = true := by
    rcases hu with hu | ⟨tn, ht, rfl⟩
    · simp [State.bandBusy, hu]
    · simp [State.bandBusy, ht]
  have hin : s.inService = true := decide_eq_true hs
  simp only [State.setBand, hp, hin, hbusy]
  rfl

/-- A commission check that the record would break refuses it. -/
theorem State.setBand_configInvalid {y : ConfigReason × Option BandId} (hp : bandRecord? p = some (b, r))
    (hs : s.prt.station ≠ .uncommissioned) (hq : s.seq.state = .quiet) (ht : ∀ tn ∈ s.turn, tn.band ≠ b)
    (hf : configFault (s.drv.bands.write b r) s.drv.barefootCal s.drv.amplifiedCal s.drv.barefootCeiling = some y) :
    State.setBand p s = configInvalid y s := by
  have hin : s.inService = true := decide_eq_true hs
  simp only [State.setBand, hp, State.bandBusy_eq_false hq ht, hin, hf]
  rfl

end SetBand

/-! ### The effects of a stored record (R96) -/

theorem State.bandEffects_evolves (b : BandId) (old new : BandRec) (s : State) :
    s.Evolves (s.bandEffects b old new) := by
  have e : s.Evolves (if old.enabled = true ∧ new.enabled = false then s.recheck fun _ => true else s) :=
    .ite (.recheck (.refl s) _) (.refl s)
  exact .ite e.same e

/-- SEQ rests in QUIET out of READY with a current band and a BAND code. -/
structure State.Rests (cb : Option BandId) (bc : Fin 16) (s : State) : Prop where
  quiet : s.seq.state = .quiet
  ready : s.ready = false
  band : s.seq.currentBand = cb
  code : s.seq.bandCode = bc

/-- A change outside of it. -/
theorem State.Rests.same {cb : Option BandId} {bc : Fin 16} {s t : State} (h : s.Rests cb bc)
    (hs : t.seq.state = s.seq.state := by rfl) (hr : t.ready = s.ready := by rfl)
    (hb : t.seq.currentBand = s.seq.currentBand := by rfl) (hc : t.seq.bandCode = s.seq.bandCode := by rfl) :
    t.Rests cb bc :=
  ⟨hs.trans h.quiet, hr.trans h.ready, hb.trans h.band, hc.trans h.code⟩

theorem State.advance_of_quiet {s : State} (h : s.seq.state = .quiet) : s.advance = s := by
  rw [State.advance, h]

/-- Out of READY nothing moves SEQ from rest. -/
theorem State.Rests.settle {cb : Option BandId} {bc : Fin 16} {s : State} (h : s.Rests cb bc) :
    s.settle.Rests cb bc := by
  refine State.settle_induct (P := State.Rests cb bc) (fun u t ht h => ?_) (fun u h => ?_) (fun u h => h.same) h
  · rcases State.settleStep_cases ht with ⟨-, hopen, -⟩ | ⟨-, rfl⟩ | ⟨-, rfl⟩
    · simp [State.idTurnOpen, h.ready] at hopen
    · have harb : u.stopGap.arbitrate = u.stopGap.setArbiter .free := by
        have hr : u.stopGap.ready = false := h.ready
        simp [State.arbitrate, hr]
      unfold State.gapExpires
      split
      · rw [harb]
        exact h.same
      · exact h.same
    · rw [State.advance_of_quiet (by exact h.quiet)]
      exact h.same
  · unfold State.syncIdle State.modTurn
    split <;> exact h.same

/-- A turn end out of READY leaves SEQ at rest. -/
theorem State.Rests.turnEnd {cb : Option BandId} {bc : Fin 16} {s : State} (h : s.Rests cb bc) (c : TurnEndCause) :
    (s.turnEnd c).Rests cb bc := by
  cases ht : s.turn with
  | none => simpa [State.turnEnd, ht] using h
  | some t =>
    have hover : s.endTurnTx = s := State.endTurnTx_of_over (by simp [h.quiet]) (by simp [State.arming, h.quiet])
    have hseq := State.turnEnd_seq c ht (by rw [h.ready, Bool.and_false])
    have hprt := State.turnEnd_prt c ht
    rw [hover] at hseq hprt
    exact ⟨by rw [hseq]; exact h.quiet, by rw [State.ready, hprt]; exact h.ready, by rw [hseq]; exact h.band,
      by rw [hseq]; exact h.code⟩

theorem State.Rests.recheck {cb : Option BandId} {bc : Fin 16} {s : State} (h : s.Rests cb bc) (p : SlotId → Bool) :
    (s.recheck p).Rests cb bc := by
  have e := (State.SlotsOnly.refl s).recheckSlots ((numbers 32).filter p)
  have hr : (((numbers 32).filter p).foldl (fun s w => s.recheckSlot w) s).Rests cb bc :=
    ⟨by rw [e.seq]; exact h.quiet, by rw [State.ready, e.prt]; exact h.ready, by rw [e.seq]; exact h.band,
      by rw [e.seq]; exact h.code⟩
  unfold State.recheck State.recheckHolder
  split
  · split
    · exact hr.turnEnd _
    · exact hr
  · exact hr

/-- Out of service with SEQ QUIET, a changed relay code of the current band unsets it, and the BAND lines stay. -/
theorem State.Rests.bandEffects {cb : Option BandId} {bc : Fin 16} {s : State} (h : s.Rests cb bc) (b : BandId)
    (old new : BandRec) :
    (s.bandEffects b old new).Rests (if old.relayCode ≠ new.relayCode ∧ cb = some b then none else cb) bc := by
  have hr : (if old.enabled = true ∧ new.enabled = false then s.recheck fun _ => true else s).Rests cb bc := by
    split
    · exact h.recheck _
    · exact h
  unfold State.bandEffects
  dsimp only
  rw [hr.band]
  split
  · exact ⟨hr.quiet, hr.ready, rfl, hr.code⟩
  · exact hr

/-- With the current band unset and all else settled, only the quiet timer stops. -/
theorem State.settle_unset {s : State} (h : s.settled) :
    State.settle { s with seq := { s.seq with currentBand := none } } =
      { s with seq := { s.seq with currentBand := none }, idu := { s.idu with quiet := none } } := by
  obtain ⟨hstep, hidle, -⟩ := State.settled_iff.mp h
  have hnone : State.settleStep { s with seq := { s.seq with currentBand := none } } = none := by
    rw [State.settleStep_eq_none]
    exact ⟨by simp [State.idTurnOpen], hstep.2⟩
  have hsync : State.syncIdle { s with seq := { s.seq with currentBand := none } } =
      { s with seq := { s.seq with currentBand := none } } := State.syncIdle_eq_self.mpr hidle
  rw [State.settle, State.settleFor_of_none hnone, hsync]
  simp [State.syncQuiet, State.quietMayRun]

/-- In service the current band is unset after no more than drops. -/
theorem State.bandEffects_unsets {s : State} {b : BandId} {old new : BandRec} (hcur : s.seq.currentBand = some b)
    (hrelay : old.relayCode ≠ new.relayCode)
    (hoff : old.enabled = false ∨ new.enabled = true ∨ s.turn = none) :
    ∃ u, s.SlotsOnly u ∧ s.bandEffects b old new = { u with seq := { u.seq with currentBand := none } } := by
  have e : s.SlotsOnly (if old.enabled = true ∧ new.enabled = false then s.recheck fun _ => true else s) := by
    split
    · rename_i hdis
      refine State.recheck_of_no_turn _ ?_
      rcases hoff with h | h | h
      · rw [h] at hdis; cases hdis.1
      · rw [h] at hdis; cases hdis.2
      · exact h
    · exact .refl s
  refine ⟨_, e, ?_⟩
  unfold State.bandEffects
  dsimp only
  rw [if_pos ⟨hrelay, by rw [e.seq, hcur]⟩]

/-- A band that is disabled dooms the requests that name it. -/
theorem State.bandEffects_opens {s : State} {b : BandId} {old new : BandRec} {w : SlotId} {x : RequestRec}
    (hw : s.tenancy w = .waiting x) (hb : x.band = b) (ha : s.holder ≠ some w) (hold : old.enabled = true)
    (hnew : new.enabled = false) : ((s.storeBand b new).bandEffects b old new).OpenApart w := by
  have d : (s.storeBand b new).Doomed w :=
    ⟨⟨x, by rwa [State.tenancy, State.storeBand_arb], by simp [State.permit, State.storeBand, hb, hnew]⟩,
      by rwa [State.holder, State.turn, State.storeBand_arb]⟩
  have o : (State.recheck (fun _ => true) (s.storeBand b new)).OpenApart w := d.recheck rfl
  unfold State.bandEffects
  simp only [hold, hnew, and_self, if_true]
  generalize State.recheck _ _ = u at o ⊢
  split
  · exact o.of_arb rfl rfl
  · exact o

/-- Settles O27: a SetBand stores the record, re-checks what a disabled band takes away, and unsets a current band whose
relay code changed. -/
theorem setBandStores : Obligations.SetBandStores := by
  refine ⟨?_, ?_, ?_, ?_, ?_, ?_⟩
  · intro tag p b c s h r hc hn hb he hcode hin
    have hset := State.setBand_stores (s := h) (bandRecord?_valid hb he hcode) hin
    refine ⟨_, exec_setBand hc hn, ?_⟩
    rw [hset, bandStatus_eq p c]
    have hkept := ((h.storeBand b (bandRecordOf p c)).bandEffects_evolves b (h.drv.bands.read b) (bandRecordOf p c)).settle
    refine ⟨congrArg (·.bands) hkept.fixed, congrArg (fun f : Fixed => { f with bands := h.drv.bands }) hkept.fixed,
      Handled.replied _ _ _ ?_, fun hst hq => ?_, fun hst hq => ?_⟩
    · rw [← bandStatus_eq]
      exact okStatus_ne_unknown _
    · exact (State.Rests.settle (State.Rests.bandEffects (s := h.storeBand b (bandRecordOf p c))
        ⟨hq, by simp [State.ready, State.storeBand, hst], rfl, rfl⟩ b _ _)).band
    · exact (State.Rests.settle (State.Rests.bandEffects (s := h.storeBand b (bandRecordOf p c))
        ⟨hq, by simp [State.ready, State.storeBand, hst], rfl, rfl⟩ b _ _)).code
  · intro tag p b c s h hc hn hb he hcode hst hq ht hf hcur hrelay hoff hset
    have hstores := State.setBand_stores (s := h) (bandRecord?_valid hb he hcode) (.inr ⟨hq, ht, hf⟩)
    obtain ⟨u, e, hu⟩ := State.bandEffects_unsets (s := h.storeBand b (bandRecordOf p c))
      (old := h.drv.bands.read b) (new := bandRecordOf p c) hcur hrelay
      (hoff.imp_right (Or.imp_left decide_eq_true))
    have hsettled : u.settled := by
      rw [State.settled_congr e.arbiter e.gap e.seq e.idu e.prt]
      exact (State.settled_congr (s := s) (t := h.storeBand b (bandRecordOf p c)) rfl rfl rfl rfl rfl).mpr hset
    refine ⟨_, exec_setBand hc hn, ?_⟩
    rw [hstores, hu, State.settle_unset hsettled]
    exact ⟨congrArg (fun q : Seq => { q with currentBand := none }) e.seq, e.arbiter, e.gap, e.msr, e.ktl, e.amg, e.prt,
      congrArg (fun i : Idu => { i with quiet := none }) e.idu⟩
  · intro tag p b s h hc hn hb he hcode hst hbusy
    have hp := bandRecord?_valid (c := ⟨p.relayCode, hcode⟩) hb he rfl
    rw [exec_setBand hc hn, State.setBand_busy (s := s.readyToTake) hp hst hbusy]
    rfl
  · intro tag p s h hc hn hp
    rw [exec_setBand hc hn, State.setBand, bandRecord?_invalid hp]
    rfl
  · intro tag p b c y s h hc hn hb he hcode hst hq ht hf
    rw [exec_setBand hc hn,
      State.setBand_configInvalid (s := s.readyToTake) (bandRecord?_valid hb he hcode) hst hq ht hf]
    rfl
  · intro tag p b c s h r hc hn hone hb he hcode hon hin
    have hlt : p.enabled < 2 := by omega
    have hstores := State.setBand_stores (s := h) (bandRecord?_valid hb hlt hcode) hin
    have hkept := ((h.storeBand b (bandRecordOf p c)).bandEffects_evolves b (h.drv.bands.read b) (bandRecordOf p c)).settle
    refine ⟨_, exec_setBand hc hn, ?_⟩
    rw [hstores]
    refine ⟨congrArg (·.bands) hkept.fixed, fun w x hw hx => ?_⟩
    have hapart : h.holder ≠ some w := fun hh => by
      have hholding := (hone w).mpr hh
      rw [show s.tenancy w = .waiting x from hw] at hholding
      cases hholding
    have hoff : (bandRecordOf p c).enabled = false := by simp [bandRecordOf, he]
    exact (State.bandEffects_opens hw hx hapart hon hoff).settle.opened

end Sys2Proof.Machine
end

section
/-! Seize (O50): the grant of a seizer, and the mark of one that waits for the end of an ID turn. -/

namespace Sys2Proof.Machine

/-! ### A grant that settles (R30) -/

/-- After a grant and settling the slot holds the transmitter on the terms of the request, with the gap stopped and the
ranks rotated, and the other slots are as they were. -/
theorem State.grantRequest_settles (w : SlotId) (r : RequestRec) (s : State) :
    let t := (s.grantRequest w r).settle
    t.turn.map Turn.terms = some (s.newTurn w r).terms ∧ t.arb.slots = s.arb.slots.write w .holding ∧
      t.arb.gap = none ∧ t.arb.ranks = rotate s.arb.ranks w ∧ (s.grantSteps w r).Evolves t := by
  intro t
  have harb := s.grantSteps_arb w r
  have hturn : (s.grantSteps w r).turn = some (s.newTurn w r) := by rw [State.turn, harb]
  have e := s.grantRequest_lasts w r
  have hgap : (s.grantRequest w r).arb.gap = none := by rw [e.gap, harb]
  obtain ⟨v, hv⟩ : ∃ v, (s.grantRequest w r).turn = some v := by
    have key := e.turnTerms
    rw [hturn] at key
    obtain ⟨v, hv, -⟩ := Option.map_eq_some_iff.mp key
    exact ⟨v, hv⟩
  have l := e.trans (State.lasts_settle_of_turn hv (by rw [hgap]; rfl))
  exact ⟨by rw [l.turnTerms, hturn]; rfl, by rw [l.slots, harb], by rw [l.gap, harb], by rw [l.ranks, harb],
    (State.Evolves.enterGranted (.refl _) r).settle⟩

/-! ### Seizing (R39, R40) -/

/-- Leaving OPEN touches the presence timer alone. -/
theorem State.leaveOpen_eq (w : SlotId) (s : State) :
    ∃ p, s.leaveOpen w = { s with arb := { s.arb with presence := p } } := by
  unfold State.leaveOpen State.startPresence
  split
  · split
    · exact ⟨_, rfl⟩
    · exact ⟨_, rfl⟩
  · exact ⟨_, rfl⟩

section Seize

variable {s : State} {tag actor : Nat} {a : Actor}

theorem exec_seize (ht : s.takes .controlSlot actor a) (w b e n : Nat) :
    exec (.seize tag actor w b e n) s = .next ((State.seize w b e n a (s.heard a)).reply 0x30 tag) := by
  obtain ⟨hc, hn, ha, hp⟩ := ht
  exact congrArg Host.Outcome.next (State.takeRequest_taken _ _ _ _ _ hc hn ha hp)

theorem Actor.maySeizeFor_of {w : SlotId} (h : a = .slot w ∨ a = .station) : a.maySeizeFor w = true := by
  rcases h with rfl | rfl
  · exact decide_eq_true rfl
  · rfl

theorem emissionOf_of_lt {n : Nat} (h : n < 3) : ∃ e, emissionOf n = some e := by
  match n, h with
  | 0, _ => exact ⟨_, rfl⟩
  | 1, _ => exact ⟨_, rfl⟩
  | 2, _ => exact ⟨_, rfl⟩

variable {w : SlotId} {b : BandId} {e : Emission} {ec n : Nat}

/-- A Seize with valid codes by the slot itself or STATION, in READY, for a slot that is not the holder, is judged by
checks 4, 6 and 7, and then acts. -/
theorem State.seize_judged (ha : a = .slot w ∨ a = .station) (he : emissionOf ec = some e) (hr : s.ready = true)
    (hh : s.holder ≠ some w) : State.seize w.val b.val ec n a s =
      match s.seizeRefusal w (s.seizeRequest b e n) with
      | some x => refuse x s
      | none => ⟨(s.seizeNow w (s.seizeRequest b e n)).1.settle, okStatus (s.turn.isNone && outside 1 4000 n),
          .seize (s.seizeNow w (s.seizeRequest b e n)).2⟩ := by
  have hhold : s.holdsTurn w = false := decide_eq_false hh
  simp only [State.seize, indexOf_val, he, Actor.maySeizeFor_of ha, hr, hhold]
  rfl

/-- Such a slot that no check refuses seizes. -/
theorem exec_seize_acts {r : RequestRec} (ht : s.takes .controlSlot actor a) (ha : a = .slot w ∨ a = .station)
    (he : emissionOf ec = some e) (hr : s.prt.station = .ready) (hv : s.tenancy w ≠ .vacant)
    (hb : (s.identity w).heldBack = false) (hc : (s.classOf w).control = true) (hx : s.exhausted w = false)
    (hh : s.holder ≠ some w) (hreq : (s.heard a).seizeRequest b e n = r) (hp : s.permit w r.band r.emission = true) :
    exec (.seize tag actor w.val b.val ec n) s = .next ((⟨((s.heard a).seizeNow w r).1.settle,
      okStatus (s.turn.isNone && outside 1 4000 n), .seize ((s.heard a).seizeNow w r).2⟩ : Handled).reply 0x30 tag) := by
  have hvac : (s.heard a).vacant w = false := decide_eq_false (by simpa using hv)
  have hnone : (s.heard a).seizeRefusal w r = none := by simp [State.seizeRefusal, hvac, hb, hc, hp, hx]
  rw [exec_seize ht, State.seize_judged ha he (by simp [State.ready, hr]) (by simpa using hh), hreq, hnone,
    State.heard_turn]

theorem okStatus_outside (n : Nat) :
    okStatus (true && outside 1 4000 n) = if clamp 1 4000 n = n then .ok else .okClamped := by
  by_cases h : clamp 1 4000 n = n <;> simp [okStatus, outside, h]

end Seize

/-! ### What a Seize leaves -/

@[simp] theorem State.leaveOpen_turn (w : SlotId) (s : State) : (s.leaveOpen w).turn = s.turn := by
  obtain ⟨p, hp⟩ := s.leaveOpen_eq w
  rw [hp]
  rfl

@[simp] theorem State.leaveOpen_lnk (w : SlotId) (s : State) : (s.leaveOpen w).lnk = s.lnk := by
  obtain ⟨p, hp⟩ := s.leaveOpen_eq w
  rw [hp]

@[simp] theorem State.leaveOpen_prt (w : SlotId) (s : State) : (s.leaveOpen w).prt = s.prt := by
  obtain ⟨p, hp⟩ := s.leaveOpen_eq w
  rw [hp]

@[simp] theorem State.leaveOpen_slots (w : SlotId) (s : State) : (s.leaveOpen w).arb.slots = s.arb.slots := by
  obtain ⟨p, hp⟩ := s.leaveOpen_eq w
  rw [hp]

@[simp] theorem State.leaveOpen_ranks (w : SlotId) (s : State) : (s.leaveOpen w).arb.ranks = s.arb.ranks := by
  obtain ⟨p, hp⟩ := s.leaveOpen_eq w
  rw [hp]

/-- Once the member turn has ended, the ID turn has the transmitter, or none has and no gap runs. -/
theorem State.cleared_arb {s : State} {t : Turn} (w : SlotId) (ht : s.turn = some t) :
    ((s.leaveOpen w).turnEnd .seized).arb = { (s.leaveOpen w).arb with
      slots := s.arb.slots.write t.holder (if t.mode = .standing then .waiting t.requeued else .opened)
      presence := if t.mode = .standing then (s.leaveOpen w).arb.presence
        else (s.leaveOpen w).arb.presence.write t.holder none
      arbiter := if decide (t.sub = .paused) && s.ready then .idTurn else .free
      gap := none } := by
  rw [State.turnEnd_arb .seized ((State.leaveOpen_turn w s).trans ht)]
  simp [requeues, startsGap, State.ready]

/-- A seizer that no ID turn makes wait is granted once the member turn has ended. -/
theorem State.seizeNow_grants {s : State} {w : SlotId} {r : RequestRec}
    (h : ((s.leaveOpen w).turnEnd .seized).arb.arbiter ≠ .idTurn) :
    s.seizeNow w r = (((s.leaveOpen w).turnEnd .seized).stopGap.grantRequest w r, .granted) := by
  simp only [State.seizeNow, h, if_false]

/-- In an ID turn it waits with a seize mark. -/
theorem State.seizeNow_marks {s : State} {w : SlotId} {r : RequestRec}
    (h : ((s.leaveOpen w).turnEnd .seized).arb.arbiter = .idTurn) :
    s.seizeNow w r = (((s.leaveOpen w).turnEnd .seized).setTenancy w (.waiting { r with mark := true }), .marked) := by
  simp only [State.seizeNow, h, if_true]

theorem State.leaveOpen_evolves (w : SlotId) (s : State) : s.Evolves (s.leaveOpen w) := by
  obtain ⟨p, hp⟩ := s.leaveOpen_eq w
  rw [hp]
  exact .same (.refl s)

/-- The member turn has ended, if there was one, when a seizer is granted or marked. -/
theorem State.cleared_evolves (w : SlotId) (s : State) : s.Evolves ((s.leaveOpen w).turnEnd .seized) :=
  (s.leaveOpen_evolves w).turnEnd _

theorem State.cleared_reports (w : SlotId) (s : State) :
    ((s.leaveOpen w).turnEnd .seized).lnk.reports.length ≤ s.lnk.reports.length + 2 := by
  simpa using State.turnEnd_reports .seized (s.leaveOpen w)

theorem State.cleared_ranks (w : SlotId) (s : State) : ((s.leaveOpen w).turnEnd .seized).arb.ranks = s.arb.ranks := by
  cases ht : s.turn with
  | none => rw [State.turnEnd, State.leaveOpen_turn, ht, State.leaveOpen_ranks]
  | some t => rw [State.cleared_arb w ht, State.leaveOpen_ranks]

/-- The end of the turn that makes room is raised, whatever follows. -/
theorem State.raised_cleared {s u : State} {t : Turn} (w : SlotId) (ht : s.turn = some t)
    (after : ((s.leaveOpen w).turnEnd .seized).Evolves u) :
    s.raised u (.turnEnded t.holder .seized (decide (t.mode = .standing))) := by
  have key := State.raised_turnEnded (c := .seized) ((State.leaveOpen_turn w s).trans ht) (s.leaveOpen_evolves w).link
    (by simp) after.link
  rwa [show (decide (t.mode = .standing) && requeues .seized) = decide (t.mode = .standing) from Bool.and_true _] at key

/-- A granted seizer holds the transmitter in the terms of its request, and no other slot is touched by the grant. -/
theorem State.seizeNow_granted {s : State} {w : SlotId} {r : RequestRec}
    (hid : ((s.leaveOpen w).turnEnd .seized).arb.arbiter ≠ .idTurn) :
    let g := (s.leaveOpen w).turnEnd .seized
    let t := (s.seizeNow w r).1.settle
    (s.seizeNow w r).2 = .granted ∧
      t.turn.map (fun x => (x.holder, x.band, x.emission, x.power, x.mode)) =
        some (w, r.band, r.emission, r.power, r.mode) ∧
      t.arb.slots = g.arb.slots.write w .holding ∧ t.arb.gap = none ∧
      (∀ u, t.arb.ranks.read u = if u = w then 0
        else if s.arb.ranks.read u < s.arb.ranks.read w then s.arb.ranks.read u + 1 else s.arb.ranks.read u) ∧
      s.raised t (.turnGranted w r.band r.emission r.power) ∧ g.Evolves t ∧ t.fixed = s.fixed := by
  intro g t
  have hnow := State.seizeNow_grants (r := r) hid
  have ht : t = (g.stopGap.grantRequest w r).settle := by rw [show t = (s.seizeNow w r).1.settle from rfl, hnow]
  obtain ⟨hturn, hslots, hgap, hranks, hafter⟩ := State.grantRequest_settles w r g.stopGap
  rw [← ht] at hturn hslots hgap hranks hafter
  have e : g.Evolves t := by
    rw [ht]
    exact ((State.Evolves.stopGap (.refl g)).grantRequest w r).settle
  have eg := s.cleared_evolves w
  have hroom := s.cleared_reports w
  refine ⟨by rw [hnow], ?_, hslots, hgap, fun u => ?_, ?_, e, (eg.trans e).fixed⟩
  · have key := congrArg (Option.map fun x : Turn => (x.holder, x.band, x.emission, x.power, x.mode)) hturn
    simpa [Function.comp_def, Turn.terms, State.newTurn] using key
  · rw [hranks, rotate_read]
    simp only [show g.stopGap.arb.ranks = s.arb.ranks from s.cleared_ranks w]
  · exact State.raised_turnGranted (s := g.stopGap) eg.link (hroom.trans (by omega)) hafter.link

/-- Where there is no turn, there is none to end. -/
theorem State.cleared_of_no_turn {s : State} (w : SlotId) (ht : s.turn = none) :
    (s.leaveOpen w).turnEnd .seized = s.leaveOpen w := by
  rw [State.turnEnd, State.leaveOpen_turn, ht]

/-! ### A Seize in an ID turn or in a pause (R38, R40) -/

theorem State.leaveOpen_presence (w : SlotId) (s : State) : (s.leaveOpen w).arb.presence.read w =
    if s.tenancy w = .opened ∧ w ≠ 0 then some ⟨s.clock, s.arb.presenceTimeout * 1000⟩
    else s.arb.presence.read w := by
  unfold State.leaveOpen
  by_cases hopen : s.tenancy w = .opened
  · by_cases hw : w = 0
    · simp only [hw, State.startPresence]
      split <;> simp
    · simp [State.startPresence, hopen, hw, Table.read_write_same]
  · rw [if_neg fun k => hopen k.1]
    split
    · contradiction
    · rfl

/-- In an ID turn a seizer waits with its mark, and nothing comes about at once. -/
theorem State.marked_settled {s : State} (w : SlotId) (x : Tenancy) (h : s.settled) :
    ((s.leaveOpen w).setTenancy w x).settle = (s.leaveOpen w).setTenancy w x := by
  refine State.settle_eq_self ?_
  obtain ⟨p, hp⟩ := s.leaveOpen_eq w
  refine (State.settled_congr (s := s) ?_ ?_ ?_ ?_ ?_).mpr h <;> rw [hp] <;> rfl

theorem State.endTurnTx_of_not_running {s : State} (h : s.running = false) : s.endTurnTx = s := by
  cases hm : s.memberTx with
  | false => simp [State.endTurnTx, hm]
  | true =>
    simp only [State.running, hm, Bool.true_and, Bool.or_eq_false_iff, decide_eq_false_iff_not] at h
    exact State.endTurnTx_of_over h.2 h.1

/-- A cycle that moves is in CLOSING only where it was. -/
theorem State.moveCycle_closing {s : State} {b : Bool} (h : (s.moveCycle b).idu.cycle = .closing) :
    s.idu.cycle = .closing := by
  unfold State.moveCycle at h
  dsimp only at h
  split at h
  · exact absurd (((State.Lasts.refl _).beginCycle _).closing h) (by simp_all)
  · exact h

/-- SEQ stays where a cycle goes on. -/
theorem State.moveCycle_seq_of_cycle {s : State} {b : Bool} (h : s.idu.cycle ≠ .idle) :
    (s.moveCycle b).seq = s.seq := by
  simp [State.moveCycle, h]

@[simp] theorem State.writeRecord_idu (r : TurnRec) (s : State) : (s.writeRecord r).idu = s.idu := by
  unfold State.writeRecord; split <;> rfl

@[simp] theorem State.leaveHolding_idu (t : Turn) (b : Bool) (s : State) : (s.leaveHolding t b).idu = s.idu := by
  unfold State.leaveHolding; split <;> rfl

/-- After a turn end a cycle is in CLOSING only where it was, and then SEQ does no more than forget the turn. -/
theorem State.turnEnd_closing {s : State} {t : Turn} (c : TurnEndCause) (ht : s.turn = some t)
    (h : (s.turnEnd c).idu.cycle = .closing) :
    s.endTurnTx.idu.cycle = .closing ∧ (s.turnEnd c).seq = s.endTurnTx.forgetTurn.seq := by
  simp only [State.turnEnd, ht, State.leaveHolding_idu] at h
  have hmoved := State.moveCycle_closing h
  refine ⟨by simpa [State.forgetTurn] using hmoved, ?_⟩
  simp only [State.turnEnd, ht, State.leaveHolding_seq]
  rw [State.moveCycle_seq_of_cycle (by rw [hmoved]; decide)]
  simp

theorem State.leaveOpen_running {s : State} (w : SlotId) (h : s.running = false) : (s.leaveOpen w).running = false := by
  obtain ⟨p, hp⟩ := s.leaveOpen_eq w
  rw [hp]
  exact h

theorem State.cleared_prt {s : State} {t : Turn} (w : SlotId) (ht : s.turn = some t) (hrun : s.running = false) :
    ((s.leaveOpen w).turnEnd .seized).prt = s.prt := by
  rw [State.turnEnd_prt .seized ((State.leaveOpen_turn w s).trans ht),
    State.endTurnTx_of_not_running (State.leaveOpen_running w hrun), State.leaveOpen_prt]

/-- The turn end touches the presence timer of its holder alone. -/
theorem State.cleared_presence {s : State} {t : Turn} {w : SlotId} (ht : s.turn = some t) (hw : t.holder ≠ w) :
    ((s.leaveOpen w).turnEnd .seized).arb.presence.read w = (s.leaveOpen w).arb.presence.read w := by
  rw [State.cleared_arb w ht]
  dsimp only
  split
  · rfl
  · exact Table.read_write_other _ _ hw.symm

/-- After a Seize in a pause the seizer waits, and what settling brings about ends no ID turn (R38). -/
theorem State.marked_lasts {s : State} {t : Turn} (w : SlotId) (x : Tenancy) (ht : s.turn = some t)
    (hrun : s.running = false) (hstep : zeroLength s.seq.step = false)
    (hid : ((s.leaveOpen w).turnEnd .seized).arb.arbiter = .idTurn) :
    (((s.leaveOpen w).turnEnd .seized).setTenancy w x).Lasts
      (((s.leaveOpen w).turnEnd .seized).setTenancy w x).settle := by
  have hl : (s.leaveOpen w).turn = some t := (State.leaveOpen_turn w s).trans ht
  have htx : (s.leaveOpen w).endTurnTx.seq = s.seq := by
    obtain ⟨p, hp⟩ := s.leaveOpen_eq w
    rw [State.endTurnTx_of_not_running (State.leaveOpen_running w hrun), hp]
  have hgap : ((s.leaveOpen w).turnEnd .seized).arb.gap = none := by rw [State.cleared_arb w ht]
  have hclosing := State.turnEnd_closing .seized hl
  generalize (s.leaveOpen w).turnEnd .seized = g at hid hgap hclosing ⊢
  have hv : (g.setTenancy w x).arb.arbiter = .idTurn := hid
  have hz : zeroLength (g.setTenancy w x).arb.gap = false := by
    rw [show (g.setTenancy w x).arb.gap = none from hgap]
    rfl
  by_cases hc : g.idu.cycle = .closing
  · have hseq : (g.setTenancy w x).seq.step = s.seq.step := by
      have := congrArg (·.step) (hclosing hc).2
      simpa [State.forgetTurn, htx] using this
    have hnone : (g.setTenancy w x).settleStep = none := by
      rw [State.settleStep_eq_none, hseq]
      exact ⟨by simp [State.idTurnOpen, hv], hz, hstep⟩
    rw [State.settle, State.settleFor_of_none hnone]
    exact (State.Lasts.refl _).syncIdle.syncQuiet
  · exact State.lasts_settle hz (by simp [hv]) (fun _ => hc)

theorem State.seizeRequest_of_no_turn {s : State} {b : BandId} {e : Emission} {n : Nat} (ht : s.turn = none) :
    s.seizeRequest b e n = ⟨b, e, clamp 1 4000 n, .once, .frame, false⟩ := by
  rw [State.seizeRequest, ht]
  rfl

theorem State.seizeRequest_of_turn {s : State} {b : BandId} {e : Emission} {n : Nat} {t : Turn} (ht : s.turn = some t) :
    s.seizeRequest b e n = ⟨t.band, t.emission, t.power, .once, .frame, false⟩ := by
  rw [State.seizeRequest, ht]

theorem State.holder_ne_of_turn {s : State} {w : SlotId} {t : Turn} (ht : s.turn = some t) (h : t.holder ≠ w) :
    s.holder ≠ some w := by
  simpa [State.holder, ht] using h

theorem State.holder_ne_of_no_turn {s : State} {w : SlotId} (ht : s.turn = none) : s.holder ≠ some w := by
  simp [State.holder, ht]

/-- Settles O50: a seizer that no check refuses is granted once the turn that stands has ended without a gap, and waits
with its mark where an ID turn has the transmitter then; a grant and a mark stand through settling. -/
theorem seizePutsTheSlotOnTheAir : Obligations.SeizePutsTheSlotOnTheAir := by
  refine ⟨?_, ?_, ?_, ?_, ?_, ?_, ?_, ?_⟩
  · intro tag actor a w b e ec n s h ht ha he hr hv hb hc hx hp harb
    have hturn : s.turn = none := by
      rcases harb with k | k <;> rw [State.turn, k]
    have hh : h.turn = none := by simpa [h] using hturn
    have hcleared := State.cleared_of_no_turn (s := h) w hh
    have hid : ((h.leaveOpen w).turnEnd .seized).arb.arbiter ≠ .idTurn := by
      obtain ⟨p, hp⟩ := h.leaveOpen_eq w
      rw [hcleared, hp]
      rcases harb with k | k <;> simp [h, k]
    obtain ⟨hnow, hterms, hslots, hgap, hranks, hraised, -, hfixed⟩ :=
      State.seizeNow_granted (r := ⟨b, e, clamp 1 4000 n, .once, .frame, false⟩) hid
    refine ⟨_, exec_seize_acts ht ha he hr hv hb hc hx (State.holder_ne_of_no_turn hturn)
      (State.seizeRequest_of_no_turn hh) hp, ?_⟩
    rw [hnow, hturn]
    refine ⟨hterms, ?_, hgap, hranks, (Handled.raised_reply ..).mpr hraised, ?_, hfixed⟩
    · rw [Handled.reply_tenancy, State.tenancy, hslots, Table.read_write_same]
    · rw [← okStatus_outside]
      exact Handled.replied _ _ _ (okStatus_ne_unknown _)
  · intro tag actor a w b e ec n tn s h ht ha he hr hv hb hc hx htn hne hsub hp
    have hh : h.turn = some tn := by simpa [h] using htn
    have harb := State.cleared_arb w hh
    have hid : ((h.leaveOpen w).turnEnd .seized).arb.arbiter ≠ .idTurn := by simp [harb, hsub]
    obtain ⟨hnow, hterms, hslots, hgap, hranks, hraised, hafter, hfixed⟩ :=
      State.seizeNow_granted (r := ⟨tn.band, tn.emission, tn.power, .once, .frame, false⟩) hid
    refine ⟨_, exec_seize_acts ht ha he hr hv hb hc hx (State.holder_ne_of_turn htn hne)
      (State.seizeRequest_of_turn hh) hp, ?_⟩
    rw [hnow, htn]
    refine ⟨hterms, ?_, hgap, ?_, hranks, (Handled.raised_reply ..).mpr (State.raised_cleared w hh hafter),
      (Handled.raised_reply ..).mpr hraised,
      Handled.replied _ _ _ (okStatus_ne_unknown ((some tn).isNone && outside 1 4000 n)), hfixed⟩
    · rw [Handled.reply_tenancy, State.tenancy, hslots, Table.read_write_same]
    · rw [Handled.reply_tenancy, State.tenancy, hslots, Table.read_write_other _ _ hne, harb, Table.read_write_same]
      rfl
  · intro tag actor a w b e ec n s h ht ha he hr hv hb hc hx hp harb hset
    have hturn : s.turn = none := by rw [State.turn, harb]
    have hh : h.turn = none := by simpa [h] using hturn
    have hid : h.arb.arbiter = .idTurn := by simpa [h] using harb
    obtain ⟨p, hp'⟩ := h.leaveOpen_eq w
    have hmarks := State.seizeNow_marks (s := h) (w := w) (r := ⟨b, e, clamp 1 4000 n, .once, .frame, false⟩)
      (by rw [State.cleared_of_no_turn w hh, hp']; exact hid)
    have hsettle := State.marked_settled (s := h) w (.waiting ⟨b, e, clamp 1 4000 n, .once, .frame, true⟩)
      ((State.settled_congr (by simp [h]) (by simp [h]) (by simp [h]) (by simp [h]) (by simp [h])).mpr hset)
    rw [State.cleared_of_no_turn w hh] at hmarks
    refine ⟨_, exec_seize_acts ht ha he hr hv hb hc hx (State.holder_ne_of_no_turn hturn)
      (State.seizeRequest_of_no_turn hh) hp, ?_⟩
    rw [hmarks, hturn]
    dsimp only
    rw [hsettle, hp', ← okStatus_outside]
    exact ⟨State.tenancy_setTenancy_same .., hid, rfl, rfl, rfl, rfl, rfl, rfl, rfl, rfl, rfl,
      Handled.replied _ _ _ (okStatus_ne_unknown _), rfl⟩
  · intro tag actor a w b e ec n tn s h ht ha he hr hv hb hc hx htn hne hsub hrun hp hset
    have hh : h.turn = some tn := by simpa [h] using htn
    have harb := State.cleared_arb w hh
    have hid : ((h.leaveOpen w).turnEnd .seized).arb.arbiter = .idTurn := by simp [harb, hsub, State.ready, h, hr]
    have hrunning : h.running = false := by simpa [State.running, State.memberTx, State.arming, h] using hrun
    have hmarks := State.seizeNow_marks (r := ⟨tn.band, tn.emission, tn.power, .once, .frame, false⟩) hid
    have hlasts := State.marked_lasts w (.waiting ⟨tn.band, tn.emission, tn.power, .once, .frame, true⟩) hh
      hrunning (by simpa [h] using (State.settled_iff.mp hset).1.2.2) hid
    refine ⟨_, exec_seize_acts ht ha he hr hv hb hc hx (State.holder_ne_of_turn htn hne)
      (State.seizeRequest_of_turn hh) hp, ?_⟩
    rw [hmarks, htn]
    dsimp only
    have hafter := ((State.Evolves.refl ((h.leaveOpen w).turnEnd .seized)).setTenancy w
      (.waiting ⟨tn.band, tn.emission, tn.power, .once, .frame, true⟩)).settle
    have hkept := hlasts.arb (State.turn_turnEnd .seized (h.leaveOpen w))
    refine ⟨?_, ?_, ?_, ?_, ?_, ?_, (Handled.raised_reply ..).mpr (State.raised_cleared w hh hafter), ?_,
      Handled.replied _ _ _ (okStatus_ne_unknown ((some tn).isNone && outside 1 4000 n)),
      ((h.cleared_evolves w).trans hafter).fixed⟩
    · rw [Handled.reply_arb, hkept]
      exact hid
    · rw [Handled.reply_arb, hkept]
      exact congrArg (·.gap) harb
    · rw [Handled.reply_arb, hkept]
      exact h.cleared_ranks w
    · rw [Handled.reply_tenancy, hlasts.tenancy, State.tenancy_setTenancy_same]
    · rw [Handled.reply_arb, hkept, ← State.leaveOpen_presence]
      exact State.cleared_presence hh hne
    · rw [Handled.reply_tenancy, hlasts.tenancy, State.tenancy_setTenancy_other _ _ hne, State.tenancy, harb,
        Table.read_write_same]
      rfl
    · rw [Handled.reply_prt, hlasts.prt]
      exact State.cleared_prt w hh hrunning
  · intro tag actor a w b e ec n s h q ht ha he hr hh hv hb hc hno
    have hvac : h.vacant w = false := decide_eq_false (by simpa [h] using hv)
    have hreq : ((h.seizeRequest b e n).band, (h.seizeRequest b e n).emission) = q := by
      cases hturn : s.turn <;> simp [State.seizeRequest, h, q, hturn]
    have hcheck : h.seizeRefusal w (h.seizeRequest b e n) =
        some (if s.permit w q.1 q.2 = false then .notPermitted else .noAllowance) := by
      rw [← hreq] at hno ⊢
      by_cases hp : s.permit w (h.seizeRequest b e n).band (h.seizeRequest b e n).emission = false
      · simp [State.seizeRefusal, hvac, h, hb, hc, hp]
      · simp [State.seizeRefusal, hvac, h, hb, hc, hp, hno.resolve_left hp]
    rw [exec_seize ht, State.seize_judged ha he (by simp [State.ready, hr]) (by simpa using hh), hcheck]
    rfl
  · intro tag actor a w b ec n s h ht ha he hor
    obtain ⟨e, he⟩ := emissionOf_of_lt he
    simp only [exec_seize ht, State.seize, indexOf_val, he, Actor.maySeizeFor_of ha]
    by_cases hr : s.prt.station = .ready
    · have hready : (s.heard a).ready = true := by simp [State.ready, hr]
      have hholds : (s.heard a).holdsTurn w = true := by
        simpa [State.holdsTurn] using hor.resolve_left (not_not_intro hr)
      rw [hready, hholds, if_pos hr]
      rfl
    · have hready : (s.heard a).ready = false := by simp [State.ready, hr]
      rw [hready, if_neg hr]
      rfl
  · intro tag actor a w v b ec n s h ht ha hne
    have hmay : a.maySeizeFor w = false := by
      rw [ha]
      exact decide_eq_false hne
    rw [exec_seize ht, State.seize, indexOf_val, indexOf_val]
    cases emissionOf ec with
    | none => rfl
    | some e => 
      simp only [hmay, if_true]
      rfl
  · intro tag actor a w b ec n s h ht ha he hr hh hno
    obtain ⟨e, he⟩ := emissionOf_of_lt he
    have hwrong : h.seizeRefusal w (h.seizeRequest b e n) = some .wrongState := by
      rw [State.seizeRefusal, if_pos]
      simpa [h, State.vacant] using hno
    rw [exec_seize ht, State.seize_judged ha he (by simp [State.ready, hr]) (by simpa using hh), hwrong]
    rfl

end Sys2Proof.Machine
end

section
/-! The change of the class that governs one slot (R11 to R14): whom the re-check and the limits find. -/

namespace Sys2Proof.Machine

/-! ### One slot is concerned -/

theorem filter_numbers_eq (w : SlotId) : (numbers 32).filter (fun v => decide (v = w)) = [w] := by
  have hcount : (numbers 32).count w = 1 :=
    List.count_eq_one_of_mem (List.nodup_ofFn.mpr Function.injective_id) (mem_numbers w)
  rw [List.filter_eq, hcount]
  rfl

section OneSlot

variable {s : State} {w : SlotId} {old new : ClassRec}

theorem State.OpenApart.unmark (o : s.OpenApart w) (v : SlotId) : (s.unmark v).OpenApart w := by
  refine ⟨?_, by rw [((State.SlotsOnly.refl s).unmark v).holder]; exact o.apart⟩
  by_cases h : w = v
  · subst h
    simp [State.unmark, o.opened]
  · unfold State.unmark
    split
    · split
      · exact o.opened
      · exact (State.tenancy_setTenancy_other _ s h).trans o.opened
    · exact o.opened

/-- A re-check finds no request of the holder. -/
theorem State.recheckSlot_of_holding (h : s.tenancy w = .holding) : s.recheckSlot w = s := by
  simp [State.recheckSlot, h]

/-- For a slot that does not hold the turn a changed class leaves or drops the request and its mark. -/
theorem State.classEffects_of_apart (h : s.holder ≠ some w) :
    s.classEffects (fun v => decide (v = w)) old new = (s.recheckSlot w).unmark w := by
  have hne (u : State) (e : s.SlotsOnly u) (t : Turn) (ht : u.turn = some t) : t.holder ≠ w := by
    rintro rfl
    exact h (by rw [← e.holder, State.holder, ht]; rfl)
  have e := (State.SlotsOnly.refl s).recheckSlot w
  have hrecheck : s.recheck (fun v => decide (v = w)) = s.recheckSlot w := by
    simp only [State.recheck, filter_numbers_eq, List.foldl_cons, List.foldl_nil, State.recheckHolder]
    cases ht : (s.recheckSlot w).turn with
    | none => rfl
    | some t => simp [hne _ e t ht]
  simp only [State.classEffects, hrecheck, State.unmarkAll, filter_numbers_eq, List.foldl_cons, List.foldl_nil]
  cases ht : ((s.recheckSlot w).unmark w).turn with
  | none => rfl
  | some t => simp [hne _ (e.unmark w) t ht]

/-- A holder that the new class does not permit loses the turn, and no limit is looked at. -/
theorem State.classEffects_of_barred {t : Turn} (ht : s.turn = some t) (hh : s.tenancy t.holder = .holding)
    (hp : s.permit t.holder t.band t.emission = false) :
    s.classEffects (fun v => decide (v = t.holder)) old new = (s.turnEnd .privilege).unmark t.holder := by
  have hrecheck : s.recheck (fun v => decide (v = t.holder)) = s.turnEnd .privilege := by
    simp only [State.recheck, filter_numbers_eq, List.foldl_cons, List.foldl_nil, State.recheckSlot_of_holding hh,
      State.recheckHolder, ht, hp]
    simp
  have hnone : ((s.turnEnd .privilege).unmark t.holder).turn = none := by
    rw [((State.SlotsOnly.refl _).unmark _).turn, State.turn_turnEnd]
  simp only [State.classEffects, hrecheck, State.unmarkAll, filter_numbers_eq, List.foldl_cons, List.foldl_nil, hnone]

/-- A permitted holder keeps the turn until the limits are compared. -/
theorem State.classEffects_of_permitted {t : Turn} (ht : s.turn = some t) (hh : s.tenancy t.holder = .holding)
    (hp : s.permit t.holder t.band t.emission = true) :
    s.classEffects (fun v => decide (v = t.holder)) old new =
      (if old.ceilings.read t.band = new.ceilings.read t.band then s else s.recomputeMember).compareLimits old new := by
  have hrecheck : s.recheck (fun v => decide (v = t.holder)) = s := by
    simp only [State.recheck, filter_numbers_eq, List.foldl_cons, List.foldl_nil, State.recheckSlot_of_holding hh,
      State.recheckHolder, ht, hp]
    simp
  have hunmark : s.unmark t.holder = s := by simp [State.unmark, hh]
  simp only [State.classEffects, hrecheck, State.unmarkAll, filter_numbers_eq, List.foldl_cons, List.foldl_nil, hunmark,
    ht]
  simp

/-- Whom a changed class does not permit is OPEN after it. -/
theorem State.classEffects_waiting_openApart {x : RequestRec} (hx : s.tenancy w = .waiting x)
    (hp : s.permit w x.band x.emission = false) (h : s.holder ≠ some w) :
    (s.classEffects (fun v => decide (v = w)) old new).OpenApart w := by
  rw [State.classEffects_of_apart h]
  exact (State.Doomed.recheckSlot ⟨⟨x, hx, hp⟩, h⟩).unmark w

theorem State.classEffects_holding_openApart {t : Turn} (ht : s.turn = some t) (hh : s.tenancy t.holder = .holding)
    (hp : s.permit t.holder t.band t.emission = false) :
    (s.classEffects (fun v => decide (v = t.holder)) old new).OpenApart t.holder := by
  rw [State.classEffects_of_barred ht hh hp]
  exact (State.turnEnd_openApart ht rfl).unmark _

end OneSlot

/-! ### The limits of the holder (R13) -/

/-- What a changed limit does: the turn limit or the idle hang passed ends the turn, else the transmission limit passed
ends the transmission. -/
theorem State.compareLimits_eq {s : State} {t : Turn} {old new : ClassRec} (ht : s.turn = some t) :
    s.compareLimits old new = match s.passedLimit t old new with
      | some k => s.turnEnd k
      | none => if s.passedTxLimit old new then s.endMemberTx .txLimit else s := by
  have hread : ∀ idle late : Bool,
      idle = t.idleStart.any (fun i => decide (new.idleHang * 1000 ≤ sinceMs s.clock i)) →
      late = s.seq.tx.any (fun x => x.limitStart.any fun l => decide (new.txLimit * 1000 ≤ sinceMs s.clock l)) →
      (if new.turnLimit ≠ old.turnLimit ∧ new.turnLimit * 60000 ≤ sinceMs s.clock t.grantClock then
          s.turnEnd .turnLimit
        else if new.idleHang ≠ old.idleHang ∧ idle = true then s.turnEnd .idle
        else if new.txLimit ≠ old.txLimit ∧ s.memberExciting = true ∧ late = true then s.endMemberTx .txLimit
        else s) = match s.passedLimit t old new with
          | some k => s.turnEnd k
          | none => if s.passedTxLimit old new then s.endMemberTx .txLimit else s := by
    rintro _ _ rfl rfl
    simp only [State.passedLimit, State.passedTxLimit, Bool.and_eq_true, decide_eq_true_eq, and_assoc]
    split
    · rfl
    · split <;> rfl
  rw [State.compareLimits, ht]
  refine hread _ _ (by cases t.idleStart <;> rfl) ?_
  cases s.seq.tx with
  | none => rfl
  | some x => cases hl : x.limitStart <;> simp [hl]

/-! ### A turn that a limit ends (R35) -/

theorem State.endTurnTx_acu (s : State) : s.endTurnTx.acu = s.acu := by
  have hend (u : State) : (u.normalEnd .turnEnd).acu = u.acu := by
    unfold State.normalEnd
    split
    · unfold State.leaveExciting
      split <;> simp
    · rfl
  have hdisarm (u : State) : u.disarm.acu = u.acu := by
    unfold State.disarm
    split <;> rfl
  unfold State.endTurnTx
  split
  · split
    · exact hend s
    · split
      · simp [State.abandonArming, hdisarm]
      · rfl
  · rfl

@[simp] theorem State.takeIdStart_acu (s : State) : s.takeIdStart.acu = s.acu := by
  unfold State.takeIdStart; split <;> rfl

@[simp] theorem State.beginCycle_acu (c : CycleHome) (s : State) : (s.beginCycle c).acu = s.acu := by
  unfold State.beginCycle; dsimp only; split <;> simp

@[simp] theorem State.moveCycle_acu (b : Bool) (s : State) : (s.moveCycle b).acu = s.acu := by
  unfold State.moveCycle; dsimp only; split <;> simp

@[simp] theorem State.leaveHolding_acu (t : Turn) (b : Bool) (s : State) : (s.leaveHolding t b).acu = s.acu := by
  unfold State.leaveHolding; split <;> rfl

/-- The turn is the newest record after its end. -/
theorem State.turnEnd_record {s : State} {t : Turn} (c : TurnEndCause) (ht : s.turn = some t)
    (hn : s.acu.number < max32) :
    (s.turnEnd c).acu.records.getLast?.map (fun r => (r.number, r.slot, r.grantTime, r.cause)) =
      some (s.acu.number + 1, some t.holder, t.grantTime, c) := by
  have hacu : s.endTurnTx.forgetTurn.flushKeys.acu = s.acu := s.endTurnTx_acu
  have hnewest := State.writeRecord_newest (s := s.endTurnTx.forgetTurn.flushKeys)
    (s.endTurnTx.forgetTurn.flushKeys.memberRecord t c) (by rw [hacu]; exact hn.ne)
  rw [hacu] at hnewest
  simp only [State.turnEnd, ht, State.leaveHolding_acu, State.moveCycle_acu, State.afterTurn_acu, State.raise_acu,
    hnewest]
  rfl

/-- SEQ, with no turn and no identification to serve, does no more than run its lines down: ARB, ACU and IDU are as they
were, and of SEQ's waits only one of those that run down may take no time. -/
structure State.RunsDown (h s : State) : Prop where
  arb : s.arb = h.arb
  acu : s.acu = h.acu
  idu : s.idu = h.idu
  queued : s.seq.queuedRetune = none
  down : zeroLength s.seq.step = true →
    s.seq.state = .drain ∨ s.seq.state = .disarmAmp ∨ s.seq.state = .disarmRelay

/-- There is no turn, the gap takes time, and no identification is due, in a cycle or waiting to start. -/
structure State.Unclaimed (s : State) : Prop where
  turn : s.turn = none
  gap : zeroLength s.arb.gap = false
  due : s.idu.due = false
  idle : s.idu.cycle = .idle
  starts : s.idu.startWaits = false

theorem State.closeCycle_of_idle {s : State} {n : Nat} (h : s.idu.cycle = .idle) : s.closeCycle n = s := by
  simp [State.closeCycle, h]

theorem State.takePending_of_no_turn {s : State} (h : s.turn = none) : s.takePending = s := by
  rw [State.takePending, h]

/-- At QUIET entry nothing starts where nothing waits. -/
theorem State.RunsDown.enterQuiet {h s : State} (f : h.Unclaimed) (e : h.RunsDown s) : h.RunsDown s.enterQuiet := by
  have hclosed : s.overAndOut.closeCycle s.txAirTime = s.overAndOut :=
    State.closeCycle_of_idle (by rw [← f.idle, ← e.idu]; rfl)
  unfold State.enterQuiet
  dsimp only
  rw [show State.closeCycle _ { s with seq := { s.seq with tx := none, step := none } } = s.overAndOut from hclosed]
  generalize hq : State.startAmpIdle _ = q
  have hamp (u : State) : u.startAmpIdle.arb = u.arb ∧ u.startAmpIdle.acu = u.acu ∧ u.startAmpIdle.idu = u.idu ∧
      u.startAmpIdle.seq = u.seq := by
    unfold State.startAmpIdle
    split <;> exact ⟨rfl, rfl, rfl, rfl⟩
  have hswap (u : State) : u.swapProfile.arb = u.arb ∧ u.swapProfile.acu = u.acu ∧ u.swapProfile.idu = u.idu ∧
      u.swapProfile.seq.queuedRetune = u.seq.queuedRetune ∧ u.swapProfile.seq.step = u.seq.step := by
    unfold State.swapProfile
    split <;> exact ⟨rfl, rfl, rfl, rfl, rfl⟩
  obtain ⟨harb, hacu, hidu, hseq⟩ := hamp { s.overAndOut.swapProfile with
    seq := { s.overAndOut.swapProfile.seq with state := .quiet } }
  obtain ⟨warb, wacu, widu, wqueued, wstep⟩ := hswap s.overAndOut
  rw [hq] at harb hacu hidu hseq
  have eq : h.RunsDown q := by
    refine ⟨harb.trans (warb.trans e.arb), hacu.trans (wacu.trans e.acu), hidu.trans (widu.trans e.idu), ?_, ?_⟩
    · rw [hseq]
      exact wqueued.trans e.queued
    · rw [hseq]
      simp only [wstep]
      exact nofun
  rw [eq.queued, if_neg (by rw [eq.idu, f.starts]; simp),
    State.takePending_of_no_turn (by rw [State.turn, eq.arb]; exact f.turn)]
  exact eq

theorem State.RunsDown.settleStep {h s t : State} (f : h.Unclaimed) (e : h.RunsDown s) (ht : s.settleStep = some t) :
    h.RunsDown t := by
  rcases State.settleStep_cases ht with ⟨hdue, -⟩ | ⟨hgap, -⟩ | ⟨hstep, rfl⟩
  · rw [e.idu, f.due] at hdue
    cases hdue
  · rw [e.arb, f.gap] at hgap
    cases hgap
  · rcases e.down hstep with hs | hs | hs
    · simp only [State.advance, hs]
      exact ⟨e.arb, e.acu, e.idu, e.queued, fun _ => .inr (.inl rfl)⟩
    · simp only [State.advance, hs]
      exact ⟨e.arb, e.acu, e.idu, e.queued, fun _ => .inr (.inr rfl)⟩
    · simp only [State.advance, hs]
      have hturn : s.turn = none := by
        rw [State.turn, e.arb]
        exact f.turn
      rw [State.restartIdle, State.modTurn_of_none _ (by exact hturn)]
      exact .enterQuiet f ⟨e.arb, e.acu, e.idu, e.queued, nofun⟩

/-- Settling leaves ARB and ACU while SEQ runs down. -/
theorem State.RunsDown.settle {h : State} (f : h.Unclaimed) (e : h.RunsDown h) :
    h.settle.arb = h.arb ∧ h.settle.acu = h.acu := by
  have key : h.RunsDown (h.settleFor Config.settleFuel) :=
    State.settleFor_induct (P := h.RunsDown) (fun _ _ ht e => e.settleStep f ht) _ _ e
  have hidle : (h.settleFor Config.settleFuel).syncIdle = h.settleFor Config.settleFuel :=
    State.syncIdle_of_no_turn (by rw [State.turn, key.arb]; exact f.turn)
  rw [State.settle, hidle]
  exact ⟨key.arb, key.acu⟩

/-! ### A limit ends the turn or the transmission (R13) -/

/-- The transmission that ends with its turn leaves SEQ running down. -/
theorem State.endTurnTx_down {s : State} (h : zeroLength s.seq.step = false) :
    zeroLength s.endTurnTx.seq.step = true →
      s.endTurnTx.seq.state = .drain ∨ s.endTurnTx.seq.state = .disarmAmp ∨ s.endTurnTx.seq.state = .disarmRelay := by
  unfold State.endTurnTx
  split
  · rename_i hm
    split
    · rename_i hs
      obtain ⟨x, hx⟩ := State.tx_of_memberExciting (State.memberExciting_iff.mpr ⟨hs, hm⟩)
      rw [State.normalEnd_seq _ hs hx]
      exact fun _ => .inl rfl
    · split
      · intro _
        unfold State.abandonArming State.disarm
        split
        · exact .inr (.inl rfl)
        · exact .inr (.inr rfl)
      · simp [h]
  · simp [h]

theorem State.endTurnTx_idu (s : State) : ∃ x, s.endTurnTx.idu = { s.idu with element := x } := by
  unfold State.endTurnTx
  split
  · rename_i hm
    split
    · rename_i hs
      obtain ⟨x, hx⟩ := State.tx_of_memberExciting (State.memberExciting_iff.mpr ⟨hs, hm⟩)
      exact ⟨none, State.normalEnd_idu _ hs hx⟩
    · split
      · refine ⟨s.idu.element, ?_⟩
        unfold State.abandonArming State.disarm
        split <;> simp [State.enterDisarmAmp, State.enterDisarmRelay, State.startStep]
      · exact ⟨_, rfl⟩
  · exact ⟨_, rfl⟩

section Limits

variable {s : State} {t : Turn} {k : TurnEndCause}

/-- Outside a pause a turn end leaves whether an identification is due, in a cycle or waiting to start. -/
theorem State.turnEnd_idu (ht : s.turn = some t) (hp : t.sub ≠ .paused) :
    (s.turnEnd k).idu.due = s.idu.due ∧ (s.turnEnd k).idu.cycle = s.idu.cycle ∧
      (s.turnEnd k).idu.startWaits = s.idu.startWaits := by
  obtain ⟨x, hx⟩ := s.endTurnTx_idu
  simp only [State.turnEnd, ht, hp, State.leaveHolding_idu, decide_false, Bool.false_and]
  simp [State.moveCycle, State.forgetTurn, hx]

theorem State.passedLimit_cause {old new : ClassRec} (h : s.passedLimit t old new = some k) :
    requeues k = true ∧ startsGap k = true := by
  unfold State.passedLimit at h
  split at h
  · cases h
    exact ⟨rfl, rfl⟩
  · split at h
    · cases h
      exact ⟨rfl, rfl⟩
    · cases h

/-- A passed limit ends the turn, and nothing else comes about at once. -/
theorem State.limit_ends (ht : s.turn = some t) (hk : requeues k = true ∧ startsGap k = true) (hp : t.sub ≠ .paused)
    (hset : s.settled) (hgap : s.arb.turnGap ≠ 0) (hdue : s.idu.due = false) (hidle : s.idu.cycle = .idle)
    (hstarts : s.idu.startWaits = false) : s.limitEnds (s.turnEnd k).settle t k := by
  have hpaused : (decide (t.sub = .paused) && s.ready) = false := by simp [hp]
  have harb := State.turnEnd_arb k ht
  rw [hpaused, hk.1, hk.2, Bool.and_true] at harb
  have hseq := State.turnEnd_seq k ht hpaused
  obtain ⟨due, cycle, starts⟩ := State.turnEnd_idu (k := k) ht hp
  have hz : zeroLength (s.turnEnd k).arb.gap = false := by simp [harb, zeroLength, hgap]
  have free : (s.turnEnd k).Unclaimed :=
    ⟨State.turn_turnEnd .., hz, due.trans hdue, cycle.trans hidle, starts.trans hstarts⟩
  obtain ⟨karb, kacu⟩ := State.RunsDown.settle free
    ⟨rfl, rfl, rfl, by rw [hseq]; rfl, by rw [hseq]; exact State.endTurnTx_down (State.settled_iff.mp hset).1.2.2⟩
  refine ⟨by rw [karb, harb]; rfl, by rw [karb, harb]; rfl, ?_, fun hn => ?_, ?_, fun hm htail => ?_⟩
  · rw [State.tenancy, karb, harb, Table.read_write_same]
    simp only [decide_eq_true_eq]
    rfl
  · rw [kacu]
    exact State.turnEnd_record k ht hn
  · exact (State.raised_turnEnded ht (.refl _) (by omega) (State.Evolves.refl _).settle.link).1
  · obtain ⟨hs, hmem⟩ := State.memberExciting_iff.mp hm
    obtain ⟨x, hx⟩ := State.tx_of_memberExciting hm
    have hend : s.endTurnTx.seq = (s.normalEnd .turnEnd).seq := by simp [State.endTurnTx, hs, hmem]
    have hnone : (s.turnEnd k).settleStep = none := by
      rw [State.settleStep_eq_none]
      refine ⟨by simp [due, hdue], hz, ?_⟩
      rw [hseq]
      simp [State.forgetTurn, hend, State.normalEnd_seq _ hs hx, zeroLength, htail]
    have hsettle : (s.turnEnd k).settle.seq = (s.turnEnd k).seq := by
      rw [State.settle, State.settleFor_of_none hnone]
      simp [State.syncQuiet, State.syncIdle]
    rw [hsettle, hseq]
    simp [State.forgetTurn, hend, State.normalEnd_seq _ hs hx]

theorem State.claimPause_seq (hq : s.seq.state ≠ .quiet) : s.claimPause.seq = s.seq := by
  unfold State.claimPause
  dsimp only
  split
  · rw [State.beginCycle_of_busy _ (by simpa using hq)]
    simp
  · simp

/-- The end of the holder's transmission in a class without SINGLE_OVER leaves the turn (R37). -/
theorem State.endMemberTx_of_not_singleOver {c : TxEndCause} (hm : s.memberExciting = true)
    (hso : s.singleOver = false) :
    s.endMemberTx c = if s.idu.claim = .atTxEnd then (s.normalEnd c).claimPause else s.normalEnd c := by
  obtain ⟨hs, hmem⟩ := State.memberExciting_iff.mp hm
  obtain ⟨x, hx⟩ := State.tx_of_memberExciting hm
  have hmem' : (s.normalEnd c).memberTx = true := by
    simp only [State.memberTx, hx] at hmem
    simp only [State.memberTx, State.normalEnd_seq c hs hx]
    exact hmem
  have hover : (s.normalEnd c).singleOver = false := by
    have hclt := (State.Evolves.normalEnd (.refl s) c).clt
    rw [← hso]
    simp only [State.singleOver, State.holder, State.turn, State.classOf, State.identity, State.normalEnd_arb, hclt]
  simp [State.endMemberTx, State.endTx, State.tellExit, hmem, hmem', hs, hover, State.normalEnd_idu c hs hx]

/-- A claim that takes the turn at the transmission's end leaves SEQ and DRV as the end made them. -/
theorem State.endMemberTx_leaves {c : TxEndCause} (hm : s.memberExciting = true) (hso : s.singleOver = false) :
    (s.endMemberTx c).seq = (s.normalEnd c).seq ∧ (s.normalEnd c).SeqStays (s.endMemberTx c) ∧
      (s.normalEnd c).Lasts (s.endMemberTx c) ∧ (s.normalEnd c).Evolves (s.endMemberTx c) := by
  obtain ⟨x, hx⟩ := State.tx_of_memberExciting hm
  have hq : (s.normalEnd c).seq.state ≠ .quiet := by
    rw [State.normalEnd_seq c (State.memberExciting_iff.mp hm).1 hx]
    simp
  rw [State.endMemberTx_of_not_singleOver hm hso]
  split
  · exact ⟨State.claimPause_seq hq, (State.SeqStays.refl hq).claimPause, (State.Lasts.refl _).claimPause,
      (State.Evolves.refl _).claimPause⟩
  · exact ⟨rfl, .refl hq, .refl _, .refl _⟩

/-- A passed transmission limit ends the transmission alone. -/
theorem State.tx_limit_ends (ht : s.turn = some t) (hm : s.memberExciting = true) (hso : s.singleOver = false)
    (htail : s.seq.active.tail ≠ 0) (hset : s.settled) : (s.endMemberTx .txLimit).settle.txLimitEnds t := by
  have hs := (State.memberExciting_iff.mp hm).1
  obtain ⟨x, hx⟩ := State.tx_of_memberExciting hm
  obtain ⟨hseq, hstays, hlasts, hevolves⟩ := State.endMemberTx_leaves (c := .txLimit) hm hso
  have hend := State.normalEnd_seq .txLimit hs hx
  have hdrv := hstays.drv.trans (State.normalEnd_drv .txLimit hs hx)
  have hlnk := State.normalEnd_lnk .txLimit hs hx
  have hterms : (s.endMemberTx .txLimit).turn.map Turn.terms = some t.terms := by
    rw [hlasts.turnTerms, State.turn, State.normalEnd_arb, ← State.turn, ht]
    rfl
  have hgap : (s.endMemberTx .txLimit).arb.gap = s.arb.gap := by rw [hlasts.gap, State.normalEnd_arb]
  generalize s.endMemberTx .txLimit = y at hseq hdrv hterms hgap hevolves ⊢
  obtain ⟨v, hv, hvt⟩ := Option.map_eq_some_iff.mp hterms
  have hnone : y.settleStep = none := by
    rw [State.settleStep_eq_none, hgap, hseq, hend]
    exact ⟨by simp [State.idTurnOpen, State.turn_eq_some.mp hv], (State.settled_iff.mp hset).1.2.1,
      by simp [zeroLength, htail]⟩
  rw [State.settle, State.settleFor_of_none hnone]
  have hturn : y.syncIdle.syncQuiet.turn.map Turn.terms = some t.terms := by
    rw [((State.Lasts.refl y).syncIdle.syncQuiet).turnTerms, hterms]
  have hkeeps : y.syncIdle.syncQuiet.seq = y.seq ∧ y.syncIdle.syncQuiet.drv = y.drv ∧
      y.syncIdle.syncQuiet.lnk = y.lnk := by
    simp [State.syncQuiet, State.syncIdle]
  obtain ⟨kseq, kdrv, klnk⟩ := hkeeps
  refine ⟨by rw [kseq, hseq, hend], by rw [kseq, hseq, hend], by rw [kdrv, hdrv], by rw [kseq, hseq, hend]; rfl,
    ?_, ?_⟩
  · have hafter := hevolves.link
    rw [hlnk] at hafter
    rw [klnk]
    exact (State.raised_of_grows (.refl _) (by omega) hafter).1
  · simpa [Function.comp_def, Turn.terms] using
      congrArg (Option.map fun y : Turn => (y.holder, y.grantClock)) hturn

end Limits

end Sys2Proof.Machine
end

section
/-! Reclass, HoldSlot and UnholdSlot (O40). -/

namespace Sys2Proof.Machine

/-! ### Reclass (R11) -/

theorem State.settled_heard (a : Actor) {s : State} (h : s.settled) : (s.heard a).settled :=
  (State.settled_congr (by simp) (by simp) (by simp) (by simp) (by simp)).mpr h

/-- Slot `w` is of class `c`, and of DRV the applied power is `d`. -/
def State.governed (w : SlotId) (c : ClassId) (d : Applied) (s : State) : State :=
  { s with
    clt := { s.clt with ids := s.clt.ids.write w { s.identity w with classIx := c } }
    drv := { s.drv with applied := d } }

theorem State.recomputeMember_eq (s : State) :
    ∃ d, s.recomputeMember = { s with drv := { s.drv with applied := d } } := by
  unfold State.recomputeMember State.recompute State.computeDrive
  split
  · split
    · split
      · exact ⟨_, rfl⟩
      · split
        · exact ⟨_, rfl⟩
        · exact ⟨_, rfl⟩
    · exact ⟨_, rfl⟩
  · exact ⟨_, rfl⟩

section Reclass

variable {s : State} {w : SlotId} {c : ClassId} {d : Applied}

theorem State.governed_classOf : (s.governed w c d).classOf w = s.clt.classes.read c := by
  rw [State.classOf, State.identity, State.governed, Table.read_write_same]

theorem State.governed_permit (b : BandId) (e : Emission) : (s.governed w c d).permit w b e =
    ((s.drv.bands.read b).enabled && (s.clt.classes.read c).bands.read b && (s.clt.classes.read c).allows e) := by
  rw [State.permit, State.governed_classOf]
  rfl

theorem State.governed_settled (h : s.settled) : (s.governed w c d).settled :=
  (State.settled_congr (s := s) (t := s.governed w c d) rfl rfl rfl rfl rfl).mpr h

/-- A Reclass writes the class index, and the re-check and the limits follow. -/
theorem State.reclass_of_seated (hv : s.tenancy w ≠ .vacant) : State.reclass w.val c.val s =
    done ((s.governed w c s.drv.applied).classEffects (fun v => decide (v = w)) (s.classOf w)
      (s.clt.classes.read c)).settle := by
  have hvac : s.vacant w = false := decide_eq_false hv
  simp only [State.reclass, indexOf_val, hvac]
  rw [← State.governed_classOf (d := s.drv.applied)]
  rfl

/-- Of a permitted holder the limits are compared, with the drive computed anew where the ceiling changed. -/
theorem State.reclass_of_holder {t : Turn} (ht : s.turn = some t) (hh : s.tenancy t.holder = .holding)
    (hp : ((s.drv.bands.read t.band).enabled && (s.clt.classes.read c).bands.read t.band &&
      (s.clt.classes.read c).allows t.emission) = true) :
    ∃ d, State.reclass t.holder.val c.val s = done ((s.governed t.holder c d).compareLimits (s.classOf t.holder)
      (s.clt.classes.read c)).settle := by
  rw [State.reclass_of_seated (by rw [hh]; nofun), State.classEffects_of_permitted (by exact ht) (by exact hh)
    ((State.governed_permit ..).trans hp)]
  obtain ⟨d, hd⟩ := (s.governed t.holder c s.drv.applied).recomputeMember_eq
  split
  · exact ⟨_, rfl⟩
  · exact ⟨d, by rw [hd]; rfl⟩

end Reclass

section Outcomes

variable {s : State} {t : Turn} {k : TurnEndCause} {old new : ClassRec} (ht : s.turn = some t)
include ht

theorem State.compareLimits_turnEnd (hk : s.passedLimit t old new = some k) :
    s.compareLimits old new = s.turnEnd k := by
  rw [State.compareLimits_eq ht, hk]

theorem State.compareLimits_endTx (hk : s.passedLimit t old new = none) (hl : s.passedTxLimit old new = true) :
    s.compareLimits old new = s.endMemberTx .txLimit := by
  rw [State.compareLimits_eq ht, hk, hl]
  rfl

theorem State.compareLimits_of_none (hk : s.passedLimit t old new = none) (hl : s.passedTxLimit old new = false) :
    s.compareLimits old new = s := by
  rw [State.compareLimits_eq ht, hk, hl]
  rfl

end Outcomes

theorem State.holder_of_turn {s : State} {t : Turn} (ht : s.turn = some t) : s.holder = some t.holder := by
  rw [State.holder, ht]
  rfl

/-- A slot that waits does not hold the turn. -/
theorem State.apart_of_waiting {s : State} {w : SlotId} {x : RequestRec} (hone : s.oneHolder)
    (hx : s.tenancy w = .waiting x) : s.holder ≠ some w := by
  intro h
  have key := (hone w).mpr h
  rw [hx] at key
  cases key

/-- A waiting slot whose class permits the request keeps it, and the mark where the class has CONTROL. -/
theorem State.classEffects_of_waiting {s : State} {w : SlotId} {x : RequestRec} {old new : ClassRec}
    (hh : s.holder ≠ some w) (hx : s.tenancy w = .waiting x) (hp : s.permit w x.band x.emission = true) :
    (s.classEffects (fun v => decide (v = w)) old new).tenancy w =
        .waiting { x with mark := x.mark && (s.classOf w).control } ∧
      ∃ q, s.classEffects (fun v => decide (v = w)) old new = { s with arb := { s.arb with slots := q } } := by
  have hkept : s.recheckSlot w = s := by simp [State.recheckSlot, hx, hp]
  rw [State.classEffects_of_apart hh, hkept]
  cases hc : (s.classOf w).control with
  | true => simpa [State.unmark, hx, hc] using ⟨s.arb.slots, rfl⟩
  | false =>
    have hu : s.unmark w = s.setTenancy w (.waiting { x with mark := false }) := by simp [State.unmark, hx, hc]
    rw [hu]
    exact ⟨by simp, _, rfl⟩

section Taken

variable {s : State} {tag : Nat}

theorem exec_reclass (hc : s.closed = false) (hn : s.tenthsDue = 0) (slot classIx : Nat) :
    exec (.reclass tag 0xFF slot classIx) s = .next ((State.reclass slot classIx s.readyToTake).reply 0x13 tag) :=
  congrArg Host.Outcome.next (State.takeStation_taken hc hn)

theorem exec_holdSlot {actor : Nat} {a : Actor} (ht : s.takes .controlSlot actor a) (slot : Nat) :
    exec (.holdSlot tag actor slot) s = .next ((State.holdSlot slot (s.heard a)).reply 0x32 tag) :=
  congrArg Host.Outcome.next (State.takeControl_taken ht)

theorem exec_unholdSlot {actor : Nat} {a : Actor} (ht : s.takes .controlSlot actor a) (slot : Nat) :
    exec (.unholdSlot tag actor slot) s = .next ((State.unholdSlot slot (s.heard a)).reply 0x33 tag) :=
  congrArg Host.Outcome.next (State.takeControl_taken ht)

/-- The actor 255 is STATION. -/
theorem State.takes_station {a : Actor} {who : Allowed} (h : s.takes who 0xFF a) : a = .station := by
  obtain ⟨-, -, ha, -⟩ := h
  exact Option.some.inj (ha.symm.trans actorOf_station)

end Taken

/-! ### UnholdSlot (R43) -/

theorem State.settled_setHeldBack {w : SlotId} {x : Bool} {s : State} (h : s.settled) :
    (s.setHeldBack w x).settled :=
  (State.settled_congr (s := s) (t := s.setHeldBack w x) rfl rfl rfl rfl rfl).mpr h

theorem State.holdSlot_of_seated {s : State} {w : SlotId} (hv : s.tenancy w ≠ .vacant) :
    State.holdSlot w.val s = done (s.setHeldBack w true) := by
  have hvac : s.vacant w = false := decide_eq_false hv
  simp only [State.holdSlot, indexOf_val, hvac]
  rfl

theorem State.unholdSlot_of_seated {s : State} {w : SlotId} (hv : s.tenancy w ≠ .vacant) :
    State.unholdSlot w.val s = done (s.setHeldBack w false).arbitrateIfFree.settle := by
  have hvac : s.vacant w = false := decide_eq_false hv
  simp only [State.unholdSlot, indexOf_val, hvac]
  rfl

/-- Who wins the arbitration does not turn on a presence timer or LNK. -/
theorem State.winner_heard (a : Actor) (w : SlotId) (s : State) :
    ((s.heard a).setHeldBack w false).winner = (s.setHeldBack w false).winner := by
  obtain ⟨p, hp⟩ := s.heard_eq a
  rw [hp]
  rfl

/-- The winner of an arbitration point has a request. -/
theorem State.record_of_winner {s : State} {w : SlotId} (h : s.winner = some w) :
    ∃ r, (s.tenancy w).record = some r := by
  have key := State.winner_eligible h
  unfold State.eligible at key
  split at key
  · exact ⟨_, ‹_›⟩
  · cases key

/-- An arbitration point without a winner leaves the arbiter FREE. -/
theorem State.arbitrate_of_free {s : State} (hf : s.arb.arbiter = .free) (h : s.ready = false ∨ s.winner = none) :
    s.arbitrate = s := by
  have hnone : (if s.ready then s.winner else none) = none := by
    rcases h with h | h <;> simp [h]
  rw [State.arbitrate, hnone]
  simp only [State.setArbiter, ← hf]

/-- With the station READY the winner is granted its request. -/
theorem State.arbitrate_grants {s : State} {w : SlotId} (hr : s.ready = true) (hw : s.winner = some w) :
    ∃ r, s.arbitrate = s.grantRequest w r := by
  obtain ⟨r, hrec⟩ := State.record_of_winner hw
  exact ⟨r, by simp only [State.arbitrate, hr, if_true, hw, State.grant, hrec]⟩

/-- The slot granted is the holder. -/
theorem State.grantRequest_holder (w : SlotId) (r : RequestRec) (s : State) :
    (s.grantRequest w r).settle.holder = some w := by
  obtain ⟨y, hy, hyt⟩ := Option.map_eq_some_iff.mp (State.grantRequest_settles w r s).1
  have hw : y.holder = w := congrArg (·.holder) hyt
  rw [State.holder_of_turn hy, hw]

/-- Settles O40: a Reclass writes the class index and runs the effects of a changed class on its slot alone; a settled
state stays settled where no request, turn or transmission ends; UnholdSlot adds an arbitration point. -/
theorem classesAndHoldsOfSlots : Obligations.ClassesAndHoldsOfSlots := by
  refine ⟨?_, ?_, ?_, ?_, ?_, ?_, ?_, ?_, ?_, ?_, ?_, ?_⟩
  · intro tag w c s h hc hn hone hv
    have hv' : h.tenancy w ≠ .vacant := hv
    refine ⟨_, exec_reclass hc hn w.val c.val, ?_⟩
    rw [State.reclass_of_seated hv']
    have e := (State.Evolves.classEffects (.refl (h.governed w c h.drv.applied)) (fun v => decide (v = w)) (h.classOf w)
      (h.clt.classes.read c)).settle
    refine ⟨e.clt, congrArg (fun f : Fixed => { f with clt := h.clt }) e.fixed, fun x hx hp => ?_,
      fun tn ht hw hp => ?_, Handled.replied _ _ _ nofun⟩
    · exact (State.classEffects_waiting_openApart (s := h.governed w c h.drv.applied) hx
        ((State.governed_permit ..).trans hp) (State.apart_of_waiting hone hx)).settle.opened
    · subst hw
      exact (State.classEffects_holding_openApart (s := h.governed tn.holder c h.drv.applied) ht
        ((hone _).mpr (State.holder_of_turn ht)) ((State.governed_permit ..).trans hp)).settle.opened
  · intro tag c tn k s h r hone ht hc hn hp hsub hset hgap hdue hidle hstarts hk
    obtain ⟨d, hd⟩ := State.reclass_of_holder (s := h) (c := c) ht ((hone _).mpr (State.holder_of_turn ht)) hp
    refine ⟨_, exec_reclass hc hn tn.holder.val c.val, ?_⟩
    rw [hd, State.compareLimits_turnEnd (s := h.governed tn.holder c d) (k := k) ht (by exact hk)]
    exact State.limit_ends (s := h.governed tn.holder c d) ht (State.passedLimit_cause hk) hsub
      (State.governed_settled (s := h) (State.settled_heard .station hset)) hgap hdue hidle hstarts
  · intro tag c tn s h r hone ht hc hn hp hk hl hso htail hset
    obtain ⟨d, hd⟩ := State.reclass_of_holder (s := h) (c := c) ht ((hone _).mpr (State.holder_of_turn ht)) hp
    have hover : (h.governed tn.holder c d).singleOver = false := by
      rw [State.singleOver, State.holder_of_turn (s := h.governed tn.holder c d) ht]
      exact (congrArg (·.singleOver) (State.governed_classOf (s := h) (d := d))).trans hso
    refine ⟨_, exec_reclass hc hn tn.holder.val c.val, ?_⟩
    rw [hd, State.compareLimits_endTx (s := h.governed tn.holder c d) ht (by exact hk) (by exact hl)]
    have hm : s.memberExciting = true := by
      simp only [State.passedTxLimit, Bool.and_eq_true] at hl
      exact hl.1.2
    exact State.tx_limit_ends (s := h.governed tn.holder c d) ht hm hover htail
      (State.governed_settled (s := h) (State.settled_heard .station hset))
  · intro tag c tn s h r hone ht hc hn hp hk hl hset
    obtain ⟨d, hd⟩ := State.reclass_of_holder (s := h) (c := c) ht ((hone _).mpr (State.holder_of_turn ht)) hp
    refine ⟨_, exec_reclass hc hn tn.holder.val c.val, ?_⟩
    rw [hd, State.compareLimits_of_none (s := h.governed tn.holder c d) ht (by exact hk) (by exact hl),
      State.settle_eq_self (State.governed_settled (s := h) (State.settled_heard .station hset))]
    exact ⟨ht, rfl, rfl⟩
  · intro tag c w x s h r hone hx hc hn hp hset hgap
    refine ⟨_, exec_reclass hc hn w.val c.val, ?_⟩
    rw [State.reclass_of_seated (s := h) (by rw [show h.tenancy w = .waiting x from hx]; nofun)]
    obtain ⟨htenancy, q, hq⟩ := State.classEffects_of_waiting (s := h.governed w c h.drv.applied) (old := h.classOf w)
      (new := h.clt.classes.read c) (State.apart_of_waiting hone hx) hx ((State.governed_permit ..).trans hp)
    rw [State.governed_classOf] at htenancy
    have hsettled : State.settled { h.governed w c h.drv.applied with arb := { h.arb with slots := q } } :=
      (State.settled_congr (s := h) (t := { h.governed w c h.drv.applied with arb := { h.arb with slots := q } })
        rfl rfl rfl rfl rfl).mpr (State.settled_heard .station hset)
    rw [hq] at htenancy ⊢
    rw [State.settle_eq_self (by exact hsettled)]
    exact ⟨htenancy, rfl, rfl, fun _ => rfl⟩
  · intro tag actor a w s h ht hv
    rw [exec_holdSlot ht, State.holdSlot_of_seated (by simpa using hv)]
    rfl
  · intro tag actor a w s h ht hv hfree hset
    have hfree : ((s.heard a).setHeldBack w false).arb.arbiter ≠ .free := (State.heard_arbiter a s).trans_ne hfree
    have hset : h.settled := State.settled_heard a hset
    rw [exec_unholdSlot ht, State.unholdSlot_of_seated (by simpa using hv), State.arbitrateIfFree, if_neg hfree,
      State.settle_eq_self (State.settled_setHeldBack hset)]
    rfl
  · intro tag actor a w s h ht hv hfree hno hset
    have hfree : ((s.heard a).setHeldBack w false).arb.arbiter = .free := (State.heard_arbiter a s).trans hfree
    have hset : h.settled := State.settled_heard a hset
    have hno : ((s.heard a).setHeldBack w false).ready = false ∨ ((s.heard a).setHeldBack w false).winner = none := by
      refine hno.imp (fun hr => ?_) fun hw => by rw [State.winner_heard, hw]
      rw [show ((s.heard a).setHeldBack w false).ready = s.ready from State.heard_ready a s]
      exact decide_eq_false hr
    rw [exec_unholdSlot ht, State.unholdSlot_of_seated (by simpa using hv), State.arbitrateIfFree, if_pos hfree,
      State.arbitrate_of_free hfree hno, State.settle_eq_self (State.settled_setHeldBack hset)]
    rfl
  · intro tag actor a w v s h ht hv hfree hready hwin
    have hfree : ((s.heard a).setHeldBack w false).arb.arbiter = .free := (State.heard_arbiter a s).trans hfree
    have hready : ((s.heard a).setHeldBack w false).ready = true :=
      (State.heard_ready a s).trans (decide_eq_true hready)
    obtain ⟨r, hr⟩ := State.arbitrate_grants hready ((State.winner_heard a w s).trans hwin)
    refine ⟨_, exec_unholdSlot ht w.val, ?_⟩
    rw [State.unholdSlot_of_seated (by simpa using hv), State.arbitrateIfFree, if_pos hfree, hr]
    obtain ⟨-, -, -, hranks, -⟩ := State.grantRequest_settles v r ((s.heard a).setHeldBack w false)
    have e := ((State.Evolves.refl ((s.heard a).setHeldBack w false)).grantRequest v r).settle
    refine ⟨State.grantRequest_holder .., ?_, fun u => ?_⟩
    · rw [Handled.reply_identity, done, State.identity, e.clt, ← State.identity, State.setHeldBack,
        State.identity_setIdentity_same]
    · rw [Handled.reply_arb, done, hranks, rotate_read]
      rfl
  · intro tag actor a w c s h ht hactor hv
    subst hactor
    obtain rfl := State.takes_station ht
    have hvac : (s.heard .station).vacant w = true := decide_eq_true hv
    refine ⟨?_, ?_, ?_⟩
    · rw [exec_holdSlot ht, State.holdSlot, indexOf_val]
      simp only [hvac]
      rfl
    · rw [exec_unholdSlot ht, State.unholdSlot, indexOf_val]
      simp only [hvac]
      rfl
    · obtain ⟨hc, hnow, -⟩ := ht
      rw [exec_reclass hc hnow, State.reclass, indexOf_val, indexOf_val]
      simp only [show s.readyToTake.vacant w = true from hvac]
      rfl
  · intro tag actor a n c s h ht hactor hn
    subst hactor
    obtain rfl := State.takes_station ht
    refine ⟨?_, ?_, ?_⟩
    · rw [exec_holdSlot ht, State.holdSlot, indexOf_of_le hn]
      rfl
    · rw [exec_unholdSlot ht, State.unholdSlot, indexOf_of_le hn]
      rfl
    · obtain ⟨hc, hnow, -⟩ := ht
      rw [exec_reclass hc hnow, State.reclass, indexOf_of_le hn]
      rfl
  · intro tag w n s h hc hn hclass
    rw [exec_reclass hc hn, State.reclass, indexOf_val, indexOf_of_le hclass]
    rfl

end Sys2Proof.Machine
end

section
/-! Who holds the transmitter, what of a turn and of an identification stands, and the sequencer's state: every way in
which a step can change them. -/

namespace Sys2Proof.Machine

set_option Elab.async false

/-! ### The roles and their moves -/

/-- What the statements on tenancies, ranks, turns and identifications look at: the slots, the ranks and the holder of ARB;
the claim, the deadline, the cycle and the presence of its context, of a waiting start and of a keyed element of IDU; the
state of SEQ, and the kind of the transmission in it with whether it belongs to the current turn. -/
structure Roles where
  slots : Table 32 Tenancy
  ranks : Table 32 Nat
  holder : Option SlotId
  claim : Claim
  deadline : Bool
  cycle : CycleState
  context : Bool
  startWaits : Bool
  element : Bool
  seq : SeqState
  tx : Option (TxKind × Bool)

/-- The roles of a state. -/
def State.roles (s : State) : Roles where
  slots := s.arb.slots
  ranks := s.arb.ranks
  holder := s.holder
  claim := s.idu.claim
  deadline := s.idu.deadlineRuns
  cycle := s.idu.cycle
  context := s.idu.context.isSome
  startWaits := s.idu.startWaits
  element := s.idu.element.isSome
  seq := s.seq.state
  tx := s.seq.tx.map fun x => (x.kind, x.current)

/-- The sequencer neither arms nor is on the air. -/
def SeqState.calm : SeqState → Bool
  | .armRelay | .armAmp | .exciting => false
  | _ => true

/-- One thing that the part can do to the roles, with what it finds before. -/
inductive Roles.Move : Roles → Roles → Prop
  /-- A slot that does not hold the transmitter takes another tenancy than HOLDING. -/
  | slot (r : Roles) (w : SlotId) (x : Tenancy) (hx : x ≠ .holding)
      (hw : r.slots.read w ≠ .holding ∨ r.holder ≠ some w) : Move r { r with slots := r.slots.write w x }
  /-- A slot is granted the transmitter (R23, R30). -/
  | grant (r : Roles) (w : SlotId) (h : r.holder = none) :
      Move r { r with slots := r.slots.write w .holding, ranks := rotate r.ranks w, holder := some w }
  /-- The turn is over (R35, R38). -/
  | turnOver (r : Roles) (w : SlotId) (x : Tenancy) (h : r.holder = some w) (hx : x ≠ .holding) :
      Move r { r with
        slots := r.slots.write w x, holder := none, claim := .none, deadline := false
        tx := r.tx.map fun y => (y.1, false) }
  /-- IDU's claim and the deadline change: freely with a turn or a claim, otherwise only away (R157, R160). -/
  | claims (r : Roles) (c : Claim) (d : Bool)
      (h : (r.holder ≠ none ∨ r.claim ≠ .none) ∨ (c = .none ∨ c = r.claim) ∧ (d = false ∨ d = r.deadline)) :
      Move r { r with claim := c, deadline := d }
  /-- A cycle begins, its start waiting (R158). -/
  | begins (r : Roles) (h : r.cycle = .idle) :
      Move r { r with cycle := .starting, context := true, startWaits := true }
  /-- The ID start is taken (R71). -/
  | takesIdStart (r : Roles) (h : r.startWaits = true) (hq : r.seq = .quiet) :
      Move r { r with startWaits := false, tx := some (.ident, false), seq := .armRelay }
  /-- The holder's start is taken (R53). -/
  | takesStart (r : Roles) (w : SlotId) (h : r.holder = some w) (hq : r.seq = .quiet) :
      Move r { r with tx := some (.member w, true), seq := .armRelay }
  /-- The relays have settled (R59). -/
  | relayOn (r : Roles) (h : r.seq = .armRelay) : Move r { r with seq := .armAmp }
  /-- A MEMBER transmission goes on the air (R56, R60). -/
  | onAir (r : Roles) (w : SlotId) (b : Bool) (h : r.tx = some (.member w, b)) (hq : r.seq = .armAmp ∨ r.seq = .drain) :
      Move r { r with seq := .exciting }
  /-- An ID transmission goes on the air (R60, R158). -/
  | identOnAir (r : Roles) (b : Bool) (h : r.tx = some (.ident, b)) (hq : r.seq = .armAmp) :
      Move r { r with
        seq := .exciting, cycle := if r.context then .sending else r.cycle, element := r.element || r.context }
  /-- A transmission leaves the air (R61, R69). -/
  | leaves (r : Roles) (q : SeqState) (h : r.seq = .exciting) (hq : q.calm = true) :
      Move r { r with seq := q, element := false }
  /-- The sequencer goes on without a transmission on the air. -/
  | goesOn (r : Roles) (q : SeqState) (h : r.seq = .exciting → r.tx = none) (hq : q.calm = true) :
      Move r { r with seq := q }
  /-- The transmission context is gone (R63). -/
  | txGone (r : Roles) (h : r.seq.calm = true) : Move r { r with tx := none }
  /-- The cycle is abandoned (R161). -/
  | abandons (r : Roles) (h : r.seq.calm = true) :
      Move r { r with cycle := .idle, context := false, element := false, startWaits := false }
  /-- An element ends, and no other is keyed. -/
  | keyOff (r : Roles) : Move r { r with element := false }
  /-- The identification completes as its last element ends (R160). -/
  | completes (r : Roles) (h : r.element = true) (hc : r.context = true) :
      Move r { r with cycle := .closing, element := false, seq := if r.seq = .exciting then .drain else r.seq }
  /-- The cycle closes (R160). -/
  | closes (r : Roles) (h : r.cycle = .closing) (hq : r.seq.calm = true) :
      Move r { r with cycle := .idle, context := false }

/-- From `h` to `s` the roles moved. -/
def State.Moves (h s : State) : Prop := Relation.ReflTransGen Roles.Move h.roles s.roles

/-! ### SEQ's state -/

namespace State.SeqStays

variable {h s t : State}

theorem writeRecord (e : h.SeqStays s) (r : TurnRec) : h.SeqStays (s.writeRecord r) := .ite e e.same

theorem abandonCycle (e : h.SeqStays s) : h.SeqStays s.abandonCycle := by
  unfold State.abandonCycle; split
  · exact (e.writeRecord _).same
  · exact e

theorem dropAbandons (e : h.SeqStays s) : h.SeqStays s.dropAbandons := by
  unfold State.dropAbandons; refine .ite ?_ e
  split
  · exact e.abandonCycle.beginCycle _
  · exact e

/-- What ARB and IDU do at the end of a transmission that completes no over leaves SEQ as it stands. -/
theorem tellExit (e : h.SeqStays s) {c : TxEndCause} (left : Bool) (hc : completesOver c = false) :
    h.SeqStays (s.tellExit c left) := by
  simp only [State.tellExit, hc, Bool.and_false, Bool.false_and, Bool.false_eq_true, if_false]
  exact .ite (.ite e.claimPause e) (.ite e.dropAbandons e)

theorem idTurnOver (e : h.SeqStays s) : h.SeqStays s.idTurnOver :=
  .ite e (.ite (.ite e.arbitrate (.ite (.arbitrate e.same) (e.setArbiter .gap rfl)))
    (.ite (e.setArbiter .free rfl) (e.setArbiter .gap rfl)))

/-- The end of a cycle leaves SEQ as it stands while it has not entered QUIET (R63, step 1). -/
theorem closeCycle (e : h.SeqStays s) (n : Nat) : h.SeqStays (s.closeCycle n) := by
  unfold State.closeCycle; split
  · rename_i c _ _
    dsimp only
    have e := e.writeRecord (s.idRecord c n .complete)
    split
    · exact .enterActive e.same
    · exact .idTurnOver e.same
    · exact e.same
  · exact e

end State.SeqStays

/-- A disarm step is neither QUIET nor armed nor on the air. -/
theorem State.disarm_state (s : State) : s.disarm.seq.state.calm = true ∧ s.disarm.seq.state ≠ .quiet := by
  unfold State.disarm
  split
  · exact ⟨rfl, nofun⟩
  · exact ⟨rfl, nofun⟩

theorem State.normalEnd_calm {s : State} (c : TxEndCause) (hs : s.seq.state = .exciting) (hx : s.seq.tx ≠ none) :
    (s.normalEnd c).seq.state.calm = true := by
  obtain ⟨x, hx⟩ := Option.ne_none_iff_exists'.mp hx
  rw [State.normalEnd_seq c hs hx]
  rfl

/-- Without a transmission there is none of IDU, also after an end that finds none. -/
theorem State.tx_of_identTx {s : State} (h : s.identTx = true) : s.seq.tx ≠ none := by
  intro hx
  simp [State.identTx, hx] at h

/-- No cut leaves a transmission armed or on the air (R69). -/
theorem State.cut_calm (c : CutCause) (s : State) : (s.cut c).seq.state.calm = true := by
  have hc : completesOver (cutEnd c) = false := by cases c <;> rfl
  have hdown (u : State) (left : Bool) : (u.disarm.tellExit (cutEnd c) left).seq.state.calm = true := by
    obtain ⟨hcalm, hq⟩ := u.disarm_state
    rw [((State.SeqStays.refl hq).tellExit left hc).state]
    exact hcalm
  unfold State.cut
  dsimp only
  generalize State.cutFlush c _ = u
  split
  · simp_all [SeqState.calm]
  · simp_all [SeqState.calm]
  · simp_all [SeqState.calm]
  · simp_all [SeqState.calm]
  · exact hdown _ _
  · exact hdown _ _
  · exact hdown _ _
  · exact u.disarm_state.1

/-! ### Entering QUIET, in parts (R63) -/

/-- SEQ is QUIET, and an amplifier that is ON starts its idle timer (R106). -/
def State.quieted (s : State) : State := { s with seq := { s.seq with state := .quiet } }.startAmpIdle

/-- What SEQ takes up in QUIET: a queued retune, a waiting ID start, or a pending start (R57, R66, R71). -/
def State.takeUp (s : State) : State :=
  match s.seq.queuedRetune with
  | some b => s.enterRetune b
  | none => if s.idu.startWaits = true ∧ s.ready = true then s.takeIdStart else s.takePending

theorem State.enterQuiet_eq (s : State) :
    s.enterQuiet = (s.overAndOut.closeCycle s.txAirTime).swapProfile.quieted.takeUp := rfl

@[simp] theorem State.quieted_state (s : State) : s.quieted.seq.state = .quiet := by
  unfold State.quieted State.startAmpIdle; split <;> rfl

/-! ### What each operation does to the roles -/

theorem State.roles_modTurn {f : Turn → Turn} (hf : ∀ t, (f t).holder = t.holder) (s : State) :
    (s.modTurn f).roles = s.roles := by
  have hh := State.holder_modTurn hf s
  unfold State.roles
  rw [hh]
  unfold State.modTurn
  split <;> rfl

theorem State.roles_takeStart {s : State} {t : Turn} (ht : s.turn = some t) :
    s.takeStart.roles = { s.roles with tx := some (.member t.holder, true), seq := .armRelay } := by
  simp only [State.takeStart, ht]
  generalize hu : State.modTurn _ _ = u
  have e : u.roles = { s.roles with tx := some (.member t.holder, true) } := by
    rw [← hu]
    exact State.roles_modTurn (by exact fun _ => rfl) _
  have : u.enterArmRelay.roles = { u.roles with seq := .armRelay } := rfl
  rw [this, e]

@[simp] theorem State.roles_raise (r : Report) (s : State) : (s.raise r).roles = s.roles := rfl

theorem State.roles_beginSending (s : State) : s.beginSending.roles = { s.roles with
    cycle := if s.roles.context then .sending else s.roles.cycle
    element := s.roles.element || s.roles.context } := by
  cases hc : s.idu.context with
  | none => simp [State.beginSending, State.roles, hc]
  | some c => simp [State.beginSending, State.startElement, State.roles, hc, State.holder, State.turn]

/-- The ID start reads nothing of ARB. -/
theorem State.takeIdStart_with_arb (a : Arb) (s : State) :
    State.takeIdStart { s with arb := a } = { s.takeIdStart with arb := a } := by
  unfold State.takeIdStart
  cases s.seq.currentBand <;> cases s.idu.context <;> rfl

/-- A cycle that begins, its start waiting (R158). -/
def State.starting (c : CycleHome) (s : State) : State :=
  { s with idu := { s.idu with
    cycle := .starting, context := some ⟨s.seconds, [], 0, 0, c, [], false⟩, startWaits := true } }

theorem State.beginCycle_eq (c : CycleHome) (s : State) : s.beginCycle c =
    if s.seq.state = .quiet ∧ s.ready = true then (s.starting c).takeIdStart else s.starting c := rfl

/-- Nor does the beginning of a cycle. -/
theorem State.beginCycle_with_arb (a : Arb) (c : CycleHome) (s : State) :
    State.beginCycle c { s with arb := a } = { s.beginCycle c with arb := a } := by
  have e : State.beginCycle c { s with arb := a } = if s.seq.state = .quiet ∧ s.ready = true then
      State.takeIdStart { s.starting c with arb := a } else { s.starting c with arb := a } := rfl
  rw [e, State.beginCycle_eq]
  split
  · exact State.takeIdStart_with_arb a _
  · rfl

/-- The holder's leaving and the beginning of a cycle do not meet. -/
theorem State.leaveHolding_beginCycle (t : Turn) (again : Bool) (c : CycleHome) (s : State) :
    (s.beginCycle c).leaveHolding t again = (s.leaveHolding t again).beginCycle c := by
  cases again <;> simp [State.leaveHolding, State.setTenancy, State.stopPresence, State.beginCycle_with_arb]

/-- The roles after a turn end, where no cycle begins in an ID turn. -/
theorem State.roles_leaveHolding {s u : State} {t : Turn} {again : Bool} {f : Cycle → Cycle}
    (hs : s.arb.slots = u.arb.slots) (hr : s.arb.ranks = u.arb.ranks) (ht : s.turn = none) (hi : s.idu = u.idu)
    (hq : s.seq = u.forgetTurn.seq) :
    (State.leaveHolding t again { s with idu := { s.idu with
      claim := .none, deadlineRuns := false, context := s.idu.context.map f } }).roles = { u.roles with
      slots := u.arb.slots.write t.holder (if again then .waiting t.requeued else .opened), holder := none
      claim := .none, deadline := false, tx := u.roles.tx.map fun y => (y.1, false) } := by
  have hh : (State.leaveHolding t again { s with idu := { s.idu with
      claim := .none, deadlineRuns := false, context := s.idu.context.map f } }).holder = none := by
    rw [State.holder, State.turn_leaveHolding]
    exact congrArg (Option.map _) ht
  rw [State.roles, hh]
  cases again <;> cases hx : u.seq.tx <;>
    simp [State.leaveHolding, State.setTenancy, State.stopPresence, State.roles, hs, hr, hi, hq, hx, State.forgetTurn]

namespace State.Moves

variable {h s t : State}

theorem refl (s : State) : s.Moves s := Relation.ReflTransGen.refl

theorem trans (a : h.Moves s) (b : s.Moves t) : h.Moves t := Relation.ReflTransGen.trans a b

/-- A change of what the roles do not name. -/
theorem same (e : h.Moves s) (hr : t.roles = s.roles := by rfl) : h.Moves t := by
  unfold State.Moves at e ⊢
  rwa [hr]

/-- One move. -/
theorem move {r : Roles} (e : h.Moves s) (m : s.roles.Move r) (hr : t.roles = r := by rfl) : h.Moves t := by
  unfold State.Moves at e ⊢
  rw [hr]
  exact e.tail m

theorem twoMoves {q r : Roles} (e : h.Moves s) (m : s.roles.Move q) (n : q.Move r) (hr : t.roles = r) : h.Moves t := by
  unfold State.Moves at e ⊢
  rw [hr]
  exact (e.tail m).tail n

theorem ite {c : Prop} [Decidable c] {a b : State} (ha : c → h.Moves a) (hb : ¬c → h.Moves b) :
    h.Moves (if c then a else b) := by
  split
  · exact ha ‹_›
  · exact hb ‹_›

theorem modTurn (e : h.Moves s) (f : Turn → Turn) (hf : ∀ t, (f t).holder = t.holder := by exact fun _ => rfl) :
    h.Moves (s.modTurn f) := e.same (State.roles_modTurn hf s)

theorem raise (e : h.Moves s) (r : Report) : h.Moves (s.raise r) := e.same

theorem writeRecord (e : h.Moves s) (r : TurnRec) : h.Moves (s.writeRecord r) := .ite (fun _ => e) fun _ => e.same

theorem setTenancy (e : h.Moves s) (w : SlotId) (x : Tenancy) (hx : x ≠ .holding)
    (hw : s.tenancy w ≠ .holding ∨ s.holder ≠ some w) : h.Moves (s.setTenancy w x) := e.move (.slot _ w x hx hw)

/-- The arbiter's states without a turn stand for one another. -/
theorem setArbiter (e : h.Moves s) {a : Arbiter} (ha : (s.setArbiter a).turn = none) (ht : s.turn = none) :
    h.Moves (s.setArbiter a) := by
  refine e.same ?_
  have hh : (s.setArbiter a).holder = s.holder := by simp only [State.holder, ha, ht]
  unfold State.roles
  rw [hh]
  rfl

/-! #### Amplifier and key -/

theorem ampTo (e : h.Moves s) (a : AmpState) (c : AmpCause) : h.Moves (s.ampTo a c) := e.same

theorem warmAmp (e : h.Moves s) (c : AmpCause) : h.Moves (s.warmAmp c) := .ite (fun _ => e.same) fun _ => e.same

theorem startAmpIdle (e : h.Moves s) : h.Moves s.startAmpIdle := .ite (fun _ => e.same) fun _ => e

theorem ampAtGrant (e : h.Moves s) (u : Nat) : h.Moves (s.ampAtGrant u) := by
  refine .ite (fun _ => ?_) fun _ => e
  split
  · exact e.warmAmp _
  · exact .ite (fun _ => e.startAmpIdle) fun _ => e
  · exact e
  · exact e

theorem flushTurnKeys (e : h.Moves s) : h.Moves s.flushTurnKeys := e.same

theorem keyUpAtRest (e : h.Moves s) : h.Moves s.keyUpAtRest := by
  unfold State.keyUpAtRest
  dsimp only
  generalize hq : ({ s with ktl := _ } : State) = q
  have e : h.Moves q := by rw [← hq]; exact e.same
  exact .same (e.modTurn (fun t => if t.emission = .cw then { t with pendingStart := false } else t) fun t => by
    split <;> rfl)

theorem raiseGated (e : h.Moves s) : h.Moves s.raiseGated := by
  unfold State.raiseGated
  split
  · exact e.raise _
  · exact e

theorem playEvent (e : h.Moves s) (k : KeyEntry) : h.Moves (s.playEvent k) := by
  unfold State.playEvent
  split
  · exact e.same
  · dsimp only
    generalize hq : ({ s.raiseGated with ktl := _ } : State) = q
    have e : h.Moves q := by rw [← hq]; exact e.raiseGated.same
    exact .ite (fun _ => e.keyUpAtRest) fun _ => e.same

theorem playDue (n : Nat) : ∀ {s : State}, h.Moves s → h.Moves (s.playDue n) := by
  induction n with
  | zero => exact id
  | succ n ih =>
    intro s e
    unfold State.playDue
    split
    · exact e
    · exact .ite (fun _ => ih (State.Moves.playEvent e.same _)) fun _ => e

theorem playAllDue (e : h.Moves s) : h.Moves s.playAllDue := e.playDue _

theorem computeDrive (e : h.Moves s) : h.Moves s.computeDrive := by
  unfold State.computeDrive; split
  · exact e
  · split
    · exact e
    · exact e.same

theorem recompute (e : h.Moves s) : h.Moves s.recompute := .ite (fun _ => e.computeDrive) fun _ => e

theorem recomputeMember (e : h.Moves s) : h.Moves s.recomputeMember := .ite (fun _ => e.recompute) fun _ => e

/-! #### Starts of transmissions -/

theorem takeStart (e : h.Moves s) (hq : s.seq.state = .quiet) : h.Moves s.takeStart := by
  cases ht : s.turn with
  | none => simpa [State.takeStart, ht] using e
  | some t => exact e.move (.takesStart _ t.holder (by simp [State.roles, State.holder, ht]) hq) (State.roles_takeStart ht)

theorem takeIdStart (e : h.Moves s) (hw : s.idu.startWaits = true) (hq : s.seq.state = .quiet) :
    h.Moves s.takeIdStart := by
  unfold State.takeIdStart
  split
  · rename_i b c _ hc
    refine e.move (.takesIdStart _ hw hq) ?_
    simp [State.roles, hc, State.holder, State.turn, State.enterArmRelay, State.startStep]
  · exact e

theorem takePending (e : h.Moves s) : h.Moves s.takePending := by
  unfold State.takePending
  split
  · exact .ite (fun c => e.takeStart c.2.2.1) fun _ => e
  · exact e

theorem setPending (e : h.Moves s) : h.Moves s.setPending := e.modTurn _

theorem clearPending (e : h.Moves s) : h.Moves s.clearPending := e.modTurn _

theorem startElement (e : h.Moves s) (he : s.idu.element.isSome = true) : h.Moves s.startElement := by
  unfold State.startElement
  split
  · exact e.same (by simp only [State.roles, he, Option.isSome_some]; rfl)
  · exact e

theorem enterExciting (e : h.Moves s)
    (hq : s.seq.state = .armAmp ∨ (s.seq.state = .drain ∧ s.memberTx = true)) : h.Moves s.enterExciting := by
  unfold State.enterExciting
  split
  · exact e
  · rename_i x hx
    dsimp only
    generalize hu : State.computeDrive _ = u
    have hr : u.roles = { s.roles with seq := .exciting } := by
      have key (v : State) : v.computeDrive.roles = v.roles := by
        unfold State.computeDrive; split
        · rfl
        · split <;> rfl
      rw [← hu, key]
      simp [State.roles, hx, State.holder, State.turn]
    cases hk : x.kind with
    | member w =>
      have e : h.Moves u := e.move (.onAir _ w x.current (by simp [State.roles, hx, hk]) (hq.imp_right And.left)) hr
      simpa using e.same
    | ident =>
      have hq : s.seq.state = .armAmp := hq.resolve_right fun c => by simp [State.memberTx, hx, hk] at c
      have m := Roles.Move.identOnAir s.roles x.current (by simp [State.roles, hx, hk]) hq
      have key (v : State) : v.syncKey.roles = v.roles := rfl
      refine e.move m ?_
      simp only [ne_eq, not_true_eq_false, decide_false, Bool.false_eq_true, if_false]
      rw [key, State.roles_beginSending]
      simp only [State.roles_raise, hr]

/-! #### Ends of transmissions -/

/-- Without a transmission context nothing leaves the air. -/
theorem leaveExciting (e : h.Moves s) (c : TxEndCause) {q : SeqState} (hs : s.seq.state = .exciting)
    (hq : q.calm = true) : h.Moves (s.leaveExciting c q) := by
  unfold State.leaveExciting
  split
  · exact e
  · rename_i x hx
    exact e.move (.leaves _ q hs hq) (by simp [State.roles, hx, State.holder, State.turn])

theorem disarm (e : h.Moves s) (hs : s.seq.state = .exciting → s.seq.tx = none) : h.Moves s.disarm := by
  have hs : s.roles.seq = .exciting → s.roles.tx = none := fun c => by simp [State.roles, hs c]
  exact .ite (fun _ => e.move (.goesOn _ .disarmAmp hs rfl)) fun _ => e.move (.goesOn _ .disarmRelay hs rfl)

theorem normalEnd (e : h.Moves s) (c : TxEndCause) : h.Moves (s.normalEnd c) :=
  .ite (fun hs => .same (e.leaveExciting c hs rfl)) fun _ => e

theorem abandonArming (e : h.Moves s) (c : TxEndCause) (hs : s.seq.state ≠ .exciting) :
    h.Moves (s.abandonArming c) := by
  have key : s.roles = ((s.modTx fun x => { x with endCause := some c }).clearPttFor c).roles := by
    cases hx : s.seq.tx <;> simp [State.roles, State.modTx, State.clearPttFor, hx, State.holder, State.turn]
  exact .disarm (e.same key.symm) fun c => absurd c hs

theorem enterRetune (e : h.Moves s) (b : BandId) (hs : s.seq.state = .exciting → s.seq.tx = none) :
    h.Moves (s.enterRetune b) :=
  e.move (.goesOn _ .retune (fun c => by simp [State.roles, hs c]) rfl)

theorem askRetune (e : h.Moves s) (b : BandId) : h.Moves (s.askRetune b) :=
  .ite (fun c => e.enterRetune b fun c' => by rw [c] at c'; cases c') fun _ => e.same

/-! #### Claims, grants and the turn end -/

/-- A cycle begins: its start waits, or is taken at once in QUIET. -/
theorem beginCycle (e : h.Moves s) (c : CycleHome) (hi : s.idu.cycle = .idle) : h.Moves (s.beginCycle c) := by
  have e : h.Moves (s.starting c) := e.move (.begins _ hi)
  exact .ite (fun hq => e.takeIdStart rfl hq.1) fun _ => e

theorem claimPause (e : h.Moves s) (ht : s.turn ≠ none ∨ s.idu.claim ≠ .none) : h.Moves s.claimPause := by
  have ht : s.roles.holder ≠ none ∨ s.roles.claim ≠ .none := ht.imp_left fun c => by simpa [State.roles, State.holder] using c
  have e := (e.modTurn fun t => { t with sub := .paused, idleStart := none }).flushTurnKeys
  have hr : (s.modTurn fun t => { t with sub := .paused, idleStart := none }).flushTurnKeys.roles = s.roles :=
    State.roles_modTurn (by exact fun _ => rfl) s
  rw [← hr] at ht
  unfold State.claimPause
  generalize State.flushTurnKeys _ = u at e ht
  exact .ite (fun c => .beginCycle (e.move (.claims _ .holdingPause false (.inl ht))) _ c.2) fun _ =>
    e.move (.claims _ .holdingPause false (.inl ht))

theorem claimTurn (e : h.Moves s) : h.Moves s.claimTurn := by
  unfold State.claimTurn
  split
  · exact e
  · rename_i t ht
    have hh : s.roles.holder ≠ none := by simp [State.roles, State.holder, ht]
    split
    · exact .ite (fun _ => e.move (.claims _ _ _ (.inl (.inl hh)))) fun _ => e.claimPause (.inl (by simp [ht]))
    · exact e.move (.claims _ _ _ (.inl (.inl hh)))
    · exact e

theorem enterActive (e : h.Moves s) : h.Moves s.enterActive := by
  have e := (e.modTurn fun t => { t with sub := .active }).same (t := State.syncKey _)
  exact .ite (fun c => e.claimPause (.inr (by rw [c.2]; decide))) fun _ => e.takePending

theorem grantSteps (e : h.Moves s) (w : SlotId) (r : RequestRec) (ht : s.turn = none) : h.Moves (s.grantSteps w r) :=
  .raise (.ampAtGrant (.move e (.grant _ w (by simp [State.roles, State.holder, ht]))) _) _

theorem enterGranted (e : h.Moves s) (r : RequestRec) : h.Moves (s.enterGranted r) := by
  have e' := e.flushTurnKeys.askRetune r.band
  exact .ite (fun _ => .ite (fun _ => e.claimTurn) fun _ => e.enterActive) fun _ => .ite (fun _ => e'.claimTurn) fun _ => e'

theorem grantRequest (e : h.Moves s) (w : SlotId) (r : RequestRec) (ht : s.turn = none) :
    h.Moves (s.grantRequest w r) := (e.grantSteps w r ht).enterGranted r

theorem arbitrate (e : h.Moves s) (ht : s.turn = none) : h.Moves s.arbitrate := by
  unfold State.arbitrate
  split
  · unfold State.grant
    split
    · exact e.grantRequest _ _ ht
    · exact e
  · exact e.setArbiter rfl ht

theorem endTurnTx (e : h.Moves s) : h.Moves s.endTurnTx :=
  .ite (fun _ => .ite (fun _ => e.normalEnd _) fun hs => .ite (fun _ => e.abandonArming _ hs) fun _ => e) fun _ => e

/-- The turn is over, and an identification may begin in an ID turn. -/
theorem turnEnd (e : h.Moves s) (c : TurnEndCause) : h.Moves (s.turnEnd c) := by
  unfold State.turnEnd
  split
  · exact e
  · rename_i t ht
    dsimp only
    generalize State.memberRecord _ _ _ = record
    generalize (decide (t.mode = .standing) && requeues c) = again
    generalize (decide (t.sub = .paused) && s.ready) = toId
    have e := e.endTurnTx
    have ht : s.endTurnTx.turn = some t := by simpa [State.turn, State.endTurnTx_arb] using ht
    have hh : s.endTurnTx.roles.holder = some t.holder := by simp [State.roles, State.holder, ht]
    generalize s.endTurnTx = u at e ht hh
    have hx : (if again then Tenancy.waiting t.requeued else .opened) ≠ .holding := by cases again <;> nofun
    generalize hv : State.afterTurn _ _ _ = v
    have hv : v.arb.slots = u.arb.slots ∧ v.arb.ranks = u.arb.ranks ∧ v.turn = none ∧ v.idu = u.idu ∧
        v.seq = u.forgetTurn.seq := by
      rw [← hv]
      exact ⟨by simp [State.afterTurn], by simp [State.afterTurn], by simp, by simp, by simp⟩
    obtain ⟨hslots, hranks, hturn, hidu, hseq⟩ := hv
    have hr (f : Cycle → Cycle) := State.roles_leaveHolding (t := t) (again := again) (f := f) hslots hranks hturn hidu hseq
    have e (f : Cycle → Cycle) := e.move (.turnOver _ t.holder _ hh hx) (hr f)
    unfold State.moveCycle
    dsimp only
    split
    · rw [State.leaveHolding_beginCycle]
      refine (e _).beginCycle _ ?_
      rw [State.leaveHolding_idu]
      exact And.right ‹_›
    · exact e _

/-! #### Ends of identifications, the cut -/

theorem stopGap (e : h.Moves s) : h.Moves s.stopGap := e.same

theorem idTurnOver (e : h.Moves s) : h.Moves s.idTurnOver := by
  unfold State.idTurnOver
  split
  · exact e
  · rename_i hid
    have ht : s.turn = none := by
      rw [ne_eq, Decidable.not_not] at hid
      simp [State.turn, hid]
    exact .ite (fun _ => .ite (fun _ => e.arbitrate ht) fun _ =>
      .ite (fun _ => e.stopGap.arbitrate ht) fun _ => e.setArbiter rfl ht) fun _ =>
      .ite (fun _ => e.setArbiter rfl ht) fun _ => e.setArbiter rfl ht

theorem abandonCycle (e : h.Moves s) (hq : s.seq.state.calm = true) : h.Moves s.abandonCycle := by
  unfold State.abandonCycle
  split
  · rename_i c _
    have e := e.writeRecord (s.idRecord c s.txAirTime .aborted)
    exact e.move (.abandons _ (by simpa [State.roles] using hq))
  · exact e

theorem dropAbandons (e : h.Moves s) (hq : s.seq.state.calm = true) : h.Moves s.dropAbandons := by
  unfold State.dropAbandons
  refine .ite (fun _ => ?_) fun _ => e
  split
  · rename_i c hc
    refine (e.abandonCycle hq).beginCycle c ?_
    cases hx : s.idu.context with
    | none => simp [State.cycleHome, hx] at hc
    | some y => simp [State.abandonCycle, hx]
  · exact e

theorem tellExit (e : h.Moves s) (c : TxEndCause) (left : Bool) (hq : s.identTx = true → s.seq.state.calm = true) :
    h.Moves (s.tellExit c left) :=
  .ite (fun _ => .ite (fun _ => e.turnEnd _) fun _ =>
    .ite (fun hc => e.claimPause (.inr (by rw [hc]; decide))) fun _ => e) fun _ =>
    .ite (fun hi => e.dropAbandons (hq hi.1)) fun _ => e


theorem endTx (e : h.Moves s) (c : TxEndCause) : h.Moves (s.endTx c) := by
  refine .ite (fun hs => (e.normalEnd c).tellExit c true fun hi => ?_) fun hs =>
    .ite (fun _ => (e.abandonArming c hs).tellExit c false fun _ => (State.disarm_state _).1) fun _ => e
  cases hx : s.seq.tx with
  | none =>
    have hnone := State.tx_of_identTx hi
    simp [State.normalEnd, State.leaveExciting, hs, hx, State.startStep] at hnone
  | some x => exact State.normalEnd_calm c hs (by simp [hx])

theorem endMemberTx (e : h.Moves s) (c : TxEndCause) : h.Moves (s.endMemberTx c) := .ite (fun _ => e.endTx c) fun _ => e

theorem cutFlush (e : h.Moves s) (c : CutCause) : h.Moves (s.cutFlush c) := by
  unfold State.cutFlush
  split
  · exact .ite (fun _ => e.flushTurnKeys) fun _ => e
  · exact e

theorem cut (e : h.Moves s) (c : CutCause) : h.Moves (s.cut c) := by
  unfold State.cut
  dsimp only
  have e : h.Moves (State.cutFlush c { s.clearPending with seq := { s.clearPending.seq with pttDemand := false } }) :=
    .cutFlush (.same e.clearPending) c
  generalize State.cutFlush c _ = u at e
  split
  · exact e
  · exact e
  · exact e
  · exact e
  · exact (e.abandonArming _ (by simp_all)).tellExit _ _ fun _ => (State.disarm_state _).1
  · exact (e.abandonArming _ (by simp_all)).tellExit _ _ fun _ => (State.disarm_state _).1
  · rename_i hs
    refine .tellExit (.disarm (e.leaveExciting _ hs rfl) fun c => ?_) _ _ fun _ => (State.disarm_state _).1
    cases hx : u.seq.tx with
    | none => rw [State.leaveExciting, hx]; exact hx
    | some x => simp [State.leaveExciting, hx] at c
  · exact e.disarm (by simp_all)

/-! #### The waits' ends and what settles at once -/

theorem closeCycle (e : h.Moves s) (n : Nat) (hq : s.seq.state.calm = true) : h.Moves (s.closeCycle n) := by
  unfold State.closeCycle
  split
  · rename_i c hc _
    have e := e.writeRecord (s.idRecord c n .complete)
    have e := e.move (.closes _ (by simpa [State.roles] using hc) (by simpa [State.roles] using hq))
      (t := { s.writeRecord (s.idRecord c n .complete) with
        idu := { (s.writeRecord (s.idRecord c n .complete)).idu with cycle := .idle, context := none } })
    have e := e.move (.claims _ .none _ (.inr ⟨.inl rfl, .inr rfl⟩))
      (t := { s.writeRecord (s.idRecord c n .complete) with
        idu := { (s.writeRecord (s.idRecord c n .complete)).idu with cycle := .idle, context := none, claim := .none } })
    dsimp only
    split
    · exact e.enterActive
    · exact e.idTurnOver
    · exact e
  · exact e

theorem swapProfile (e : h.Moves s) : h.Moves s.swapProfile := .ite (fun _ => e.same) fun _ => e

theorem restartIdle (e : h.Moves s) : h.Moves s.restartIdle := e.modTurn _ fun t => by split <;> rfl

/-- Entering QUIET closes the cycle first, while the sequencer still stands in the state it leaves. -/
theorem enterQuiet (e : h.Moves s) (hq : s.seq.state.calm = true) (hb : s.seq.state ≠ .quiet) : h.Moves s.enterQuiet := by
  rw [State.enterQuiet_eq]
  have e : h.Moves s.overAndOut := e.move (.txGone _ hq)
  have hstate := ((State.SeqStays.refl (s := s.overAndOut) hb).closeCycle s.txAirTime).state
  have e := e.closeCycle s.txAirTime hq
  generalize State.closeCycle _ _ = u at e hstate
  have hnot : u.swapProfile.seq.state ≠ .exciting := by
    have : u.swapProfile.seq.state = u.seq.state := by unfold State.swapProfile; split <;> rfl
    rw [this, hstate]
    exact fun c => by simp [State.overAndOut] at c; rw [c] at hq; cases hq
  have e : h.Moves u.swapProfile.quieted :=
    .startAmpIdle (e.swapProfile.move (.goesOn _ .quiet (fun c => absurd c hnot) rfl))
  have hquiet : u.swapProfile.quieted.seq.state = .quiet := u.swapProfile.quieted_state
  unfold State.takeUp
  split
  · exact e.enterRetune _ (by simp)
  · exact .ite (fun hi => e.takeIdStart hi.1 hquiet) fun _ => e.takePending

theorem enterArmAmp (e : h.Moves s) (hs : s.seq.state = .armRelay) : h.Moves s.enterArmAmp := by
  have e : h.Moves { s with seq := { s.seq with state := .armAmp } } := e.move (.relayOn _ hs)
  exact .ite (fun _ => .ite (fun _ => e.same) fun _ => e.cut _) fun _ => e.same

theorem settleBand (e : h.Moves s) (hs : s.seq.state = .retune) : h.Moves s.settleBand := by
  unfold State.settleBand
  dsimp only
  have e : h.Moves (State.enterQuiet { s with seq := { s.seq with retuneBand := none, retuneCurrent := false } }) :=
    .enterQuiet e.same (by simp [hs, SeqState.calm]) (by simp [hs])
  generalize State.enterQuiet _ = u at e
  cases s.seq.retuneBand with
  | none => exact .ite (fun _ => e.enterActive) fun _ => e
  | some b => exact .ite (fun _ => (e.raise _).enterActive) fun _ => e.raise _

theorem advance (e : h.Moves s) : h.Moves s.advance := by
  unfold State.advance
  split
  · exact e.settleBand ‹_›
  · exact e.enterArmAmp ‹_›
  · exact e.enterExciting (.inl ‹_›)
  · exact e.move (.goesOn _ .disarmAmp (fun c => by simp_all [State.roles]) rfl)
  · exact e.move (.goesOn _ .disarmRelay (fun c => by simp_all [State.roles]) rfl)
  · rename_i hs
    have hseq : s.restartIdle.seq = s.seq := State.modTurn_seq _ s
    exact e.restartIdle.enterQuiet (by simp [hseq, hs, SeqState.calm]) (by simp [hseq, hs])
  · exact e
  · exact e

theorem enterIdTurn (e : h.Moves s) (ho : s.idTurnOpen = true) : h.Moves s.enterIdTurn := by
  simp only [State.idTurnOpen, Bool.and_eq_true, decide_eq_true_eq] at ho
  obtain ⟨⟨⟨harb, -⟩, -⟩, hcycle⟩ := ho
  refine .beginCycle (e.setArbiter rfl ?_) _ hcycle
  rcases harb with ha | ha <;> simp [State.turn, ha]

theorem gapExpires (e : h.Moves s) : h.Moves s.gapExpires :=
  .ite (fun ha => e.stopGap.arbitrate (by rw [State.turn_stopGap]; simp [State.turn, ha])) fun _ => e.same

theorem syncIdle (e : h.Moves s) : h.Moves s.syncIdle := e.modTurn _

theorem settleStep (e : h.Moves s) (ht : s.settleStep = some t) : h.Moves t := by
  rcases State.settleStep_cases ht with ⟨-, ho, rfl⟩ | ⟨-, rfl⟩ | ⟨-, rfl⟩
  · exact e.enterIdTurn ho
  · exact e.gapExpires
  · exact State.Moves.advance e.same

theorem settle (e : h.Moves s) : h.Moves s.settle :=
  State.settle_induct (fun _ _ ht e => e.settleStep ht) (fun _ e => e.syncIdle) (fun _ e => e.same) e

/-! #### Member starts -/

theorem memberStart (e : h.Moves s) : h.Moves s.memberStart.1 := by
  unfold State.memberStart
  split
  · exact e
  · split
    · split
      · exact e.takeStart ‹_›
      · exact e.setPending
    · split <;> [exact e; exact e.setPending]
    · split <;> [exact e; exact e.setPending]
    · split <;> [exact e; exact e.setPending]
    · rename_i hs
      split
      · rename_i hc
        have hm : s.memberTx = true := by
          simp only [State.canReturn, Bool.and_eq_true] at hc
          exact hc.2.1.1
        refine State.Moves.enterExciting (e.modTurn _) (.inr ⟨?_, ?_⟩)
        · simpa using hs
        · simpa [State.memberTx] using hm
      · exact e.setPending
    · exact e.setPending
    · exact e.setPending
    · exact e.setPending

theorem demandInactive (e : h.Moves s) (c : TxEndCause) : h.Moves (s.demandInactive c) := (e.endMemberTx c).clearPending

/-! #### Protection (R136 to R146) -/

theorem dropRequest (e : h.Moves s) (c : DropCause) (w : SlotId) : h.Moves (s.dropRequest c w) := by
  unfold State.dropRequest
  split
  · rename_i r hr
    exact .same (e.setTenancy w .opened nofun (.inl (by simp [hr])))
  · exact e

theorem killFlush (e : h.Moves s) : h.Moves s.killFlush := List.foldlRecOn _ _ e fun _ e w _ => e.dropRequest _ w

/-- After a cut an identification is abandoned while nothing is armed. -/
theorem stationAbandons (e : h.Moves s) (hq : s.seq.state.calm = true) : h.Moves s.stationAbandons :=
  .ite (fun _ => .ite (fun _ => (e.abandonCycle hq).idTurnOver) fun _ => e.abandonCycle hq) fun _ => e

theorem resumeClaim (e : h.Moves s) : h.Moves s.resumeClaim := by
  unfold State.resumeClaim
  split
  · exact .ite (fun c => e.beginCycle _ c.2.2) fun _ => e
  · exact e

theorem enterStation (e : h.Moves s) (x : StationState) : h.Moves (s.enterStation x) := by
  have hcut (c : CutCause) : h.Moves (s.cut c).stationAbandons := (e.cut c).stationAbandons (s.cut_calm c)
  unfold State.enterStation State.enterKilled State.enterTripped State.enterHeld State.enterReady
  split
  · exact ((hcut .kill).turnEnd _).killFlush
  · exact e
  · exact (hcut .fault).turnEnd _
  · exact hcut .held
  · exact .resumeClaim (.ite (fun ha => e.arbitrate (by simp [State.turn, ha])) fun _ => e)

theorem derive (e : h.Moves s) (c : StationCause) (f : Option FaultKind) : h.Moves (s.derive c f) :=
  .ite (fun _ => e) fun _ => .enterStation e.same _

theorem occur (e : h.Moves s) (k : FaultKind) (w : Option SlotId) (c : Option Code) : h.Moves (s.occur k w c) :=
  .derive e.same _ _

theorem ampDrop (e : h.Moves s) : h.Moves s.ampDrop :=
  .occur (.ite (fun _ => .cut e.same _) fun _ => e.same) _ _ _

theorem killAsserted (e : h.Moves s) : h.Moves s.killAsserted := .ite (fun _ => e) fun _ => .derive e.same _ _

theorem exhaustionEffects (e : h.Moves s) (w : SlotId) : h.Moves (s.exhaustionEffects w) :=
  .raise (.ite (fun _ => .turnEnd (.ite (fun _ => e.endMemberTx _) fun _ => e) _) fun _ => e) _

/-! #### Air time (R165) -/

theorem addAir (e : h.Moves s) (k : Nat) : h.Moves (s.addAir k) :=
  e.same (by cases hx : s.seq.tx <;> simp [State.addAir, State.modTx, State.roles, hx, State.holder, State.turn])

theorem memberTenths (e : h.Moves s) (w : SlotId) (k : Nat) : h.Moves (s.memberTenths w k) := by
  have e : h.Moves (s.chargeTenths w (s.usable w k)) := .same ((e.addAir _).modTurn fun t => { t with airTime := t.airTime + s.usable w k })
  rw [State.memberTenths_eq]
  exact .ite (fun _ => e.exhaustionEffects w) fun _ => e

theorem airTenths (e : h.Moves s) (k : Nat) : h.Moves (s.airTenths k) := by
  unfold State.airTenths
  split
  · exact .ite (fun _ => e.memberTenths _ _) fun _ => e.addAir k
  · exact e.addAir k

theorem onTime (e : h.Moves s) : h.Moves s.onTime := .ite (fun _ => e) fun _ => (e.airTenths _).settle

theorem bringTo (e : h.Moves s) (c : Clock) : h.Moves (s.bringTo c) := .ite (fun _ => e) fun _ => e.same

/-! #### Wired inputs (chapter 10) -/

theorem wiredActive (e : h.Moves s) (o : Origin) : h.Moves (s.wiredActive o) := by
  unfold State.wiredActive
  split
  · rename_i hs
    unfold State.wiredRequest
    refine .ite (fun _ => e.raise _) fun _ => .ite (fun _ => e.raise _) fun _ => ?_
    have e := e.setTenancy 0 (.waiting ⟨s.arb.defaultBand, s.arb.defaultEmission, s.arb.defaultPower, .once, o, false⟩)
      nofun (.inl (by simp [hs]))
    exact .ite (fun ha => e.arbitrate (by simp only [State.turn, ha])) fun _ => e
  · exact e

theorem wiredInactive (e : h.Moves s) (o : Origin) : h.Moves (s.wiredInactive o) := by
  unfold State.wiredInactive
  split
  · rename_i r hr
    exact .ite (fun _ => .same (e.setTenancy 0 .opened nofun (.inl (by simp [hr])))) fun _ => e
  · exact e

theorem pttPressed (e : h.Moves s) : h.Moves s.pttPressed :=
  .ite (fun _ => .ite (fun _ => e.memberStart) fun _ => e) fun _ => e.wiredActive _

theorem pttReleased (e : h.Moves s) : h.Moves s.pttReleased :=
  .ite (fun _ => .ite (fun _ => e) fun _ => e.demandInactive _) fun _ => e.wiredInactive _

theorem keyPressed (e : h.Moves s) : h.Moves s.keyPressed :=
  .ite (fun _ => .ite (fun _ => .memberStart e.same) fun _ => e.same) fun _ => e

theorem keyReleased (e : h.Moves s) : h.Moves s.keyReleased :=
  .ite (fun _ => e.same) fun _ => .ite (fun _ => .ite (fun _ => e.keyUpAtRest) fun _ => e.same) fun _ => e

theorem ampReadyChange (e : h.Moves s) (a b : Reading) : h.Moves (s.ampReadyChange a b) := by
  unfold State.ampReadyChange
  split
  · exact .ite (fun _ => e.same) fun _ => e
  · exact .ite (fun _ => e.ampDrop) fun _ => e
  · exact e

theorem deliver (e : h.Moves s) (f : InputFunction) (b : Reading) : h.Moves (s.deliver f b) := by
  cases f with
  | none => exact e
  | ampReady => exact e.ampReadyChange _ _
  | localPtt => exact .ite (fun _ => e) fun _ => .ite (fun _ => e.pttPressed) fun _ => e.pttReleased
  | localKey => exact .ite (fun _ => e) fun _ => .ite (fun _ => e.keyPressed) fun _ => e.keyReleased
  | localRequest => exact .ite (fun _ => e) fun _ => .ite (fun _ => e.wiredActive _) fun _ => e.wiredInactive _
  | extFault => exact .ite (fun _ => e) fun _ => .ite (fun _ => e.occur _ _ _) fun _ => e.same

theorem debounced (e : h.Moves s) (i : InputId) : h.Moves (s.debounced i) :=
  .deliver (.ite (fun _ => .wiredActive e.same _) fun _ => e.same) _ _

theorem inputLevel (e : h.Moves s) (i : InputId) (b : Bool) : h.Moves (s.inputLevel i b) :=
  .ite (fun _ => .debounced e.same i) fun _ => e.same

theorem killDebounced (e : h.Moves s) : h.Moves s.killDebounced := .ite (fun _ => .killAsserted e.same) fun _ => e.same

theorem route (e : h.Moves s) (i : InputId) (y : Input) : h.Moves (s.route i y) := by
  have e : h.Moves (if y.function = (s.inr.inputs.read i).function then
      (s.setInputOf i y).deliver (s.inr.inputs.read i).function (s.reading (s.inr.inputs.read i).function)
      else ((s.setInputOf i y).deliver (s.inr.inputs.read i).function
        (s.reading (s.inr.inputs.read i).function)).deliver y.function (s.reading y.function)) :=
    .ite (fun _ => .deliver e.same _ _) fun _ => .deliver (.deliver e.same _ _) _ _
  exact .ite (fun _ => e.debounced i) fun _ => e

/-! #### The occurrences at their instants -/

theorem atInstant (e : h.Moves s) {due : State → Option Clock} {act : State → State}
    (ha : ∀ u, h.Moves u → (due u).isSome = true → h.Moves (act u)) : h.Moves (s.atInstant due act) := by
  unfold State.atInstant
  split
  · rename_i c _
    have e' := (e.bringTo c).onTime
    exact .ite (fun _ => e) fun _ => .ite (fun hd => ha _ e' (by simp [hd])) fun _ => e'
  · exact e

theorem onExpiry (e : h.Moves s) {timer : State → Option Timer} {act : State → State}
    (ha : ∀ u, h.Moves u → h.Moves (act u)) : h.Moves (s.onExpiry timer act) := e.atInstant fun u e _ => ha u e

theorem onExpirySettled (e : h.Moves s) {timer : State → Option Timer} {act : State → State}
    (ha : ∀ u, h.Moves u → h.Moves (act u)) : h.Moves (s.onExpirySettled timer act) :=
  e.onExpiry fun u e => (ha u e).settle

theorem presenceLost (e : h.Moves s) (w : SlotId) : h.Moves (s.presenceLost w) :=
  .ite (fun _ => .turnEnd e.same _) fun _ => .dropRequest e.same _ _

theorem stepEnds (e : h.Moves s) : h.Moves s.stepEnds := .advance e.same

theorem playOldest (e : h.Moves s) : h.Moves s.playOldest := by
  unfold State.playOldest
  split
  · exact e
  · exact .playEvent e.same _

theorem stuckKey (e : h.Moves s) : h.Moves s.stuckKey :=
  .raise (.occur (.keyUpAtRest (.ite (fun _ => e.same) fun _ => e.same)) _ _ _) _

theorem warmEnds (e : h.Moves s) : h.Moves s.warmEnds := .ite (fun _ => .occur e.same _ _ _) fun _ => e.same

theorem fallsDue (e : h.Moves s) : h.Moves s.fallsDue := by
  refine .ite (fun _ => ?_) fun _ => e.same
  dsimp only
  generalize hu : State.claimTurn _ = u
  have e : h.Moves u := by
    rw [← hu]
    exact .claimTurn (.raise (.same e) _)
  exact .ite (fun _ => e.endMemberTx _) fun _ => e

theorem deadline (e : h.Moves s) : h.Moves s.deadline := by
  have e : h.Moves { s with idu := { s.idu with deadlineRuns := false } } :=
    e.move (.claims _ _ false (.inr ⟨.inr rfl, .inl rfl⟩))
  exact .ite (fun _ => e.endMemberTx _) fun _ => e

theorem quietEnds (e : h.Moves s) : h.Moves s.quietEnds := .ite (fun ho => .enterIdTurn e.same ho) fun _ => e.same

/-- With the last element the identification completes (R160). -/
theorem elementEnds (e : h.Moves s) (he : s.idu.element.isSome = true) : h.Moves s.elementEnds := by
  unfold State.elementEnds
  split
  · rename_i c hc
    dsimp only
    split
    · cases hx : s.seq.tx with
      | none =>
        refine e.move (.keyOff _) ?_
        by_cases hs : s.seq.state = .exciting <;>
          simp [State.normalEnd, State.leaveExciting, State.completeId, State.roles, hc, hx, hs, State.startStep,
            State.holder, State.turn]
      | some x =>
        refine e.twoMoves (.completes _ (by simpa [State.roles] using he) (by simp [State.roles, hc]))
          (.claims _ _ false (.inr ⟨.inr rfl, .inl rfl⟩)) ?_
        by_cases hs : s.seq.state = .exciting <;>
          simp [State.normalEnd, State.leaveExciting, State.completeId, State.roles, hc, hx, hs, State.startStep,
            State.holder, State.turn]
    · exact e.same (by simp only [State.startElement, State.roles, hc, he, Option.isSome_some]; rfl)
  · exact e

theorem elementEnds_settled (e : h.Moves s) :
    h.Moves (s.onExpirySettled (fun s => s.idu.element) State.elementEnds) :=
  e.atInstant fun _ e hd => (e.elementEnds (by simpa using hd)).settle

theorem levelChanges (e : h.Moves s) (c : LevelChange) : h.Moves (s.levelChanges c) := by
  cases c with
  | wired i b => exact e.inputLevel i b
  | kill b => exact e.same

theorem rawChanges (e : h.Moves s) (c : LevelChange) : h.Moves (s.rawChanges c) := by
  cases c <;> exact e.same

/-! #### The scan (R118) -/

theorem judgeReflection (e : h.Moves s) (j : Judged) (f r : Code) : h.Moves (s.judgeReflection j f r) :=
  .ite (fun _ => e) fun _ => .ite (fun _ => .occur e.same _ _ _) fun _ =>
    .ite (fun _ => e.same) fun _ => .recompute e.same

theorem scanExciting (e : h.Moves s) (j : Judged) (f r : Code) : h.Moves (s.scanExciting j f r) := by
  have e : h.Moves (s.updatePeak f) := by
    unfold State.updatePeak
    split
    · exact e.same
    · exact e
  have e := e.judgeReflection j f r
  exact .ite (fun _ => e.same) fun _ => e

theorem judgeCurrent (e : h.Moves s) (j : Option Judged) (c : Code) : h.Moves (s.judgeCurrent j c) := by
  have e : h.Moves (s.followCurrent c) := e.same
  unfold State.judgeCurrent
  cases j with
  | none => exact e.same
  | some j => exact .ite (fun _ => e.same) fun _ => .ite (fun _ => .occur e.same _ _ _) fun _ => e.same

theorem judgeTemp (e : h.Moves s) (c : Code) : h.Moves (s.judgeTemp c) :=
  .ite (fun _ => e.same) fun _ => .ite (fun _ => e.same) fun _ =>
    .ite (fun _ => .derive e.same _ _) fun _ => .occur e.same _ _ _

theorem judgeSupply (e : h.Moves s) (c : Code) : h.Moves (s.judgeSupply c) :=
  .ite (fun _ => e.same) fun _ => .ite (fun _ => e.same) fun _ =>
    .ite (fun _ => .derive e.same _ _) fun _ => .occur e.same _ _ _

theorem completeScan (e : h.Moves s) (f r pai pat vsup : Code) : h.Moves (s.completeScan f r pai pat vsup) := by
  have e := (e.bringTo s.scanStart).onTime
  refine .judgeSupply (.judgeTemp (.judgeCurrent ?_ _ _) _) _
  split
  · exact .scanExciting e.same _ _ _
  · exact e.same

theorem toTenth (e : h.Moves s) (r : Residency) : h.Moves (s.toTenth r) := .ite (fun _ => e.same) fun _ => e

theorem addTenth (e : h.Moves s) (r : Residency) : h.Moves (s.addTenth r) := .ite (fun _ => e.same) fun _ => e

/-! #### Requests (R183) -/

theorem startPresence (e : h.Moves s) (w : SlotId) : h.Moves (s.startPresence w) := .ite (fun _ => e) fun _ => e.same

theorem restartPresence (e : h.Moves s) (w : SlotId) : h.Moves (s.restartPresence w) := by
  unfold State.restartPresence
  split
  · exact e.startPresence w
  · exact e

theorem takeRequest (e : h.Moves s) {f : Actor → State → Handled} (hf : ∀ a u, h.Moves u → h.Moves (f a u).state)
    (kind tag actor : Nat) (who : Allowed) : h.Moves (s.takeRequest kind tag actor who f) := by
  refine .ite (fun _ => e) fun _ => ?_
  have e : h.Moves s.onTime.readyToTake := e.onTime.same
  dsimp only
  generalize s.onTime.readyToTake = u at e
  split
  · exact e.same
  · rename_i a _
    refine .ite (fun _ => .same (hf a _ ?_)) fun _ => e.same
    cases a with
    | slot w => exact e.restartPresence w
    | station => exact e

theorem takeStation (e : h.Moves s) {f : State → Handled} (hf : ∀ u, h.Moves u → h.Moves (f u).state)
    (kind tag actor : Nat) : h.Moves (s.takeStation kind tag actor f) :=
  e.takeRequest (fun _ => hf) _ _ _ _

theorem takeControl (e : h.Moves s) {f : State → Handled} (hf : ∀ u, h.Moves u → h.Moves (f u).state)
    (kind tag actor : Nat) : h.Moves (s.takeControl kind tag actor f) :=
  e.takeRequest (fun _ => hf) _ _ _ _

theorem takeQuery (e : h.Moves s) {f : State → Handled} (hf : ∀ u, h.Moves u → h.Moves (f u).state)
    (tag actor : Nat) : h.Moves (s.takeQuery tag actor f) :=
  e.takeRequest (fun _ => hf) _ _ _ _

theorem takeOwn (e : h.Moves s) {f : SlotId → State → Handled} (hf : ∀ w u, h.Moves u → h.Moves (f w u).state)
    (kind tag actor : Nat) : h.Moves (s.takeOwn kind tag actor f) := by
  refine e.takeRequest (fun a u e => ?_) _ _ _ _
  cases a with
  | slot w => exact hf w u e
  | station => exact e

theorem turnAway (e : h.Moves s) (kind tag : Nat) (x : Status) : h.Moves (s.turnAway kind tag x) :=
  .ite (fun _ => e) fun _ => e.same

/-! #### Commission, Decommission and the configuration -/

theorem quietFlush (e : h.Moves s) (ht : s.turn = none) : h.Moves s.quietFlush ∧ s.quietFlush.turn = none := by
  refine List.foldlRecOn (motive := fun u => h.Moves u ∧ u.turn = none) _ _ ⟨e, ht⟩ fun u ⟨e, ht⟩ w _ => ?_
  split
  · rename_i r hr
    exact ⟨.same (e.setTenancy w .opened nofun (.inl (by simp [hr]))), ht⟩
  · exact ⟨e, ht⟩

theorem emptyArbiter (e : h.Moves s) (ht : s.turn = none) : h.Moves s.emptyArbiter := by
  unfold State.emptyArbiter
  dsimp only
  generalize hv : ({ s with idu := _, seq := _ } : State) = v
  have e : h.Moves v :=
    e.move (.claims _ .none false (.inr ⟨.inl rfl, .inl rfl⟩)) (by rw [← hv]; simp [State.roles, State.holder, State.turn])
  have ht : v.turn = none := by rw [← hv]; exact ht
  obtain ⟨e, ht⟩ := e.quietFlush ht
  exact e.stopGap.setArbiter rfl (by rwa [State.turn_stopGap])

theorem dropCycle (e : h.Moves s) (hq : s.seq.state.calm = true) : h.Moves s.dropCycle :=
  .ite (fun _ => e.abandonCycle hq) fun _ => e

theorem decommission (e : h.Moves s) : h.Moves s.decommission.state := by
  unfold State.decommission
  split
  · exact e
  · have e : h.Moves s.outOfService := .ite (fun _ => e.same) fun _ => e.same
    have e := (e.cut .decommission).dropCycle (State.cut_calm .decommission _)
    have e := (e.turnEnd .decommission).emptyArbiter (State.turn_turnEnd _ _)
    dsimp only
    generalize State.emptyArbiter _ = u at e ⊢
    exact .settle e.same

theorem commission (e : h.Moves s) : h.Moves s.commission.state := by
  unfold State.commission
  split
  · exact e
  · split
    · exact e
    · split
      · exact e
      · exact .settle (.derive e.same _ _)

theorem setStation (e : h.Moves s) (a : StationArgs) : h.Moves (s.setStation a).state := by
  unfold State.setStation
  split
  · exact e
  · split
    · exact e
    · split
      · exact e
      · exact .ite (fun _ => .recompute e.same) fun _ => e.same

theorem recheckSlot (e : h.Moves s) (w : SlotId) : h.Moves (s.recheckSlot w) := by
  unfold State.recheckSlot
  split
  · exact .ite (fun _ => e) fun _ => e.dropRequest _ w
  · exact e

theorem recheckHolder (e : h.Moves s) (p : SlotId → Bool) : h.Moves (s.recheckHolder p) := by
  unfold State.recheckHolder
  split
  · exact .ite (fun _ => e.turnEnd _) fun _ => e
  · exact e

theorem recheck (e : h.Moves s) (p : SlotId → Bool) : h.Moves (s.recheck p) :=
  .recheckHolder (List.foldlRecOn _ _ e fun _ e w _ => e.recheckSlot w) p

theorem unmark (e : h.Moves s) (w : SlotId) : h.Moves (s.unmark w) := by
  unfold State.unmark
  split
  · rename_i r hr
    exact .ite (fun _ => e) fun _ => e.setTenancy w _ nofun (.inl (by simp [hr]))
  · exact e

theorem unmarkAll (e : h.Moves s) (p : SlotId → Bool) : h.Moves (s.unmarkAll p) :=
  List.foldlRecOn _ _ e fun _ e w _ => e.unmark w

theorem compareLimits (e : h.Moves s) (old new : ClassRec) : h.Moves (s.compareLimits old new) := by
  unfold State.compareLimits
  split
  · exact e
  · exact .ite (fun _ => e.turnEnd _) fun _ => .ite (fun _ => e.turnEnd _) fun _ => .ite (fun _ => e.endMemberTx _) fun _ => e

theorem classEffects (e : h.Moves s) (p : SlotId → Bool) (old new : ClassRec) : h.Moves (s.classEffects p old new) := by
  have e := (e.recheck p).unmarkAll p
  unfold State.classEffects
  dsimp only
  split
  · exact .ite (fun _ => .compareLimits (.ite (fun _ => e) fun _ => e.recomputeMember) _ _) fun _ => e
  · exact e

theorem setClass (e : h.Moves s) (a : ClassArgs) : h.Moves (s.setClass a).state := by
  unfold State.setClass
  split
  · exact .settle (.classEffects e.same _ _ _)
  · exact e

theorem bandEffects (e : h.Moves s) (b : BandId) (old new : BandRec) : h.Moves (s.bandEffects b old new) := by
  have e : h.Moves (if old.enabled = true ∧ new.enabled = false then s.recheck fun _ => true else s) :=
    .ite (fun _ => e.recheck _) fun _ => e
  exact .ite (fun _ => e.same) fun _ => e

/-- A configuration is stored unless a commission check fails. -/
theorem unlessInvalid {p : Handled} (e : h.Moves s) (f : Option (ConfigReason × Option BandId)) (hp : h.Moves p.state) :
    h.Moves (match f with
      | some x => configInvalid x s
      | none => p).state := by
  cases f with
  | some x => exact e
  | none => exact hp

theorem setBand (e : h.Moves s) (a : BandArgs) : h.Moves (s.setBand a).state := by
  unfold State.setBand
  split
  · exact e
  · split
    · exact e
    · exact e.unlessInvalid _ (.settle (.bandEffects e.same _ _ _))

theorem setCalibration (e : h.Moves s) (a : CalArgs) : h.Moves (s.setCalibration a).state := by
  unfold State.setCalibration
  split
  · split
    · exact e
    · split
      · exact e
      · split
        · exact e
        · exact e.unlessInvalid _ e.same
  · exact e

theorem setInput (e : h.Moves s) (a : InputArgs) : h.Moves (s.setInput a).state := by
  unfold State.setInput
  split
  · split
    · exact e
    · exact .settle (e.route _ _)
  · exact e

theorem setLimits (e : h.Moves s) (a : LimitsArgs) : h.Moves (s.setLimits a).state :=
  .ite (fun _ => .recompute e.same) fun _ => e.same

theorem clearCounters (e : h.Moves s) (l : List Nat) : h.Moves (s.clearCounters l).state := by
  unfold State.clearCounters
  split
  · exact e
  · exact e.same

/-! #### Faults, slots and control operations -/

theorem clearFault (e : h.Moves s) (k : Nat) : h.Moves (s.clearFault k).state := by
  unfold State.clearFault
  split
  · exact e
  · split
    · exact e
    · split
      · exact e
      · exact .settle (.derive e.same _ _)

theorem resume (e : h.Moves s) : h.Moves s.resume.state := by
  unfold State.resume
  split
  · exact e
  · split
    · exact e
    · exact .settle (.derive e.same _ _)

theorem openSlot (e : h.Moves s) (a : OpenArgs) : h.Moves (s.openSlot a).state := by
  unfold State.openSlot
  split
  · exact e
  · rename_i w ident _
    split
    · exact e
    · rename_i hv
      have e : h.Moves ((s.setIdentity w ident).setUsed w 0) := e.same
      refine e.setTenancy w .opened nofun (.inl fun c => hv ?_)
      change s.tenancy w = .holding at c
      simp [State.vacant, c]

theorem closing (e : h.Moves s) (w : SlotId) : h.Moves (s.closing w) := by
  have e' : h.Moves (if s.holdsTurn w then s.turnEnd .closed else s) := .ite (fun _ => e.turnEnd _) fun _ => e
  refine .same (e'.setTenancy w .vacant nofun (.inr ?_))
  split
  · simp [State.holder]
  · rename_i hw
    exact fun c => hw (by simpa [State.holdsTurn] using c)

theorem closeSlot (e : h.Moves s) (n : Nat) : h.Moves (s.closeSlot n).state := by
  unfold State.closeSlot
  split
  · exact e
  · split
    · exact e
    · exact (e.closing _).settle

theorem reclass (e : h.Moves s) (n c : Nat) : h.Moves (s.reclass n c).state := by
  unfold State.reclass
  split
  · split
    · exact e
    · exact .settle (.classEffects e.same _ _ _)
  · exact e

theorem setAllowance (e : h.Moves s) (n p a : Nat) : h.Moves (s.setAllowance n p a).state := by
  unfold State.setAllowance
  split
  · split
    · exact e
    · exact .settle (.ite (fun _ => .exhaustionEffects e.same _) fun _ => e.same)
  · exact e

theorem clearAirtime (e : h.Moves s) (n : Nat) : h.Moves (s.clearAirtime n).state := by
  unfold State.clearAirtime
  split
  · exact e.same
  · split
    · exact e.same
    · exact e

theorem leaveOpen (e : h.Moves s) (w : SlotId) : h.Moves (s.leaveOpen w) := by
  unfold State.leaveOpen
  split
  · exact e.startPresence w
  · exact e

theorem seizeNow (e : h.Moves s) (w : SlotId) (r : RequestRec) : h.Moves (s.seizeNow w r).1 := by
  have e := (e.leaveOpen w).turnEnd .seized
  unfold State.seizeNow
  dsimp only
  split
  · exact e.setTenancy w _ nofun (.inr (by simp [State.holder]))
  · exact e.stopGap.grantRequest w r (State.turn_turnEnd _ _)

theorem seize (e : h.Moves s) (n b m p : Nat) (a : Actor) : h.Moves (s.seize n b m p a).state := by
  unfold State.seize
  split
  · split
    · exact e
    · split
      · exact e
      · split
        · exact e
        · dsimp only
          split
          · exact e
          · exact (e.seizeNow _ _).settle
  · exact e

theorem endTurn (e : h.Moves s) (n : Nat) : h.Moves (s.endTurn n).state := by
  unfold State.endTurn
  split
  · exact e
  · split
    · exact (e.turnEnd _).settle
    · exact e

theorem holdSlot (e : h.Moves s) (n : Nat) : h.Moves (s.holdSlot n).state := by
  unfold State.holdSlot
  split
  · exact e
  · split
    · exact e
    · exact e.same

theorem arbitrateIfFree (e : h.Moves s) : h.Moves s.arbitrateIfFree :=
  .ite (fun ha => e.arbitrate (by simp [State.turn, ha])) fun _ => e

theorem unholdSlot (e : h.Moves s) (n : Nat) : h.Moves (s.unholdSlot n).state := by
  unfold State.unholdSlot
  split
  · exact e
  · split
    · exact e
    · exact .settle (.arbitrateIfFree e.same)

theorem ampOn (e : h.Moves s) : h.Moves s.ampOn.state := by
  unfold State.ampOn
  split
  · exact e.warmAmp _
  · exact e
  · exact e
  · exact e

theorem ampOff (e : h.Moves s) : h.Moves s.ampOff.state := by
  unfold State.ampOff
  split
  · exact e
  · exact e
  · split
    · exact e
    · exact e.ampTo _ _
  · split
    · exact e
    · exact e.ampTo _ _

theorem ampReset (e : h.Moves s) : h.Moves s.ampReset.state := by
  unfold State.ampReset
  split
  · exact e.same
  · exact e
  · exact e
  · exact e

/-! #### Member requests -/

theorem request (e : h.Moves s) (b m p k : Nat) (w : SlotId) : h.Moves (s.request b m p k w).state := by
  unfold State.request
  split
  · exact e
  · split
    · exact e
    · rename_i hr
      have hw : (s.leaveOpen w).tenancy w = s.tenancy w := by simp [State.tenancy]
      refine .settle (.arbitrateIfFree ((e.leaveOpen w).setTenancy w _ nofun (.inl fun c => ?_)))
      rw [hw] at c
      simp [State.requestRefusal, c] at hr

theorem withdraw (e : h.Moves s) (w : SlotId) : h.Moves (s.withdraw w).state := by
  unfold State.withdraw
  split
  · rename_i r hr
    exact .same (e.setTenancy w .opened nofun (.inl (by simp [hr])))
  · exact e

theorem release (e : h.Moves s) (w : SlotId) : h.Moves (s.release w).state := by
  unfold State.release
  split
  · exact (e.turnEnd _).settle
  · exact e

theorem pttOn (e : h.Moves s) (w : SlotId) : h.Moves (s.pttOn w).state := by
  unfold State.pttOn
  split
  · exact e
  · split
    · exact e
    · split
      · exact e
      · exact .settle (.memberStart e.same)

theorem pttOff (e : h.Moves s) (w : SlotId) : h.Moves (s.pttOff w).state := by
  unfold State.pttOff
  split
  · exact e
  · split
    · exact e
    · exact .settle (.ite (fun _ => e.same) fun _ => .demandInactive e.same _)

theorem setPower (e : h.Moves s) (p : Nat) (w : SlotId) : h.Moves (s.setPower p w).state := by
  unfold State.setPower
  split
  · exact e
  · exact .recomputeMember (e.modTurn _)

theorem changeEmission (e : h.Moves s) (old new : Emission) :
    h.Moves (s.changeEmission old new) ∧ (s.changeEmission old new).seq.state = s.seq.state := by
  have e := e.modTurn fun t => { t with emission := new }
  have hs : (s.modTurn fun t => { t with emission := new }).seq.state = s.seq.state :=
    congrArg Seq.state (State.modTurn_seq _ s)
  unfold State.changeEmission
  dsimp only
  generalize State.modTurn _ s = u at e hs ⊢
  split
  · exact ⟨e, hs⟩
  · split
    · exact ⟨e.flushTurnKeys, hs⟩
    · split
      · exact ⟨e.same, hs⟩
      · exact ⟨e, hs⟩

theorem changeBand (e : h.Moves s) (b : BandId) (hs : s.seq.state ≠ .exciting) : h.Moves (s.changeBand b) := by
  have e := (e.modTurn fun t => { t with band := b, sub := .tuning, idleStart := none }).flushTurnKeys
  have hm := congrArg Seq.state (State.modTurn_seq (fun t => { t with band := b, sub := .tuning, idleStart := none }) s)
  exact e.enterRetune b fun c => absurd (hm.symm.trans c) hs

theorem retune (e : h.Moves s) (b m : Nat) (w : SlotId) : h.Moves (s.retune b m w).state := by
  unfold State.retune
  split
  · rename_i b m _ _
    split
    · exact e
    · rename_i t _
      split
      · exact e
      · split
        · exact e
        · rename_i hq
          obtain ⟨e, hs⟩ := e.changeEmission t.emission m
          have hq : s.seq.state = .quiet := by
            by_contra hn
            exact hq (.inr hn)
          refine .settle (.ite (fun _ => e) fun _ => e.changeBand _ ?_)
          rw [hs, hq]
          decide
  · exact e

/-! #### Key events (R75) -/

theorem loseKey (e : h.Moves s) (r : LossReason) (d : Key) (k : KeyTime) (v : Option Nat) :
    h.Moves (s.loseKey r d k v) := .ite (fun _ => e.raise _) fun _ => e

theorem startFor (e : h.Moves s) (d : Key) : h.Moves (s.startFor d) := .ite (fun _ => e.memberStart.settle) fun _ => e

theorem queueKey (e : h.Moves s) (k : KeyEntry) : h.Moves (s.queueKey k) := .playAllDue (.startFor e.same _)

theorem playKey (e : h.Moves s) (k : KeyEntry) : h.Moves (s.playKey k) := .playEvent (.startFor e.same _) _

theorem timeKey (e : h.Moves s) (now : KeyTime) (k : KeyEntry) : h.Moves (s.timeKey now k).1 := by
  unfold State.timeKey
  dsimp only
  split
  · split
    · exact e.loseKey _ _ _ _
    · exact e.queueKey k
  · split
    · exact e.playKey k
    · exact e.loseKey _ _ _ _

theorem takeKey (e : h.Moves s) (now : KeyTime) (d : Key) (k : KeyTime) : h.Moves (s.takeKey now d k).1 := by
  unfold State.takeKey
  split
  · exact e
  · split
    · exact e.loseKey _ _ _ _
    · split
      · exact e
      · split
        · exact .timeKey e.same _ _
        · dsimp only
          split
          · exact e.loseKey _ _ _ _
          · exact e.timeKey _ _

theorem takeKeys (now : KeyTime) (l : List (Key × KeyTime)) : ∀ {s : State}, h.Moves s → h.Moves (s.takeKeys now l).1 := by
  induction l with
  | nil => exact id
  | cons p l ih => exact fun e => ih (e.takeKey now p.1 p.2)

theorem keyEvents (e : h.Moves s) (l : List (Nat × KeyTime)) (w : SlotId) : h.Moves (s.keyEvents l w).state := by
  unfold State.keyEvents
  split
  · exact e
  · split
    · exact e
    · split
      · exact e
      · split
        · exact e
        · split
          · exact e
          · exact .settle (.takeKeys _ _ e.playAllDue)

/-! #### The link -/

theorem abandonFrame (e : h.Moves s) (r : LinkReason) : h.Moves (s.abandonFrame r) := e.same

theorem completeFrame (e : h.Moves s) (f : RawFrame) : h.Moves (s.completeFrame f) :=
  .ite (fun _ => e.abandonFrame _) fun _ => .ite (fun _ => e.abandonFrame _) fun _ => e.same

theorem byteArrives (e : h.Moves s) (b : Byte) (f : Bool) : h.Moves (s.byteArrives b f) := by
  unfold State.byteArrives
  split
  · exact .ite (fun _ => e) fun _ => e.same
  · refine .ite (fun _ => .ite (fun _ => e.abandonFrame _) fun _ => e.same) fun _ =>
      .ite (fun _ => e.abandonFrame _) fun _ => .ite (fun _ => e.same) fun _ => ?_
    split
    · exact e.completeFrame _
    · exact e.same

end State.Moves

/-! ### Every step moves the roles, or is the full reset -/

open State.Moves in
/-- Every command but one that completes the full reset moves the roles. -/
theorem exec_moves {i : Instr} {s t : State} (hi : exec i s = .next t) :
    s.Moves t ∨ t.roles = State.reset.roles := by
  have e := State.Moves.refl s
  have stepEnds (x : SeqState) : s.Moves (s.onExpirySettled (fun s => s.stepIn x) State.stepEnds) :=
    e.onExpirySettled fun _ e => e.stepEnds
  cases i <;> obtain rfl := Host.Outcome.next.inj hi
  case rstDeasserted => exact .inr rfl
  case replySent =>
    split
    · exact .inl e
    · split
      · split
        · exact .inr rfl
        · exact .inl e.same
      · exact .inl e
  all_goals refine .inl ?_
  case restart => exact e.takeStation (fun _ e => e.same) _ _ _
  case decommission => exact e.takeStation (fun _ => decommission) _ _ _
  case commission => exact e.takeStation (fun _ => commission) _ _ _
  case setStation a => exact e.takeStation (fun _ e => e.setStation a) _ _ _
  case setClass a => exact e.takeStation (fun _ e => e.setClass a) _ _ _
  case setBand a => exact e.takeStation (fun _ e => e.setBand a) _ _ _
  case setCalibration a => exact e.takeStation (fun _ e => e.setCalibration a) _ _ _
  case stageProfile => exact e.takeStation (fun _ e => e.same) _ _ _
  case setInput a => exact e.takeStation (fun _ e => e.setInput a) _ _ _
  case setLimits a => exact e.takeStation (fun _ e => e.setLimits a) _ _ _
  case setEvents => exact e.takeStation (fun _ e => e.same) _ _ _
  case clearEvents => exact e.takeStation (fun _ e => e.same) _ _ _
  case clearCounters l => exact e.takeStation (fun _ e => e.clearCounters l) _ _ _
  case clearFault k => exact e.takeControl (fun _ e => e.clearFault k) _ _ _
  case resume => exact e.takeControl (fun _ => resume) _ _ _
  case openSlot a => exact e.takeStation (fun _ e => e.openSlot a) _ _ _
  case closeSlot n => exact e.takeStation (fun _ e => e.closeSlot n) _ _ _
  case reclass n c => exact e.takeStation (fun _ e => e.reclass n c) _ _ _
  case setAllowance n p a => exact e.takeStation (fun _ e => e.setAllowance n p a) _ _ _
  case clearAirtime n => exact e.takeStation (fun _ e => e.clearAirtime n) _ _ _
  case request b m p k => exact e.takeOwn (fun w _ e => e.request b m p k w) _ _ _
  case withdraw => exact e.takeOwn (fun w _ e => e.withdraw w) _ _ _
  case release => exact e.takeOwn (fun w _ e => e.release w) _ _ _
  case presence => exact e.takeOwn (fun _ _ e => e) _ _ _
  case pttOn => exact e.takeOwn (fun w _ e => e.pttOn w) _ _ _
  case pttOff => exact e.takeOwn (fun w _ e => e.pttOff w) _ _ _
  case keyEvents l => exact e.takeOwn (fun w _ e => e.keyEvents l w) _ _ _
  case setPower p => exact e.takeOwn (fun w _ e => e.setPower p w) _ _ _
  case retune b m => exact e.takeOwn (fun w _ e => e.retune b m w) _ _ _
  case seize n b m p => exact e.takeRequest (fun a _ e => e.seize n b m p a) _ _ _ _
  case endTurn n => exact e.takeControl (fun _ e => e.endTurn n) _ _ _
  case holdSlot n => exact e.takeControl (fun _ e => e.holdSlot n) _ _ _
  case unholdSlot n => exact e.takeControl (fun _ e => e.unholdSlot n) _ _ _
  case ampOn => exact e.takeControl (fun _ => ampOn) _ _ _
  case ampOff => exact e.takeControl (fun _ => ampOff) _ _ _
  case ampReset => exact e.takeControl (fun _ => ampReset) _ _ _
  case unknownKindRequest => exact .ite (fun _ => e) fun _ => e.turnAway _ _ _
  case frameReceived f => exact .ite (fun _ => e) fun _ => .ite (fun _ => e.abandonFrame _) fun _ => e.completeFrame f
  case interByteGap =>
    refine .ite (fun _ => e) fun _ => ?_
    split
    · exact (e.bringTo _).abandonFrame _
    · exact e
  case reportSent => exact .ite (fun _ => e) fun _ => .ite (fun _ => e.same) fun _ => e
  case rstAsserted => exact e.same
  case stationSecondTick => exact .ite (fun _ => e) fun _ => .same (e.bringTo _).onTime
  case presenceExpiry w => exact e.onExpirySettled fun _ e => e.presenceLost w
  case gapExpiry => exact e.onExpirySettled fun _ e => e.gapExpires
  case turnLimitExpiry => exact e.onExpirySettled fun _ e => e.turnEnd _
  case idleHangExpiry => exact e.onExpirySettled fun _ e => e.turnEnd _
  case relayOnExpiry => exact stepEnds _
  case ampOnExpiry => exact stepEnds _
  case tailExpiry => exact stepEnds _
  case ampOffExpiry => exact stepEnds _
  case relayOffExpiry => exact stepEnds _
  case bandSettleExpiry => exact stepEnds _
  case txLimitExpiry => exact e.onExpirySettled fun _ e => e.endMemberTx _
  case playout => exact e.atInstant fun _ e _ => e.playOldest.settle
  case hangExpiry => exact e.onExpirySettled fun _ e => e.endMemberTx _
  case burstGapExpiry => exact e.onExpiry fun _ e => e.same
  case stuckKeyExpiry => exact e.onExpirySettled fun _ e => e.stuckKey
  case warmUpExpiry => exact e.onExpirySettled fun _ e => e.warmEnds
  case ampIdleExpiry => exact e.onExpiry fun _ e => e.ampTo _ _
  case scanCompletion => exact .ite (fun _ => e) fun _ => .settle (e.completeScan _ _ _ _ _)
  case intervalExpiry => exact e.onExpirySettled fun _ e => e.fallsDue
  case deadlineExpiry => exact e.atInstant fun _ e _ => e.deadline.settle
  case quietExpiry => exact e.onExpirySettled fun _ e => e.quietEnds
  case idElementTimer => exact e.elementEnds_settled
  case airTimeTenth => exact e.atInstant fun _ e _ => e
  case residencyTenth r => exact .ite (fun _ => e) fun _ => (e.toTenth r).onTime.addTenth r
  case inputLevelChange c => exact .ite (fun _ => e.rawChanges c) fun _ => (e.onTime.levelChanges c).settle
  case debounceExpiry i => exact e.onExpirySettled fun _ e => e.debounced i
  case killDebounceExpiry => exact e.onExpirySettled fun _ e => e.killDebounced
  case byteReceived b f => exact .ite (fun _ => e) fun _ => e.byteArrives b f
  case queryStation => exact e.takeQuery (fun _ e => e) _ _
  case querySlot =>
    refine e.takeQuery (fun _ e => ?_) _ _
    split
    · exact e
    · exact e
  case queryClass =>
    refine e.takeQuery (fun _ e => ?_) _ _
    split
    · exact e
    · exact e
  case queryBand =>
    refine e.takeQuery (fun _ e => ?_) _ _
    split
    · exact e
    · exact e
  case queryCal =>
    refine e.takeQuery (fun _ e => ?_) _ _
    split
    · exact e
    · exact e
  case queryMeasure => exact e.takeQuery (fun _ e => e) _ _
  case queryFaults => exact e.takeQuery (fun _ e => e) _ _
  case queryCounters => exact e.takeQuery (fun _ e => e) _ _
  case queryRecords => exact e.takeQuery (fun _ e => e) _ _
  case queryQueue =>
    refine e.takeQuery (fun _ e => ?_) _ _
    split
    · exact e
    · exact e
  case queryEvents => exact e.takeQuery (fun _ e => e) _ _
  case queryProfile => exact e.takeQuery (fun _ e => e) _ _
  case queryInputs => exact e.takeQuery (fun _ e => e) _ _

theorem State.takeFrame_moves {s t : State} {f : RawFrame} (hf : s.takeFrame f = .next t) :
    s.Moves t ∨ t.roles = State.reset.roles := by
  have e : s.Moves { s with lnk := { s.lnk with buffer := s.lnk.buffer.tail } } := (State.Moves.refl s).same
  unfold State.takeFrame at hf
  dsimp only at hf
  split at hf
  · exact (exec_moves hf).imp_left e.trans
  · obtain rfl := Host.Outcome.next.inj hf
    exact .inl (e.turnAway _ _ _)
  · obtain rfl := Host.Outcome.next.inj hf
    exact .inl (e.takeQuery (fun _ e => e) _ _)

theorem State.idle_moves {s t : State} (hi : s.idle = .next t) : s.Moves t ∨ t.roles = State.reset.roles := by
  have e := State.Moves.refl s
  unfold State.idle at hi
  split at hi
  · obtain rfl := Host.Outcome.next.inj hi
    exact .inl e
  · split at hi
    · exact exec_moves hi
    · split at hi
      · exact State.takeFrame_moves hi
      · obtain rfl := Host.Outcome.next.inj hi
        exact .inl e.same

theorem step_moves {s t : State} (hs : step s = .next t) : s.Moves t ∨ t.roles = State.reset.roles := by
  unfold step at hs
  split at hs
  · rename_i rest _
    exact exec_moves (s := { s with pending := rest }) hs
  · exact State.idle_moves hs

/-- What every move keeps and the reset state has, every step keeps. -/
theorem step_keeps {p : Roles → Prop} {s t : State} (hp : ∀ q r, Roles.Move q r → p q → p r)
    (hreset : p State.reset.roles) (hs : p s.roles) (hstep : step s = .next t) : p t.roles := by
  rcases step_moves hstep with moves | reset
  · unfold State.Moves at moves
    generalize t.roles = r at moves ⊢
    induction moves with
    | refl => exact hs
    | tail _ m ih => exact hp _ _ m ih
  · exact reset ▸ hreset

/-! ### The invariants as properties of the roles -/

/-- The ranks are a permutation (R23). -/
def Roles.ranked (r : Roles) : Prop :=
  (∀ w, r.ranks.read w < 32) ∧ ∀ v w, r.ranks.read v = r.ranks.read w → v = w

/-- HOLDING is the holder's (R26). -/
def Roles.oneHolds (r : Roles) : Prop := ∀ w, r.slots.read w = .holding ↔ r.holder = some w

/-- Nothing of a turn stands without one. -/
def Roles.marked (r : Roles) : Prop :=
  r.holder = none → r.claim = .none ∧ r.deadline = false ∧ ∀ w, r.tx ≠ some (.member w, true)

/-- The parts of an identification stand together. -/
structure Roles.identified (r : Roles) : Prop where
  idle : r.cycle = .idle ↔ r.context = false
  waits : r.startWaits = true → r.cycle = .starting
  armed : ∀ b, r.tx = some (.ident, b) → r.seq.calm = false →
    (r.cycle = .starting ∨ r.cycle = .sending) ∧ r.startWaits = false
  keyed : r.element = true → r.seq = .exciting ∧ ∃ b, r.tx = some (.ident, b)

theorem State.ranked_iff (s : State) : s.roles.ranked ↔ s.ranksPermute := .rfl

theorem State.oneHolds_iff (s : State) : s.roles.oneHolds ↔ s.oneHolder := .rfl

theorem State.memberTx_iff (s : State) : s.memberTx = true ↔ ∃ w, s.roles.tx = some (.member w, true) := by
  cases hx : s.seq.tx with
  | none => simp [State.memberTx, State.roles, hx]
  | some x => cases hk : x.kind <;> simp [State.memberTx, State.roles, hx, hk]

theorem State.identTx_iff (s : State) : s.identTx = true ↔ ∃ b, s.roles.tx = some (.ident, b) := by
  cases hx : s.seq.tx with
  | none => simp [State.identTx, State.roles, hx]
  | some x => simp [State.identTx, State.roles, hx]

theorem State.calm_iff (s : State) : s.seq.state.calm = false ↔ s.arming = true ∨ s.seq.state = .exciting := by
  cases hq : s.seq.state <;> simp [State.arming, SeqState.calm, hq]

theorem State.marked_iff (s : State) : s.roles.marked ↔ s.marksStand := by
  have hm : s.memberTx = false ↔ ∀ w, s.roles.tx ≠ some (.member w, true) := by
    rw [← Bool.not_eq_true, s.memberTx_iff, not_exists]
  have hh : s.roles.holder = none ↔ s.turn = none := by simp [State.roles, State.holder]
  unfold Roles.marked State.marksStand
  rw [hm, hh]
  rfl

theorem State.identified_iff (s : State) : s.roles.identified ↔ s.idRests := by
  have hc : s.roles.context = false ↔ s.idu.context = none := by simp [State.roles]
  have hr : s.cycleRuns = true ↔ s.roles.cycle = .starting ∨ s.roles.cycle = .sending := by
    simp [State.cycleRuns, State.roles]
  have he : s.roles.element = true ↔ s.idu.element ≠ none := by simp [State.roles, Option.isSome_iff_ne_none]
  constructor
  · rintro ⟨idle, waits, armed, keyed⟩
    refine ⟨idle.trans hc, waits, fun hi ha => ?_, fun e => ?_⟩
    · obtain ⟨b, hb⟩ := s.identTx_iff.mp hi
      obtain ⟨runs, taken⟩ := armed b hb (s.calm_iff.mpr ha)
      exact ⟨hr.mpr runs, taken⟩
    · obtain ⟨hs, hi⟩ := keyed (he.mpr e)
      exact ⟨hs, s.identTx_iff.mpr hi⟩
  · rintro ⟨idle, waits, armed, keyed⟩
    refine ⟨idle.trans hc.symm, waits, fun b hb ha => ?_, fun e => ?_⟩
    · obtain ⟨runs, taken⟩ := armed (s.identTx_iff.mpr ⟨b, hb⟩) (s.calm_iff.mp ha)
      exact ⟨hr.mp runs, taken⟩
    · obtain ⟨hs, hi⟩ := keyed (he.mp e)
      exact ⟨hs, s.identTx_iff.mp hi⟩

/-- The slots better placed than the one granted move back by one, and it takes the first place. -/
theorem rotate_permutes {ranks : Table 32 Nat} (g : SlotId)
    (hr : (∀ w, ranks.read w < 32) ∧ ∀ v w, ranks.read v = ranks.read w → v = w) :
    (∀ w, (rotate ranks g).read w < 32) ∧ ∀ v w, (rotate ranks g).read v = (rotate ranks g).read w → v = w := by
  obtain ⟨below, inj⟩ := hr
  have apart (v : SlotId) (hv : v ≠ g) : ranks.read v ≠ ranks.read g := fun c => hv (inj v g c)
  refine ⟨fun w => ?_, fun v w h => ?_⟩
  · have := below w
    have := below g
    rw [rotate_read]
    split_ifs <;> omega
  · rw [rotate_read, rotate_read] at h
    by_cases hv : v = g <;> by_cases hw : w = g
    · rw [hv, hw]
    · have := apart w hw
      simp only [hv, hw, if_true, if_false] at h
      split_ifs at h
      omega
    · have := apart v hv
      simp only [hv, hw, if_true, if_false] at h
      split_ifs at h
      omega
    · have := apart v hv
      have := apart w hw
      simp only [hv, hw, if_false] at h
      refine inj v w ?_
      split_ifs at h <;> omega

namespace Roles.Move

variable {q r : Roles}

theorem ranked (m : q.Move r) (hq : q.ranked) : r.ranked := by
  cases m with
  | grant w _ => exact rotate_permutes w hq
  | _ => exact hq

theorem oneHolds (m : q.Move r) (hq : q.oneHolds) : r.oneHolds := by
  cases m with
  | slot w x hx hw =>
    intro v
    have hv := hq v
    by_cases e : v = w
    · subst e
      simp only [Table.read_write_same, hx, false_iff]
      exact fun c => hw.elim (fun n => n (hv.mpr c)) fun n => n c
    · change (q.slots.write w x).read v = _ ↔ _
      rwa [Table.read_write_other _ _ e]
  | grant w h =>
    intro v
    have hv := hq v
    by_cases e : v = w
    · simp [e]
    · change (q.slots.write w _).read v = _ ↔ some w = some v
      rw [Table.read_write_other _ _ e, hv, h]
      simpa using Ne.symm e
  | turnOver w x h hx =>
    intro v
    have hv := hq v
    by_cases e : v = w
    · simp [e, hx]
    · change (q.slots.write w x).read v = _ ↔ none = some v
      rw [Table.read_write_other _ _ e, hv, h]
      simpa using Ne.symm e
  | _ => exact hq

theorem marked (m : q.Move r) (hq : q.marked) : r.marked := by
  intro hn
  cases m with
  | grant w h => cases hn
  | takesStart w h hs => exact absurd (h.symm.trans hn) nofun
  | turnOver w x h hx =>
    refine ⟨rfl, rfl, fun v => ?_⟩
    cases q.tx <;> simp
  | claims c d h =>
    obtain ⟨hc, hd, ht⟩ := hq hn
    rcases h with h | ⟨hc', hd'⟩
    · exact absurd h (by simp [hc]; exact hn)
    · refine ⟨?_, ?_, ht⟩
      · rcases hc' with rfl | rfl <;> simp [hc]
      · rcases hd' with rfl | rfl <;> simp [hd]
  | takesIdStart h hs =>
    obtain ⟨hc, hd, -⟩ := hq hn
    exact ⟨hc, hd, nofun⟩
  | txGone h =>
    obtain ⟨hc, hd, -⟩ := hq hn
    exact ⟨hc, hd, nofun⟩
  | _ => exact hq hn

theorem identified (m : q.Move r) (hq : q.identified) : r.identified := by
  obtain ⟨idle, waits, armed, keyed⟩ := hq
  cases m with
  | turnOver w x h hx =>
    have back (b : Bool) (hb : (q.tx.map fun y => (y.1, false)) = some (.ident, b)) : ∃ c, q.tx = some (.ident, c) := by
      cases ht : q.tx with
      | none => simp [ht] at hb
      | some y =>
        obtain ⟨hy, -⟩ := by simpa [ht] using hb
        exact ⟨y.2, by rw [← hy]⟩
    refine ⟨idle, waits, fun b hb ha => ?_, fun he => ?_⟩
    · obtain ⟨c, hc⟩ := back b hb
      exact armed c hc ha
    · obtain ⟨hs, c, hc⟩ := keyed he
      exact ⟨hs, false, by simp [hc]⟩
  | begins h =>
    refine ⟨by simp, fun _ => rfl, fun b hb ha => ?_, keyed⟩
    obtain ⟨runs, -⟩ := armed b hb ha
    simp [h] at runs
  | takesIdStart h hs =>
    refine ⟨idle, nofun, fun _ _ _ => ⟨.inl (waits h), rfl⟩, fun he => ?_⟩
    simp [hs] at keyed
    simp [keyed] at he
  | takesStart w h hs =>
    refine ⟨idle, waits, nofun, fun he => ?_⟩
    simp [hs] at keyed
    simp [keyed] at he
  | relayOn h =>
    refine ⟨idle, waits, fun b hb _ => armed b hb (by rw [h]; rfl), fun he => ?_⟩
    simp [h] at keyed
    simp [keyed] at he
  | onAir w b h hs =>
    refine ⟨idle, waits, fun c hc => by simp [h] at hc, fun he => ?_⟩
    obtain ⟨-, c, hc⟩ := keyed he
    simp [h] at hc
  | identOnAir b h hs =>
    obtain ⟨runs, taken⟩ := armed b h (by rw [hs]; rfl)
    have hc : q.context = true := by
      rw [← Bool.not_eq_false, ← idle]
      rintro c
      simp [c] at runs
    exact ⟨by simp [hc], by simp [taken], fun _ _ _ => ⟨by simp [hc], taken⟩, fun _ => ⟨rfl, b, h⟩⟩
  | leaves s h hs => exact ⟨idle, waits, fun _ _ ha => absurd (hs.symm.trans ha) nofun, nofun⟩
  | goesOn s h hs =>
    refine ⟨idle, waits, fun _ _ ha => absurd (hs.symm.trans ha) nofun, fun he => ?_⟩
    obtain ⟨hx, c, hc⟩ := keyed he
    simp [h hx] at hc
  | txGone h =>
    refine ⟨idle, waits, nofun, fun he => ?_⟩
    obtain ⟨hx, -⟩ := keyed he
    simp [hx, SeqState.calm] at h
  | abandons h => exact ⟨by simp, nofun, fun _ _ ha => absurd (h.symm.trans ha) nofun, nofun⟩
  | keyOff => exact ⟨idle, waits, armed, nofun⟩
  | completes h hc =>
    obtain ⟨hx, b, hb⟩ := keyed h
    obtain ⟨-, taken⟩ := armed b hb (by rw [hx]; rfl)
    exact ⟨by simp [hc], by simp [taken], fun _ _ ha => by simp [hx, SeqState.calm] at ha, nofun⟩
  | closes h hs =>
    exact ⟨by simp, fun hw => by simpa [h] using waits hw, fun _ _ ha => absurd (hs.symm.trans ha) nofun, keyed⟩
  | _ => exact ⟨idle, waits, armed, keyed⟩

end Roles.Move

/-! ### The reset state -/

@[simp] theorem State.reset_tenancy (w : SlotId) : State.reset.tenancy w = .vacant := Table.read_build _ w

@[simp] theorem State.reset_rank (w : SlotId) : State.reset.arb.ranks.read w = 31 - w.val := Table.read_build _ w

theorem State.reset_linesFollow : State.reset.linesFollow :=
  ⟨rfl, rfl, rfl, rfl, rfl, fun _ => rfl, nofun, nofun, rfl, fun h => absurd rfl h⟩

theorem State.reset_ranksPermute : State.reset.ranksPermute := by
  refine ⟨fun w => ?_, fun v w h => ?_⟩
  · rw [State.reset_rank]
    omega
  · rw [State.reset_rank, State.reset_rank] at h
    omega

theorem State.reset_oneHolder : State.reset.oneHolder := fun w => by
  rw [State.reset_tenancy]
  exact ⟨nofun, nofun⟩

theorem State.reset_marksStand : State.reset.marksStand := fun _ => ⟨rfl, rfl, rfl⟩

theorem State.reset_idRests : State.reset.idRests :=
  ⟨⟨fun _ => rfl, fun _ => rfl⟩, nofun, nofun, fun h => absurd rfl h⟩

theorem State.reset_withinCapacity : State.reset.withinCapacity :=
  ⟨Nat.zero_le _, Nat.zero_le _, Nat.zero_le _, Nat.zero_le _, List.nodup_nil, Nat.zero_le _⟩

/-- Settles O20. -/
theorem resetMeetsTheInvariants : Obligations.ResetMeetsTheInvariants :=
  ⟨State.reset_linesFollow, nofun, rfl, State.reset_ranksPermute, State.reset_oneHolder, State.reset_marksStand,
    State.reset_idRests, State.reset_withinCapacity⟩

/-- Settles O17: of all moves only a grant touches the ranks. -/
theorem ranksStayAPermutation : Obligations.RanksStayAPermutation := fun _ _ =>
  step_keeps (fun _ _ m => m.ranked) State.reset_ranksPermute

/-- Settles O18: each of the three is kept by every move. -/
theorem holdingMeansHolder : Obligations.HoldingMeansHolder := by
  refine ⟨fun t s hs hstep => ?_, fun t s hs hstep => ?_, fun t s hs hstep => ?_⟩
  · exact t.oneHolds_iff.mp (step_keeps (fun _ _ m => m.oneHolds) State.reset_oneHolder (s.oneHolds_iff.mpr hs) hstep)
  · exact t.marked_iff.mp (step_keeps (fun _ _ m => m.marked)
      (State.reset.marked_iff.mpr State.reset_marksStand) (s.marked_iff.mpr hs) hstep)
  · exact t.identified_iff.mp (step_keeps (fun _ _ m => m.identified)
      (State.reset.identified_iff.mpr State.reset_idRests) (s.identified_iff.mpr hs) hstep)

end Sys2Proof.Machine
end

section
/-! Requests: the checks that come before any block (R183), and the member requests that arbitrate (R18 to R22). -/

namespace Sys2Proof.Machine

set_option Elab.async false

/-! ### Taking a member request -/

/-- A slot that is not VACANT is heard on its own behalf. -/
theorem State.takeOwn_taken {s : State} {kind tag : Nat} {w : SlotId} {f : SlotId → State → Handled}
    (hc : s.closed = false) (hn : s.tenthsDue = 0) (hv : s.tenancy w ≠ .vacant) :
    s.takeOwn kind tag w.val f = (f w (s.heard (.slot w))).reply kind tag :=
  State.takeRequest_taken _ _ _ _ _ hc hn (actorOf_slot w) (by simp [State.permitsActor, State.vacant, hv])

/-- An answer with a state and no fields. -/
theorem Handled.reply_refuse (kind tag : Nat) (x : Status) (s : State) :
    (refuse x s).reply kind tag = s.answer kind tag x .empty := rfl

theorem Handled.reply_done (kind tag : Nat) (s : State) : (done s).reply kind tag = s.answer kind tag .ok .empty := rfl

/-! ### Reading payloads (R183) -/

theorem fields_bind {α β : Type} (f : Fields α) (g : α → Fields β) (l : List Byte) :
    (f >>= g) l = (f l).bind fun p => g p.1 p.2 := by
  change (StateT.bind f g) l = _
  unfold StateT.bind
  cases f l <;> rfl

/-- A reader takes exactly `n` bytes, and fails on fewer. -/
def Reads {α : Type} (f : Fields α) (n : Nat) : Prop :=
  ∀ l : List Byte, if n ≤ l.length then ∃ a, f l = some (a, l.drop n) else f l = none

theorem reads_pure {α : Type} (a : α) : Reads (return a) 0 := fun l => by
  rw [if_pos (Nat.zero_le _)]
  exact ⟨a, rfl⟩

theorem reads_field8 : Reads field8 1 := fun l => by
  cases l with
  | nil => rfl
  | cons b rest => exact ⟨b.toNat, rfl⟩

theorem Reads.bind {α β : Type} {f : Fields α} {g : α → Fields β} {m n : Nat} (hf : Reads f m)
    (hg : ∀ a, Reads (g a) n) : Reads (f >>= g) (m + n) := fun l => by
  have hl := hf l
  rw [fields_bind]
  split at hl
  · obtain ⟨a, ha⟩ := hl
    have hd := hg a (l.drop m)
    rw [ha, Option.bind_some]
    rw [List.length_drop, List.drop_drop] at hd
    split at hd
    · rwa [if_pos (by omega)]
    · rwa [if_neg (by omega)]
  · rw [hl, if_neg (by omega)]
    rfl

theorem reads_field16 : Reads field16 2 := reads_field8.bind fun _ => reads_field8.bind fun _ => reads_pure _

theorem reads_limitFields : Reads limitFields 20 :=
  reads_field16.bind fun _ => reads_field16.bind fun _ => reads_field16.bind fun _ => reads_field8.bind fun _ =>
  reads_field16.bind fun _ => reads_field8.bind fun _ => reads_field16.bind fun _ => reads_field16.bind fun _ =>
  reads_field16.bind fun _ => reads_field16.bind fun _ => reads_field16.bind fun _ => reads_pure _

/-- A payload of another length than its reader's is BAD_LENGTH. -/
theorem Reads.readAll_of_ne {f : Fields Instr} {n : Nat} (hf : Reads f n) {l : List Byte} (hl : l.length ≠ n) :
    readAll f l = .badLength := by
  have h := hf l
  unfold readAll
  split at h
  · obtain ⟨a, ha⟩ := h
    have : l.drop n ≠ [] := by
      rw [ne_eq, List.drop_eq_nil_iff]
      omega
    rw [ha]
    cases hd : l.drop n with
    | nil => exact absurd hd this
    | cons b rest => rfl
  · rw [h]

/-- A payload of its reader's length is read to its end. -/
theorem Reads.of_length {α : Type} {f : Fields α} {n : Nat} (hf : Reads f n) {l : List Byte} (hl : l.length = n) :
    ∃ a, f l = some (a, []) := by
  have h := hf l
  rwa [if_pos hl.ge, List.drop_eq_nil_of_le hl.le] at h

/-- A kind without fields is spelled by an empty payload alone. -/
theorem readAll_pure (i : Instr) (l : List Byte) : readAll (return i) l = if l = [] then .command i else .badLength := by
  cases l <;> rfl

theorem parseFrame_of_fields {f : RawFrame} {g : Fields Instr} (hq : f.kind ≠ 0x0E)
    (hk : kindFields f.tag.toNat f.actor.toNat f.kind.toNat = some g) : parseFrame f = readAll g f.payload := by
  simp only [parseFrame, hq, if_false, hk]

/-! ### The checks before any block (R183) -/

/-- The kinds of the catalogue without fields (R184). -/
theorem parseFrame_fieldless {f : RawFrame}
    (hk : f.kind ∈ ([0x01, 0x02, 0x03, 0x10, 0x21, 0x22, 0x23, 0x24, 0x25, 0x34, 0x35, 0x36] : List Byte)) :
    ∃ i, parseFrame f = if f.payload = [] then .command i else .badLength := by
  simp only [List.mem_cons, List.not_mem_nil, or_false] at hk
  rcases hk with h | h | h | h | h | h | h | h | h | h | h | h <;>
    exact ⟨_, (parseFrame_of_fields (by rw [h]; decide) (by rw [h]; rfl)).trans (readAll_pure _ _)⟩

theorem actorOf_eq_none (n : Nat) : actorOf n = none ↔ 31 < n ∧ n ≠ 255 := by
  unfold actorOf
  by_cases hn : n < 32
  · obtain ⟨w, rfl⟩ : ∃ w : SlotId, w.val = n := ⟨⟨n, hn⟩, rfl⟩
    rw [indexOf_val]
    simp
    omega
  · rw [indexOf_of_le (by omega)]
    simp
    omega

/-- A VACANT slot may send nothing. -/
theorem State.permitsActor_vacant {s : State} {w : SlotId} (hv : s.tenancy w = .vacant) (who : Allowed) :
    s.permitsActor who (.slot w) = false := by simp [State.permitsActor, State.vacant, hv]

/-- There is no topic above 12 (R187). -/
theorem topicFields_of_lt {t a n : Nat} (h : 12 < n) : topicFields t a n = none := by
  obtain ⟨k, rfl⟩ : ∃ k, n = k + 13 := ⟨n - 13, by omega⟩
  rfl

/-- Settles O8. -/
theorem requestsAreCheckedFirst : Obligations.RequestsAreCheckedFirst := by
  refine ⟨fun i q s hq hc => ?_, fun i q s hq hc hn ha => ?_,
    fun n s => ⟨actorOf_eq_none n, rfl, fun w hv who => s.permitsActor_vacant hv who⟩,
    fun kind tag actor s => ?_, fun f s => ?_, fun f hk hp => ?_, fun f hk hp => ?_, fun f hk hp => ?_, fun f hk => ?_⟩
  · obtain ⟨g, hg⟩ := exec_of_asked hq
    rw [hg, State.takeRequest_closed _ _ _ _ _ hc]
  · obtain ⟨g, hg⟩ := exec_of_asked hq
    rw [hg, State.takeRequest_badActor _ _ _ _ _ hc hn ha]
  · intro h hk hc
    refine ⟨h.answer kind tag .unknownKind .empty, ?_, rfl, rfl⟩
    simp [exec, execUnknownKindRequest, hk, State.turnAway, hc, h]
  · exact State.turnAwayFrame_badLength f
  · obtain ⟨i, hi⟩ := parseFrame_fieldless hk
    rw [hi, if_neg hp]
  · rw [parseFrame_of_fields (by rw [hk]; decide) (by rw [hk]; rfl)]
    exact (reads_limitFields.bind fun _ => reads_pure _).readAll_of_ne hp
  · obtain ⟨p, hp⟩ := reads_limitFields.of_length hp
    refine ⟨p, ?_⟩
    rw [parseFrame_of_fields (by rw [hk]; decide) (by rw [hk]; rfl), readAll, fields_bind, hp]
    rfl
  · have hq : parseFrame f = parseQuery f.tag.toNat f.actor.toNat f.payload := by simp [parseFrame, hk]
    refine ⟨fun hp => by rw [hq, hp]; rfl, fun p l hp ht => ?_⟩
    rw [hq, hp, parseQuery, topicFields_of_lt ht]

/-! ### Withdraw (R20) -/

/-- Settles O42. -/
theorem withdrawCancels : Obligations.WithdrawCancels := by
  refine ⟨fun tag w x s => ?_, fun tag w s => ?_, fun f hk => ?_⟩
  · intro h hc hn hw
    have e : exec (.withdraw tag w.val) s = .next ((State.withdraw w h).reply 0x21 tag) :=
      congrArg Host.Outcome.next (State.takeOwn_taken hc hn (by simp [hw]))
    have hh : h.tenancy w = .waiting x := by simpa [h] using hw
    rw [e, State.withdraw, hh]
    rfl
  · intro h hc hn hw
    have e : exec (.withdraw tag w.val) s = .next ((State.withdraw w h).reply 0x21 tag) :=
      congrArg Host.Outcome.next (State.takeOwn_taken hc hn (by rcases hw with e | e <;> simp [e]))
    have hh : h.tenancy w = s.tenancy w := by simp [h]
    rw [e, State.withdraw, hh]
    rcases hw with e | e <;> rw [e] <;> rfl
  · rw [parseFrame_of_fields (by rw [hk]; decide) (by rw [hk]; rfl)]
    exact readAll_pure _ _

end Sys2Proof.Machine
end

section
/-! Query QUEUE in the order of grants (R24, R25). -/

namespace Sys2Proof.Machine

set_option Elab.async false

namespace State

variable {s : State} {v w x : SlotId}

/-- The order of grants, condition by condition. -/
theorem beats_iff : s.beats v w = true ↔ (s.marked v = true ∧ s.marked w = false) ∨ (s.marked v = s.marked w ∧
    ((s.classOf w).priority < (s.classOf v).priority ∨ ((s.classOf v).priority = (s.classOf w).priority ∧
      s.arb.ranks.read w < s.arb.ranks.read v))) := by
  unfold State.beats
  generalize s.marked v = a
  generalize s.marked w = b
  split_ifs with hm hp
  · cases a <;> cases b <;> simp_all
  · simp only [ne_eq, not_not] at hm
    simp [hm, hp]
  · simp only [ne_eq, not_not] at hm hp
    simp [hm, hp]

theorem beats_trans (a : s.beats v w = true) (b : s.beats w x = true) : s.beats v x = true := by
  rw [beats_iff] at *
  cases hv : s.marked v <;> cases hw : s.marked w <;> cases hx : s.marked x <;> simp_all <;> omega

theorem beats_asymm (a : s.beats v w = true) : s.beats w v = false := by
  rw [← Bool.not_eq_true]
  intro b
  rw [beats_iff] at *
  cases hv : s.marked v <;> cases hw : s.marked w <;> simp_all <;> omega

/-- Of two slots one beats the other, since no two ranks are equal. -/
theorem beats_of_not (hr : s.ranksPermute) (hne : v ≠ w) (a : s.beats v w = false) : s.beats w v = true := by
  have hrank : s.arb.ranks.read v ≠ s.arb.ranks.read w := fun c => hne (hr.2 v w c)
  rw [← Bool.not_eq_true, beats_iff] at a
  rw [beats_iff]
  cases hv : s.marked v <;> cases hw : s.marked w <;> simp_all <;> omega

/-! ### The list in grant order -/

theorem insertRanked_perm (s : State) (w : SlotId) (l : List SlotId) : (s.insertRanked w l).Perm (w :: l) := by
  induction l with
  | nil => exact .refl _
  | cons v l ih =>
    unfold State.insertRanked
    split
    · exact .refl _
    · exact (ih.cons v).trans (.swap w v l)

theorem ranked_perm (s : State) (l : List SlotId) : (s.ranked l).Perm l := by
  induction l with
  | nil => exact .refl _
  | cons v l ih => exact (s.insertRanked_perm v _).trans (ih.cons v)

theorem insertRanked_pairwise (hr : s.ranksPermute) {l : List SlotId} (hl : l.Pairwise (s.beats · · = true)) (hw : w ∉ l) :
    (s.insertRanked w l).Pairwise (s.beats · · = true) := by
  induction l with
  | nil => exact List.pairwise_singleton _ _
  | cons v l ih =>
    obtain ⟨hv, hl'⟩ := List.pairwise_cons.mp hl
    obtain ⟨hne, hw⟩ := not_or.mp fun c => hw (List.mem_cons.mpr c)
    unfold State.insertRanked
    split
    · rename_i hb
      refine List.pairwise_cons.mpr ⟨fun x hx => ?_, hl⟩
      rcases List.mem_cons.mp hx with rfl | hx
      · exact hb
      · exact beats_trans hb (hv x hx)
    · rename_i hb
      refine List.pairwise_cons.mpr ⟨fun x hx => ?_, ih hl' hw⟩
      rcases List.mem_cons.mp ((s.insertRanked_perm w l).mem_iff.mp hx) with rfl | hx
      · exact beats_of_not hr hne (by simpa using hb)
      · exact hv x hx

/-- Every entry of a ranked list beats all that follow it. -/
theorem ranked_pairwise (hr : s.ranksPermute) {l : List SlotId} (hl : l.Nodup) :
    (s.ranked l).Pairwise (s.beats · · = true) := by
  induction l with
  | nil => exact List.Pairwise.nil
  | cons v l ih =>
    obtain ⟨hv, hl⟩ := List.nodup_cons.mp hl
    exact insertRanked_pairwise hr (ih hl) fun c => hv ((s.ranked_perm l).mem_iff.mp c)

/-! ### The winner -/

/-- The best of a list beats the others, and the best so far. -/
theorem foldl_better_beats (hr : s.ranksPermute) (l : List SlotId) : ∀ (o : Option SlotId) (w : SlotId),
    l.foldl s.better o = some w → ∀ v, v ∈ l ∨ o = some v → v ≠ w → s.beats w v = true := by
  induction l with
  | nil =>
    intro o w h v hv hne
    rcases hv with hv | hv
    · cases hv
    · exact absurd (Option.some.inj (hv.symm.trans h)) hne
  | cons a l ih =>
    intro o w h v hv hne
    have hbest := ih _ _ h
    have through {x : SlotId} (hx : s.better o a = some x) (hxv : s.beats x v = true) : s.beats w v = true := by
      by_cases e : x = w
      · exact e ▸ hxv
      · exact beats_trans (hbest x (.inr hx) e) hxv
    cases o with
    | none =>
      rcases hv with hv | hv
      · rcases List.mem_cons.mp hv with rfl | hv
        · exact hbest v (.inr rfl) hne
        · exact hbest v (.inl hv) hne
      · cases hv
    | some u =>
      have hbetter : s.better (some u) a = if s.beats a u then some a else some u := rfl
      rcases hv with hv | hv
      · rcases List.mem_cons.mp hv with rfl | hv
        · split at hbetter
          · exact hbest v (.inr hbetter) hne
          · rename_i hb
            by_cases e : u = v
            · exact hbest v (.inr (e ▸ hbetter)) hne
            · exact through hbetter (beats_of_not hr (Ne.symm e) (by simpa using hb))
        · exact hbest v (.inl hv) hne
      · obtain rfl := Option.some.inj hv
        split at hbetter
        · exact through hbetter ‹_›
        · exact hbest u (.inr hbetter) hne

theorem winner_beats (hr : s.ranksPermute) (hw : s.winner = some w) (hv : s.eligible v = true) (hne : v ≠ w) :
    s.beats w v = true :=
  foldl_better_beats hr _ _ _ hw v (.inl (List.mem_filter.mpr ⟨mem_numbers v, hv⟩)) hne

/-! ### The entries -/

theorem record_of_eligible (h : s.eligible w = true) : (s.tenancy w).record.isSome = true := by
  unfold State.eligible at h
  split at h
  · simp [*]
  · cases h

/-- No condition of R24 fails exactly for an eligible slot. -/
theorem failed_eq_none {r : RequestRec} (hr : (s.tenancy w).record = some r) :
    s.failed w r = none ↔ s.eligible w = true := by
  unfold State.failed State.eligible
  rw [hr]
  dsimp only
  generalize s.permit w r.band r.emission = permitted
  cases (s.identity w).heldBack <;> cases permitted <;> cases s.exhausted w <;> simp

theorem queueEntry_some {e : QueueEntry} (h : s.queueEntry w = some e) :
    e.slot = w ∧ (e.failed = none ↔ s.eligible w = true) := by
  unfold State.queueEntry at h
  obtain ⟨r, hr, rfl⟩ := Option.map_eq_some_iff.mp h
  exact ⟨rfl, failed_eq_none hr⟩

theorem queueEntry_isSome (h : (s.tenancy w).record.isSome = true) : ∃ e, s.queueEntry w = some e ∧ e.slot = w := by
  obtain ⟨r, hr⟩ := Option.isSome_iff_exists.mp h
  exact ⟨_, by rw [State.queueEntry, hr]; rfl, rfl⟩

/-- The WAITING slots in slot order, those of one kind. -/
def waitingThat (s : State) (p : SlotId → Bool) : List SlotId :=
  ((numbers 32).filter fun w => (s.tenancy w).record.isSome).filter p

theorem queueList_eq (s : State) : s.queueList =
    (s.ranked (s.waitingThat s.eligible) ++ s.ranked (s.waitingThat fun w => !s.eligible w)).filterMap s.queueEntry :=
  rfl

theorem mem_ranked_waitingThat {p : SlotId → Bool} :
    w ∈ s.ranked (s.waitingThat p) ↔ (s.tenancy w).record.isSome = true ∧ p w = true := by
  rw [(s.ranked_perm _).mem_iff]
  simp [waitingThat, and_comm]

theorem ranked_waitingThat_pairwise (hr : s.ranksPermute) (p : SlotId → Bool) :
    (s.ranked (s.waitingThat p)).Pairwise (s.beats · · = true) :=
  ranked_pairwise hr (((List.nodup_ofFn.mpr Function.injective_id).filter _).filter _)

theorem mem_queueList : (∃ e ∈ s.queueList, e.slot = w) ↔ (s.tenancy w).record.isSome = true := by
  rw [queueList_eq]
  constructor
  · rintro ⟨e, he, rfl⟩
    obtain ⟨v, hv, hve⟩ := List.mem_filterMap.mp he
    obtain ⟨rfl, -⟩ := queueEntry_some hve
    rcases List.mem_append.mp hv with hv | hv
    · exact (mem_ranked_waitingThat.mp hv).1
    · exact (mem_ranked_waitingThat.mp hv).1
  · intro hw
    obtain ⟨e, he, hslot⟩ := queueEntry_isSome hw
    refine ⟨e, List.mem_filterMap.mpr ⟨w, List.mem_append.mpr ?_, he⟩, hslot⟩
    cases hel : s.eligible w with
    | true => exact .inl (mem_ranked_waitingThat.mpr ⟨hw, hel⟩)
    | false => exact .inr (mem_ranked_waitingThat.mpr ⟨hw, by simp [hel]⟩)

/-- In grant order: eligible slots before the others, and in each group the one that beats the rest. -/
theorem queueList_pairwise (hr : s.ranksPermute) : s.queueList.Pairwise (fun x y =>
    (x.failed = none ∧ y.failed ≠ none) ∨
      ((x.failed = none ↔ y.failed = none) ∧ s.beats x.slot y.slot = true)) := by
  rw [queueList_eq, List.pairwise_filterMap, List.pairwise_append]
  refine ⟨(ranked_waitingThat_pairwise hr _).imp_of_mem fun ha hb h x hx y hy => ?_,
    (ranked_waitingThat_pairwise hr _).imp_of_mem fun ha hb h x hx y hy => ?_, fun a ha b hb x hx y hy => ?_⟩
  all_goals
    obtain ⟨rfl, hfx⟩ := queueEntry_some hx
    obtain ⟨rfl, hfy⟩ := queueEntry_some hy
    obtain ⟨-, ha⟩ := mem_ranked_waitingThat.mp ha
    obtain ⟨-, hb⟩ := mem_ranked_waitingThat.mp hb
  · exact .inr ⟨by rw [hfx, hfy, ha, hb], h⟩
  · exact .inr ⟨by simp_all, h⟩
  · exact .inl ⟨hfx.mpr ha, by simp_all⟩

theorem queueList_head (hr : s.ranksPermute) (hw : s.winner = some w) : s.queueList.head?.map (·.slot) = some w := by
  have hel := winner_eligible hw
  have hmem : w ∈ s.ranked (s.waitingThat s.eligible) := mem_ranked_waitingThat.mpr ⟨record_of_eligible hel, hel⟩
  have hsort := ranked_waitingThat_pairwise hr s.eligible
  have hall (v : SlotId) (hv : v ∈ s.ranked (s.waitingThat s.eligible)) := mem_ranked_waitingThat.mp hv
  rw [queueList_eq]
  generalize s.ranked (s.waitingThat s.eligible) = l at hmem hsort hall ⊢
  cases l with
  | nil => cases hmem
  | cons x l =>
    obtain ⟨hx, hxel⟩ := hall x (List.mem_cons_self ..)
    obtain ⟨e, he, hslot⟩ := queueEntry_isSome hx
    have hxw : x = w := by
      by_contra hne
      have hfirst := (List.pairwise_cons.mp hsort).1 w ((List.mem_cons.mp hmem).resolve_left (Ne.symm hne))
      have := winner_beats hr hw hxel hne
      simp [beats_asymm this] at hfirst
    subst hxw
    rw [List.cons_append, List.filterMap_cons_some he, List.head?_cons, Option.map_some, hslot]

end State

/-- Settles O24. -/
theorem queueIsInGrantOrder : Obligations.QueueIsInGrantOrder := fun _ hr =>
  ⟨fun _ => State.mem_queueList, State.queueList_pairwise hr, fun _ hw => State.queueList_head hr hw⟩

end Sys2Proof.Machine
end

section
/-! SetStation (R186). -/

namespace Sys2Proof.Machine

set_option Elab.async false

/-! ### The payload -/

/-- The settings that a valid SetStation payload with these codes stores (R186). -/
def stationSettings (p : StationArgs) (b : BandId) (e : Emission) (q : Polarities) : Settings where
  turnGap := clamp 0 10000 p.turnGap
  presenceTimeout := clamp 2 60 p.presenceTimeout
  defaultBand := b
  defaultEmission := e
  defaultPower := clamp 1 4000 p.defaultPower
  polarities := q
  keying := ⟨clamp 20 500 p.playoutDelay, clamp 0 200 p.lateAllowance, clamp 50 2000 p.cwHang,
    max (clamp 50 2000 p.cwHang) (clamp 500 10000 p.burstGap), clamp 1 30 p.stuckLimit⟩
  barefootCeiling := clamp 1 200 p.barefootCeiling
  autoAmp := decide (p.autoAmp = 1)
  warmUpTime := clamp 10 600 p.warmUpTime
  ampIdleTime := clamp 1 240 p.ampIdleTime
  callsign := if p.callsign = [] then none else some p.callsign
  ids := ⟨clamp 60 900 p.idInterval, clamp 0 120 p.idGrace, clamp 5 600 p.quietDelay, clamp 10 40 p.idSpeed,
    clamp 1 4000 p.idPower⟩

theorem stationSettings?_eq {p : StationArgs} {b : BandId} {e : Emission} {q : Polarities} (hb : p.defaultBand = b.val)
    (he : emissionOf p.defaultEmission = some e) (hq : polaritiesOf p = some q) (ha : p.autoAmp < 2)
    (hc : p.callsign.length ≤ 10 ∧ p.callsign.all callsignChar = true) :
    stationSettings? p = some (stationSettings p b e q) := by
  simp only [stationSettings?, hb, indexOf_val, he, hq, flagOf_of_lt ha, callsignOf, if_pos hc]
  rfl

theorem linePolarityOf_of_le {n : Nat} (h : 2 ≤ n) : linePolarityOf n = none := by
  match n, h with
  | n + 2, _ => rfl

theorem emissionOf_of_le {n : Nat} (h : 3 ≤ n) : emissionOf n = none := by
  match n, h with
  | n + 3, _ => rfl

theorem polaritiesOf_of_le {p : StationArgs} (h : 2 ≤ p.polTrr ∨ 2 ≤ p.polAmpkey ∨ 2 ≤ p.polExc ∨ 2 ≤ p.polKey ∨
    2 ≤ p.polIdm ∨ 2 ≤ p.polAmppwr) : polaritiesOf p = none := by
  unfold polaritiesOf
  rcases h with h | h | h | h | h | h <;> simp [linePolarityOf_of_le h]

theorem callsignOf_invalid {c : List Char} (h : 10 < c.length ∨ c.all callsignChar = false) : callsignOf c = none := by
  refine if_neg fun ⟨hlen, hall⟩ => ?_
  rcases h with h | h
  · omega
  · simp [h] at hall

/-- An index, a code or a callsign outside its range makes the payload invalid. -/
theorem stationSettings?_invalid {p : StationArgs} (h : 12 ≤ p.defaultBand ∨ 3 ≤ p.defaultEmission ∨ 2 ≤ p.polTrr ∨
    2 ≤ p.polAmpkey ∨ 2 ≤ p.polExc ∨ 2 ≤ p.polKey ∨ 2 ≤ p.polIdm ∨ 2 ≤ p.polAmppwr ∨ 2 ≤ p.autoAmp ∨
    10 < p.callsign.length ∨ p.callsign.all callsignChar = false) : stationSettings? p = none := by
  have h : indexOf 12 p.defaultBand = none ∨ emissionOf p.defaultEmission = none ∨ polaritiesOf p = none ∨
      flagOf p.autoAmp = none ∨ callsignOf p.callsign = none := by
    rcases h with h | h | h | h | h | h | h | h | h | h | h
    · exact .inl (indexOf_of_le h)
    · exact .inr (.inl (emissionOf_of_le h))
    · exact .inr (.inr (.inl (polaritiesOf_of_le (.inl h))))
    · exact .inr (.inr (.inl (polaritiesOf_of_le (.inr (.inl h)))))
    · exact .inr (.inr (.inl (polaritiesOf_of_le (.inr (.inr (.inl h))))))
    · exact .inr (.inr (.inl (polaritiesOf_of_le (.inr (.inr (.inr (.inl h)))))))
    · exact .inr (.inr (.inl (polaritiesOf_of_le (.inr (.inr (.inr (.inr (.inl h))))))))
    · exact .inr (.inr (.inl (polaritiesOf_of_le (.inr (.inr (.inr (.inr (.inr h))))))))
    · exact .inr (.inr (.inr (.inl (flagOf_of_le h))))
    · exact .inr (.inr (.inr (.inr (callsignOf_invalid (.inl h)))))
    · exact .inr (.inr (.inr (.inr (callsignOf_invalid (.inr h)))))
  unfold stationSettings?
  rcases h with h | h | h | h | h <;> simp [h]

/-! ### What the block answers -/

namespace State

variable {s : State} {p : StationArgs} {x : Settings}

theorem exec_setStation {tag : Nat} (hc : s.closed = false) (hn : s.tenthsDue = 0) :
    exec (.setStation tag 0xFF p) s = .next ((State.setStation p s.readyToTake).reply 0x04 tag) :=
  congrArg Host.Outcome.next (State.takeStation_taken hc hn)

theorem setStation_refused {r : Status} (hx : stationSettings? p = some x) (hr : s.polarityRefusal x.polarities = some r) :
    s.setStation p = refuse r s := by
  simp [State.setStation, hx, hr]

theorem setStation_invalid {f : ConfigReason × Option BandId} (hx : stationSettings? p = some x)
    (hr : s.polarityRefusal x.polarities = none) (hf : s.settingsFault x = some f) :
    s.setStation p = configInvalid f s := by
  simp [State.setStation, hx, hr, hf]

theorem setStation_stores (hx : stationSettings? p = some x) (hr : s.polarityRefusal x.polarities = none)
    (hf : s.settingsFault x = none) : s.setStation p =
      ⟨if x.barefootCeiling ≠ s.drv.barefootCeiling then (s.storeSettings x).recompute else s.storeSettings x,
        okStatus (stationClamped p x), .empty⟩ := by
  simp [State.setStation, hx, hr, hf]

/-- With no reason to refuse, what holds of the stored settings and of a drive that follows holds afterwards. -/
theorem setStation_answers {tag : Nat} {u : State} {P : State → Prop} (hc : s.closed = false) (hn : s.tenthsDue = 0)
    (hx : stationSettings? p = some x) (hr : s.readyToTake.polarityRefusal x.polarities = none)
    (hf : s.readyToTake.settingsFault x = none)
    (hu : (if x.barefootCeiling ≠ s.drv.barefootCeiling then (s.readyToTake.storeSettings x).recompute
      else s.readyToTake.storeSettings x) = u)
    (hp : P (u.answer 0x04 tag (okStatus (stationClamped p x)) .empty)) : Answers (.setStation tag 0xFF p) s P := by
  refine ⟨_, State.exec_setStation hc hn, ?_⟩
  subst hu
  rwa [State.setStation_stores hx hr hf]

theorem replied_stationClamped {tag : Nat} {u : State} {y : Settings} (h : y = x) :
    (u.answer 0x04 tag (okStatus (stationClamped p x)) .empty).replied 0x04 tag
      (if stationClamped p y then .okClamped else .ok) .empty :=
  h ▸ Handled.replied 0x04 tag ⟨u, okStatus (stationClamped p x), .empty⟩ (okStatus_ne_unknown _)

theorem polarityRefusal_self (s : State) : s.polarityRefusal s.seq.polarities = none := if_pos rfl

theorem polarityRefusal_uncommissioned (hs : s.prt.station = .uncommissioned) (hq : s.seq.state = .quiet)
    (q : Polarities) : s.polarityRefusal q = none := by simp [State.polarityRefusal, State.inService, hs, hq]

/-- A changed polarity is refused in service, and elsewhere outside QUIET (R50). -/
theorem polarityRefusal_changed {q : Polarities} (hq : q ≠ s.seq.polarities)
    (hs : s.prt.station ≠ .uncommissioned ∨ s.seq.state ≠ .quiet) :
    s.polarityRefusal q = some (if s.prt.station = .uncommissioned then .busy else .wrongState) := by
  by_cases hu : s.prt.station = .uncommissioned <;> simp_all [State.polarityRefusal, State.inService]

/-- A kept ceiling and a callsign break no commission check. -/
theorem settingsFault_kept (hb : x.barefootCeiling = s.drv.barefootCeiling) (hc : x.callsign ≠ none) :
    s.settingsFault x = none := by simp [State.settingsFault, hb, hc]

/-- Outside UNCOMMISSIONED the ceiling's check comes before the callsign's. -/
theorem settingsFault_of_ceiling {f : ConfigReason × Option BandId} (hs : s.prt.station ≠ .uncommissioned)
    (hb : x.barefootCeiling ≠ s.drv.barefootCeiling)
    (hf : configFault s.drv.bands s.drv.barefootCal s.drv.amplifiedCal x.barefootCeiling = some f) :
    s.settingsFault x = some f := by
  simp [State.settingsFault, State.inService, hs, hb, hf]

theorem settingsFault_of_no_ceiling (hs : s.prt.station ≠ .uncommissioned)
    (hb : x.barefootCeiling = s.drv.barefootCeiling ∨
      configFault s.drv.bands s.drv.barefootCal s.drv.amplifiedCal x.barefootCeiling = none) :
    s.settingsFault x = if x.callsign = none then some (.noCallsign, none) else none := by
  rcases hb with hb | hb <;> simp [State.settingsFault, State.inService, hs, hb]

theorem settingsFault_uncommissioned (hs : s.prt.station = .uncommissioned) : s.settingsFault x = none := by
  simp [State.settingsFault, State.inService, hs]

theorem recompute_of_ne (h : s.seq.state ≠ .exciting) : s.recompute = s := if_neg h

/-- What the recomputed drive is, with the target of the transmission in SEQ. -/
theorem recompute_of_target {y : Tx} {n : Nat} (hs : s.seq.state = .exciting) (hy : s.seq.tx = some y)
    (ht : s.txTarget y = some n) : s.recompute = { s with drv := { s.drv with applied := s.drivenAt y n } } := by
  simp [State.recompute, hs, State.computeDrive, hy, ht, State.drivenAt, effective]

theorem recompute_eq (s : State) : ∃ d, s.recompute = { s with drv := { s.drv with applied := d } } := by
  unfold State.recompute State.computeDrive
  split
  · split
    · exact ⟨_, rfl⟩
    · split <;> exact ⟨_, rfl⟩
  · exact ⟨_, rfl⟩

end State

/-- Settles O25. -/
theorem setStationStores : Obligations.SetStationStores := by
  refine ⟨fun tag p b e q s => ?_, fun tag p s => ?_, fun tag p q b e s => ?_, fun tag p b e q s => ?_,
    fun tag p b e q y s => ?_⟩
  · intro h hc hn hb he hq ha hcall hcase
    have hx := stationSettings?_eq hb he hq ha hcall
    refine State.setStation_answers hc hn hx ?_ ?_ (u := h.storeSettings (stationSettings p b e q)) ?_ ?_
    · rcases hcase with ⟨hs, hseq⟩ | ⟨rfl, -, -⟩
      · exact State.polarityRefusal_uncommissioned hs hseq _
      · exact State.polarityRefusal_self _
    · rcases hcase with ⟨hs, -⟩ | ⟨-, hceil, hcalls⟩
      · exact State.settingsFault_uncommissioned hs
      · exact State.settingsFault_kept hceil (by simp [stationSettings, hcalls])
    · rcases hcase with ⟨-, hseq⟩ | ⟨-, hceil, -⟩
      · rw [State.recompute_of_ne (by change s.seq.state ≠ _; rw [hseq]; decide), ite_self]
      · exact if_neg (not_not.mpr hceil)
    · exact ⟨rfl, State.replied_stationClamped rfl, rfl, rfl⟩
  · intro h hc hn hp
    rw [State.exec_setStation hc hn, State.setStation, stationSettings?_invalid hp]
    rfl
  · intro h hc hn hb he hq ha hcall hne hcase
    have hx := stationSettings?_eq hb he hq ha hcall
    have hr := State.polarityRefusal_changed (s := h) hne hcase
    rw [State.exec_setStation hc hn, State.setStation_refused (s := h) hx hr]
    rfl
  · intro h g hc hn hb he hq ha hcall hs hpol hne hceil hfault
    have hx := stationSettings?_eq hb he hq ha hcall
    refine State.setStation_answers hc hn hx (hpol ▸ State.polarityRefusal_self _) ?_ (if_pos hceil) ?_
    · have hf := State.settingsFault_of_no_ceiling (s := h) (x := stationSettings p b e q) hs (.inr hfault)
      exact hf.trans (by simp [stationSettings, hne])
    · subst hpol
      generalize hu : h.storeSettings (stationSettings p b e _) = u
      have hdrv : u.drv = g.drv := by rw [← hu]; rfl
      have hseq : u.seq = s.seq := by rw [← hu]; rfl
      have hdriven (y : Tx) (n : Nat) : u.drivenAt y n = g.drivenAt y n := by
        simp only [State.drivenAt, State.context, hdrv]
        rw [← hu]
        rfl
      have hkeeps (d : Applied) : { u with drv := { u.drv with applied := d } }.settings =
          stationSettings p b e s.seq.polarities := by
        rw [← hu]; rfl
      have hwith (a : Applied) : { u.drv with applied := a } = { g.drv with applied := a } := by rw [hdrv]
      obtain ⟨d, hd⟩ := u.recompute_eq
      refine ⟨?_, ?_, fun hx => ?_, fun hx y hy hk c hcon => ?_, fun y hy v hv hx hk => ?_, ?_, ?_⟩
      · rw [hd]
        exact hkeeps d
      · rw [hd]
        exact State.replied_stationClamped (hkeeps d)
      · rw [State.recompute_of_ne (by rwa [hseq])]
        exact hdrv
      · have hcon : u.idu.context = some c := by rw [← hu]; exact hcon
        have ht : u.txTarget y = some (g.target y.path (g.idUncapped y.band c.power)) := by
          simp only [State.txTarget, hk, hcon, State.target, State.idUncapped, hdrv]
        rw [State.recompute_of_target (by rwa [hseq]) (by rw [hseq]; exact hy) ht, hdriven]
        exact hwith _
      · have hv : u.turn = some v := by rw [← hu]; exact hv
        have ht : u.txTarget y = some (g.target y.path (g.uncapped v.holder y.band y.emission v.power)) := by
          simp only [State.txTarget, hk, hv, State.target, State.uncapped, hdrv]
          rw [← hu]
          rfl
        rw [State.recompute_of_target (by rwa [hseq]) (by rw [hseq]; exact hy) ht, hdriven]
        exact hwith _
      · rw [hd, ← hu]
        rfl
      · rw [hd, ← hu]
        rfl
  · intro h hc hn hb he hq ha hcall hs hpol hcase
    have hx := stationSettings?_eq hb he hq ha hcall
    have hf : h.settingsFault (stationSettings p b e q) = some y := by
      rcases hcase with ⟨hceil, hfault⟩ | ⟨hcalls, rfl, hceil⟩
      · exact State.settingsFault_of_ceiling hs hceil hfault
      · exact (State.settingsFault_of_no_ceiling hs hceil).trans (by simp [stationSettings, hcalls])
    rw [State.exec_setStation hc hn, State.setStation_invalid (s := h) hx (hpol ▸ State.polarityRefusal_self _) hf]
    rfl

end Sys2Proof.Machine
end

section
/-! Request (R18, R19): a slot that waits, and one that is granted at once on another band. -/

namespace Sys2Proof.Machine

set_option Elab.async false

/-! ### A grant that retunes from QUIET (R30, R66, R67) -/

/-- What a grant makes of AMG's state (R103, R104). -/
theorem State.ampAtGrant_state (u : Nat) (s : State) : (s.ampAtGrant u).amg.state =
    if s.amg.autoAmp = true ∧ s.drv.barefootCeiling < u ∧ s.amg.state = .off then
      (if s.ampReady then .on else .warming) else s.amg.state := by
  have hready : (s.ampTo .warming .auto).ampReady = s.ampReady := rfl
  have hidle : s.startAmpIdle.amg.state = s.amg.state := by unfold State.startAmpIdle; split <;> rfl
  unfold State.ampAtGrant
  by_cases hauto : s.amg.autoAmp = true ∧ s.drv.barefootCeiling < u
  · cases ha : s.amg.state
    all_goals simp only [hauto.1, hauto.2, true_and, and_true, reduceCtorEq, if_false, if_true]
    case off =>
      unfold State.warmAmp
      dsimp only
      rw [hready]
      split <;> rfl
    case on =>
      split
      · rw [hidle, ha]
      · exact ha
    all_goals exact ha
  · rw [if_neg hauto, if_neg fun c => hauto ⟨c.1, c.2.1⟩]

/-- A grant touches AMG and LNK alone before it takes the slot. -/
theorem State.ampAtGrant_eq (u : Nat) (s : State) : ∃ a l, s.ampAtGrant u = { s with amg := a, lnk := l } := by
  unfold State.ampAtGrant State.warmAmp State.startAmpIdle
  split
  · split
    · dsimp only
      split
      · exact ⟨_, _, rfl⟩
      · exact ⟨_, _, rfl⟩
    · split
      · exact ⟨_, _, rfl⟩
      · exact ⟨_, _, rfl⟩
    · exact ⟨_, _, rfl⟩
    · exact ⟨_, _, rfl⟩
  · exact ⟨_, _, rfl⟩

/-- The grant's steps before the retune, by blocks. -/
theorem State.grantSteps_eq (w : SlotId) (r : RequestRec) (s : State) : ∃ a l, s.grantSteps w r = { s with
      arb := { s.arb with
        slots := s.arb.slots.write w .holding, ranks := rotate s.arb.ranks w, arbiter := .turn (s.newTurn w r), gap := none }
      msr := { s.msr with factor := 256 }, amg := a, lnk := l } ∧
    a.state = if s.amg.autoAmp = true ∧ s.drv.barefootCeiling < s.uncapped w r.band r.emission r.power ∧
      s.amg.state = .off then (if s.ampReady then .on else .warming) else s.amg.state := by
  unfold State.grantSteps
  dsimp only
  generalize hq : State.setFactor _ _ = q
  have ha := q.ampAtGrant_state (q.uncapped w r.band r.emission r.power)
  obtain ⟨a, l, he⟩ := q.ampAtGrant_eq (q.uncapped w r.band r.emission r.power)
  rw [he] at ha ⊢
  refine ⟨a, l.raise (.turnGranted w r.band r.emission r.power), by rw [← hq]; rfl, ?_⟩
  refine ha.trans ?_
  rw [← hq]
  rfl

/-- On another band than the current one SEQ retunes from QUIET, and a due identification no more than claims the turn. -/
theorem State.enterGranted_retunes {r : RequestRec} {t : Turn} {s : State} (hb : s.seq.currentBand ≠ some r.band)
    (hq : s.seq.state = .quiet) (ht : s.turn = some t) (hs : t.sub = .tuning) :
    ∃ i, s.enterGranted r = { s.flushTurnKeys.enterRetune r.band with idu := i } := by
  have hask : s.flushTurnKeys.askRetune r.band = s.flushTurnKeys.enterRetune r.band := if_pos hq
  have hturn : (s.flushTurnKeys.enterRetune r.band).turn = some t := ht
  unfold State.enterGranted
  rw [if_neg hb]
  dsimp only
  rw [hask]
  split
  · unfold State.claimTurn
    rw [hturn]
    dsimp only
    rw [hs]
    exact ⟨_, rfl⟩
  · exact ⟨_, rfl⟩

/-- While a wait of the sequencer takes time and no gap runs, a TUNING turn is settled but for the quiet timer. -/
theorem State.settle_tuning {s : State} {t : Turn} (ht : s.turn = some t) (hs : t.sub = .tuning)
    (hi : t.idleStart = none) (hg : s.arb.gap = none) (hz : zeroLength s.seq.step = false) :
    s.settle = s.syncQuiet := by
  have harb := State.turn_eq_some.mp ht
  have hnone : s.settleStep = none := by
    rw [State.settleStep_eq_none, hg]
    exact ⟨by simp [State.idTurnOpen, harb], rfl, hz⟩
  have hidle : s.syncIdle = s := by
    rw [State.syncIdle_eq_self]
    intro u hu
    obtain rfl := Option.some.inj (ht.symm.trans hu)
    simp [hi, State.idleMayRun, hs]
  rw [State.settle, State.settleFor_of_none hnone, hidle]

/-- What a grant from QUIET on another band leaves: a turn in TUNING, and SEQ in RETUNE. -/
theorem State.grantRequest_tunes {w : SlotId} {r : RequestRec} {s : State} (hb : s.seq.currentBand ≠ some r.band)
    (hq : s.seq.state = .quiet) (hz : s.seq.active.bandSettle ≠ 0) :
    ∃ i, (s.grantRequest w r).settle = { (s.grantSteps w r).flushTurnKeys.enterRetune r.band with idu := i } := by
  obtain ⟨a, l, he, -⟩ := State.grantSteps_eq w r s
  have hsub : (s.newTurn w r).sub = .tuning := if_neg hb
  obtain ⟨i, hi⟩ := State.enterGranted_retunes (s := s.grantSteps w r) (t := s.newTurn w r) (by rw [he]; exact hb)
    (by rw [he]; exact hq) (by rw [he]; rfl) hsub
  have hlong : zeroLength (some (s.timer (s.seq.active.bandSettle * 10))) = false := by
    simp [zeroLength, State.timer, hz]
  have hset := State.settle_tuning (s := { (s.grantSteps w r).flushTurnKeys.enterRetune r.band with idu := i })
    (t := s.newTurn w r) (by rw [he]; rfl) hsub rfl (by rw [he]; rfl) (by rw [he]; exact hlong)
  rw [State.grantRequest, hi, hset]
  exact ⟨_, rfl⟩

/-! ### Requests -/

section Request

variable {s : State} {w : SlotId} {tag : Nat} {b : BandId} {e : Emission} {ec n mc : Nat} {m : Mode}

theorem exec_request (hc : s.closed = false) (hn : s.tenthsDue = 0) (hv : s.tenancy w ≠ .vacant) (b : Nat) :
    exec (.request tag w.val b ec n mc) s = .next ((State.request b ec n mc w (s.heard (.slot w))).reply 0x20 tag) :=
  congrArg Host.Outcome.next (State.takeOwn_taken hc hn hv)

theorem frameRequest?_eq (he : emissionOf ec = some e) (hm : modeOf mc = some m) :
    frameRequest? b.val ec n mc = some ⟨b, e, clamp 1 4000 n, m, .frame, false⟩ := by
  simp only [frameRequest?, indexOf_val, he, hm]
  rfl

theorem modeOf_of_le (h : 2 ≤ n) : modeOf n = none := by
  match n, h with
  | n + 2, _ => rfl

theorem modeOf_of_lt (h : n < 2) : ∃ m, modeOf n = some m := by
  match n, h with
  | 0, _ => exact ⟨_, rfl⟩
  | 1, _ => exact ⟨_, rfl⟩

theorem frameRequest?_invalid {b : Nat} (h : 12 ≤ b ∨ 3 ≤ ec ∨ 2 ≤ mc) : frameRequest? b ec n mc = none := by
  unfold frameRequest?
  rcases h with h | h | h
  · simp [indexOf_of_le h]
  · simp [emissionOf_of_le h]
  · simp [modeOf_of_le h]

/-- A slot begins to wait with a request; its presence timer starts if it was OPEN. -/
def State.asking (w : SlotId) (r : RequestRec) (s : State) : State := (s.leaveOpen w).setTenancy w (.waiting r)

theorem State.asking_eq (w : SlotId) (r : RequestRec) (s : State) : s.asking w r =
    { s with arb := { s.arb with
      slots := s.arb.slots.write w (.waiting r)
      presence := if s.tenancy w = .opened ∧ w ≠ 0 then
        s.arb.presence.write w (some ⟨s.clock, s.arb.presenceTimeout * 1000⟩) else s.arb.presence } } := by
  unfold State.asking
  by_cases ho : s.tenancy w = .opened
  · have hl : s.leaveOpen w = s.startPresence w := by rw [State.leaveOpen, ho]
    rw [hl]
    by_cases hw : w = 0
    · rw [State.startPresence, if_pos hw, if_neg fun c => c.2 hw]
      rfl
    · rw [State.startPresence, if_neg hw, if_pos ⟨ho, hw⟩]
      rfl
  · have hl : s.leaveOpen w = s := by
      unfold State.leaveOpen
      split
      · contradiction
      · rfl
    rw [hl, if_neg fun c => ho c.1]
    rfl

theorem State.Evolves.asking {h s : State} (e : h.Evolves s) (w : SlotId) (r : RequestRec) : h.Evolves (s.asking w r) := by
  rw [State.asking_eq]
  exact e.same

theorem State.asking_settled {r : RequestRec} (h : s.settled) : (s.asking w r).settled := by
  refine (State.settled_congr (s := s) ?_ ?_ ?_ ?_ ?_).mpr h <;> rw [State.asking_eq]

@[simp] theorem State.asking_tenancy (w : SlotId) (r : RequestRec) (s : State) : (s.asking w r).tenancy w = .waiting r :=
  Table.read_write_same ..

/-- A request that no check refuses makes its slot WAITING, and in FREE it is an arbitration point. -/
theorem State.request_waits (he : emissionOf ec = some e) (hm : modeOf mc = some m) (hh : s.tenancy w ≠ .holding)
    (hp : s.permit w b e = true) (hx : s.exhausted w = false) :
    let u := (s.asking w ⟨b, e, clamp 1 4000 n, m, .frame, false⟩).arbitrateIfFree.settle
    s.request b.val ec n mc w = ⟨u, okStatus (outside 1 4000 n), .requestState (u.tenancy w).shown⟩ := by
  have hr : s.requestRefusal w ⟨b, e, clamp 1 4000 n, m, .frame, false⟩ = none := by
    simp [State.requestRefusal, hh, hp, hx]
  simp only [State.request, frameRequest?_eq he hm, hr, State.asking]

/-- With one request only, its slot wins. -/
theorem State.winner_of_alone (h : s.eligible w = true) (ho : ∀ v, v ≠ w → (s.tenancy v).record = none) :
    s.winner = some w := by
  have heq : s.eligible = fun v => decide (v = w) := by
    funext v
    by_cases hv : v = w
    · simp [hv, h]
    · simp [State.eligible, ho v hv, hv]
  rw [State.winner, heq, filter_numbers_eq]
  rfl

/-- In FREE a slot that may be granted and asks alone is granted at once. -/
theorem State.asking_granted {r : RequestRec} (ha : s.arb.arbiter = .free) (hr : s.ready = true)
    (hb : (s.identity w).heldBack = false) (hp : s.permit w r.band r.emission = true) (hx : s.exhausted w = false)
    (ho : ∀ v, v ≠ w → (s.tenancy v).record = none) :
    (s.asking w r).arbitrateIfFree = (s.asking w r).grantRequest w r := by
  have hrec : ((s.asking w r).tenancy w).record = some r := by rw [State.asking_tenancy]; rfl
  have hother (v : SlotId) (hv : v ≠ w) : ((s.asking w r).tenancy v).record = none := by
    rw [State.asking_eq, State.tenancy, Table.read_write_other _ _ hv]
    exact ho v hv
  have hel : (s.asking w r).eligible w = true := by
    have hkeep : ((s.asking w r).identity w).heldBack = false ∧ (s.asking w r).permit w r.band r.emission = true ∧
        (s.asking w r).exhausted w = false := by
      rw [State.asking_eq]
      exact ⟨hb, hp, hx⟩
    simp only [State.eligible, hrec, hkeep, Bool.not_false, Bool.and_self]
  have hready : (s.asking w r).ready = true := by rw [State.asking_eq]; exact hr
  have hfree : (s.asking w r).arb.arbiter = .free := by rw [State.asking_eq]; exact ha
  rw [State.arbitrateIfFree, if_pos hfree]
  simp only [State.arbitrate, hready, if_true, State.winner_of_alone hel hother, State.grant, hrec]

/-- What the grant of a slot that asks alone leaves when SEQ has to retune from QUIET. -/
theorem State.asking_tunes {r : RequestRec} (hw : w ≠ 0) (hb : s.seq.currentBand ≠ some r.band)
    (hq : s.seq.state = .quiet) (hz : s.seq.active.bandSettle ≠ 0) :
    let t := ((s.asking w r).grantRequest w r).settle
    t.turn = some ⟨w, r.band, r.emission, r.power, r.mode, .tuning, s.seconds, s.clock, 0, 0, false, none⟩ ∧
      t.tenancy w = .holding ∧ t.seq = (s.enterRetune r.band).seq ∧ t.msr.factor = 256 ∧
      t.arb.ranks = rotate s.arb.ranks w ∧
      t.amg.state = (if s.amg.autoAmp = true ∧ s.drv.barefootCeiling < s.uncapped w r.band r.emission r.power ∧
        s.amg.state = .off then (if s.ampReady then .on else .warming) else s.amg.state) ∧
      s.raised t (.turnGranted w r.band r.emission r.power) ∧ t.fixed = s.fixed := by
  intro t
  have hlnk : (s.asking w r).lnk = s.lnk := by rw [State.asking_eq]
  have hraised := State.raised_turnGranted (h := s) (s := s.asking w r) (u := t) (w := w) (r := r)
    (by rw [hlnk]; exact .refl _) (by rw [hlnk]; omega) (((State.Evolves.refl _).enterGranted r).settle).link
  have hfixed : t.fixed = s.fixed := (((State.Evolves.refl s).asking w r).grantRequest w r).settle.fixed
  obtain ⟨i, hi⟩ := State.grantRequest_tunes (w := w) (r := r) (s := s.asking w r) (by rw [State.asking_eq]; exact hb)
    (by rw [State.asking_eq]; exact hq) (by rw [State.asking_eq]; exact hz)
  obtain ⟨a, l, hsteps, ha⟩ := State.grantSteps_eq w r (s.asking w r)
  have hturn : (s.asking w r).newTurn w r =
      ⟨w, r.band, r.emission, r.power, r.mode, .tuning, s.seconds, s.clock, 0, 0, false, none⟩ := by
    rw [State.asking_eq]
    simp [State.newTurn, hb, State.grantPending, hw]
  change t = _ at hi
  rw [hsteps, hturn, State.asking_eq] at hi
  rw [State.asking_eq] at ha
  rw [hi] at hraised hfixed ⊢
  exact ⟨rfl, Table.read_write_same .., rfl, rfl, rfl, ha, hraised, hfixed⟩

end Request

/-- Settles O41. -/
theorem requestsWaitOrAreGranted : Obligations.RequestsWaitOrAreGranted := by
  refine ⟨fun tag w b e ec n m mc s => ?_, fun tag w b e ec n m mc s => ?_, fun tag w b e ec n mc s => ?_,
    fun tag w b ec n mc s => ?_⟩
  · intro h hc hn hv he hm hh hp hx harb hset
    have hset : h.settled := State.settled_heard _ hset
    have hfree (r : RequestRec) : (h.asking w r).arb.arbiter ≠ .free := by
      rw [State.asking_eq]
      exact (State.heard_arbiter _ s).trans_ne harb
    rw [exec_request hc hn hv, State.request_waits (s := h) he hm (by simpa [h] using hh) (by simpa [h] using hp)
      (by simpa [h] using hx), State.arbitrateIfFree, if_neg (hfree _), State.settle_eq_self (State.asking_settled hset),
      State.asking_tenancy, State.asking_eq, ← okStatus_outside]
    rfl
  · intro h p hc hn hv he hm hh hp hx harb hst halone hback hband hq hz hw hset
    have hgrant := State.asking_granted (s := h) (w := w) (r := ⟨b, e, p, m, .frame, false⟩) (by simpa [h] using harb)
      (by simp [h, State.ready, hst]) (by simpa [h] using hback) (by simpa [h] using hp) (by simpa [h] using hx)
      (by simpa [h] using halone)
    obtain ⟨hturn, hten, hseq, hfactor, hranks, hamp, hraised, hfixed⟩ := State.asking_tunes (s := h)
      (r := ⟨b, e, p, m, .frame, false⟩) hw (by simpa [h] using hband) (by simpa [h] using hq) (by simpa [h] using hz)
    refine ⟨_, exec_request hc hn hv b.val, ?_⟩
    rw [State.request_waits (s := h) he hm (by simpa [h] using hh) (by simpa [h] using hp) (by simpa [h] using hx)]
    dsimp only
    rw [hgrant, hten, ← okStatus_outside]
    generalize State.settle _ = t at hturn hten hseq hfactor hranks hamp hraised hfixed ⊢
    refine ⟨hturn, hten, ?_, ?_, ?_, ?_, hfactor, fun v => ?_, hamp, hraised,
      Handled.replied _ _ _ (okStatus_ne_unknown _), hfixed⟩
    · rw [Handled.reply_seq, hseq]; rfl
    · rw [Handled.reply_seq, hseq]; rfl
    · rw [Handled.reply_seq, hseq]; rfl
    · rw [Handled.reply_seq, hseq]; rfl
    · rw [Handled.reply_arb, hranks, rotate_read]
  · intro h hc hn hv he hm hno
    obtain ⟨m, hm⟩ := modeOf_of_lt hm
    have hr : h.requestRefusal w ⟨b, e, clamp 1 4000 n, m, .frame, false⟩ =
        some (if s.tenancy w = .holding then .wrongState
          else if s.permit w b e = false then .notPermitted else .noAllowance) := by
      simp only [State.requestRefusal, h, State.heard_tenancy, State.heard_permit, State.heard_exhausted]
      split_ifs <;> simp_all
    rw [exec_request hc hn hv]
    simp only [State.request, frameRequest?_eq he hm]
    rw [hr]
    rfl
  · intro h hc hn hv hno
    rw [exec_request hc hn hv, State.request, frameRequest?_invalid hno]
    rfl

end Sys2Proof.Machine
end

section
/-! Occurrences at their instants, and the presence and gap timers (R22, R28). -/

namespace Sys2Proof.Machine

set_option Elab.async false

/-! ### An occurrence whose instant stands -/

section BringTo

variable (t : Clock) (s : State)

@[simp] theorem State.bringTo_ktl : (s.bringTo t).ktl = s.ktl := by
  unfold State.bringTo; split <;> rfl
@[simp] theorem State.bringTo_drv : (s.bringTo t).drv = s.drv := by
  unfold State.bringTo; split <;> rfl
@[simp] theorem State.bringTo_amg : (s.bringTo t).amg = s.amg := by
  unfold State.bringTo; split <;> rfl
@[simp] theorem State.bringTo_prt : (s.bringTo t).prt = s.prt := by
  unfold State.bringTo; split <;> rfl
@[simp] theorem State.bringTo_idu : (s.bringTo t).idu = s.idu := by
  unfold State.bringTo; split <;> rfl
@[simp] theorem State.bringTo_inr : (s.bringTo t).inr = s.inr := by
  unfold State.bringTo; split <;> rfl
@[simp] theorem State.tenancy_bringTo (w : SlotId) : (s.bringTo t).tenancy w = s.tenancy w := by simp [State.tenancy]
@[simp] theorem State.holder_bringTo : (s.bringTo t).holder = s.holder := by simp [State.holder]
@[simp] theorem State.ready_bringTo : (s.bringTo t).ready = s.ready := by simp [State.ready]

end BringTo

section Due

variable {s : State} {act : State → State}

/-- With no tenth to count first, and an instant that stands when it has come, the occurrence comes about. -/
theorem State.atInstant_taken {due : State → Option Clock} {t : Clock} (hr : s.rst = false) (hd : due s = some t)
    (hn : (s.bringTo t).tenthsDue = 0) (hk : due (s.bringTo t) = some t) : s.atInstant due act = act (s.bringTo t) := by
  rw [State.atInstant_of_due act hr hd, State.onTime_of_none hn, if_pos hk]

theorem State.onExpiry_taken {timer : State → Option Timer} {tm : Timer} (hr : s.rst = false) (ht : timer s = some tm)
    (hn : (s.bringTo tm.due).tenthsDue = 0) (hk : timer (s.bringTo tm.due) = some tm) :
    s.onExpiry timer act = act (s.bringTo tm.due) :=
  State.atInstant_taken hr (congrArg (Option.map Timer.due) ht) hn (congrArg (Option.map Timer.due) hk)

theorem State.onExpirySettled_taken {timer : State → Option Timer} {tm : Timer} (hr : s.rst = false)
    (ht : timer s = some tm) (hn : (s.bringTo tm.due).tenthsDue = 0) (hk : timer (s.bringTo tm.due) = some tm) :
    s.onExpirySettled timer act = (act (s.bringTo tm.due)).settle :=
  State.onExpiry_taken hr ht hn hk

end Due

/-! ### Presence (R22) -/

theorem State.heard_of_presence {s : State} {w : SlotId} {tm : Timer} (h : s.arb.presence.read w = some tm) (hw : w ≠ 0) :
    s.heard (.slot w) = { s.readyToTake with arb := { s.arb with
      presence := s.arb.presence.write w (some ⟨s.clock, s.arb.presenceTimeout * 1000⟩) } } := by
  have hp : s.readyToTake.arb.presence.read w = some tm := h
  simp only [State.heard, Actor.presence, State.restartPresence, hp, State.startPresence, hw, if_false]
  rfl

theorem State.heard_of_no_presence {s : State} {w : SlotId} (h : s.arb.presence.read w = none) :
    s.heard (.slot w) = s.readyToTake := by
  have hp : s.readyToTake.arb.presence.read w = none := h
  simp only [State.heard, Actor.presence, State.restartPresence, hp]

theorem exec_presence {s : State} {w : SlotId} {tag : Nat} (hc : s.closed = false) (hn : s.tenthsDue = 0)
    (hv : s.tenancy w ≠ .vacant) :
    exec (.presence tag w.val) s = .next (State.answer 0x23 tag .ok .empty (s.heard (.slot w))) :=
  congrArg Host.Outcome.next (State.takeOwn_taken hc hn hv)

/-- A lost presence drops a request that waits. -/
theorem State.presenceLost_waiting {s : State} {w : SlotId} {x : RequestRec} (hw : s.tenancy w = .waiting x)
    (hh : s.holder ≠ some w) : s.presenceLost w = State.raise (.requestDropped w .presence none) { s with arb := { s.arb with
      slots := s.arb.slots.write w .opened, presence := s.arb.presence.write w none } } := by
  have hholds : (s.stopPresence w).holdsTurn w = false := decide_eq_false hh
  have hten : (s.stopPresence w).tenancy w = .waiting x := hw
  have htwice : (s.arb.presence.write w none).write w none = s.arb.presence.write w none := by
    refine Table.ext fun v => ?_
    rw [Table.read_write, Table.read_write]
    split <;> rfl
  unfold State.presenceLost
  dsimp only
  rw [hholds]
  simp only [State.dropRequest, hten]
  simp only [State.setTenancy, State.stopPresence, htwice]
  rfl

/-! ### The gap (R27, R28) -/

/-- Without a winner, or outside READY, the end of the gap frees the arbiter. -/
theorem State.gapExpires_frees {s : State} (ha : s.arb.arbiter = .gap) (h : s.ready = false ∨ s.winner = none) :
    s.gapExpires = s.stopGap.setArbiter .free := by
  have hnone : (if s.stopGap.ready then s.stopGap.winner else none) = none := by
    rcases h with h | h
    · rw [show s.stopGap.ready = false from h]
      rfl
    · rw [show s.stopGap.winner = none from h, ite_self]
  rw [State.gapExpires, if_pos ha, State.arbitrate, hnone]

/-- In a FREE arbiter with no identification due, only the quiet timer may start. -/
theorem State.settle_freed {s : State} (hs : s.settled) (hd : s.idu.due = false) :
    (s.stopGap.setArbiter .free).settle = (s.stopGap.setArbiter .free).syncQuiet := by
  obtain ⟨⟨-, -, hz⟩, -, -⟩ := State.settled_iff.mp hs
  have hnone : (s.stopGap.setArbiter .free).settleStep = none :=
    State.settleStep_eq_none.mpr ⟨fun c => absurd (hd.symm.trans c.1) nofun, rfl, hz⟩
  rw [State.settle, State.settleFor_of_none hnone, State.syncIdle_of_no_turn rfl]

theorem exec_gapExpiry {s : State} {tm : Timer} (hr : s.rst = false) (ht : s.arb.gap = some tm)
    (hn : (s.bringTo tm.due).tenthsDue = 0) : exec .gapExpiry s = .next (s.bringTo tm.due).gapExpires.settle :=
  congrArg Host.Outcome.next (State.onExpirySettled_taken hr ht hn (by rw [State.bringTo_arb, ht]))

/-- Settles O43. -/
theorem presenceAndGapTimers : Obligations.PresenceAndGapTimers := by
  refine ⟨fun tag w tm s hc hn hv hw ht => ?_, fun tag w s hc hn hv ht => ?_, fun w tm x s => ?_, fun tm v s => ?_,
    fun tm s => ?_, fun tm s => ?_⟩
  · rw [exec_presence hc hn hv, State.heard_of_presence ht hw]
  · rw [exec_presence hc hn hv, State.heard_of_no_presence ht]
  · intro h hr ht hw hh hset hn
    refine congrArg Host.Outcome.next ?_
    rw [State.onExpirySettled_taken hr ht hn (by rw [State.bringTo_arb, ht]),
      State.presenceLost_waiting (s := h) (by simpa [h] using hw) (by simpa [h] using hh)]
    refine State.settle_eq_self ?_
    refine (State.settled_congr (s := h) ?_ ?_ ?_ ?_ ?_).mpr (State.settled_bringTo _ hset) <;> rfl
  · intro h hr ht ha hst hwin hn
    have harb : h.arb.arbiter = .gap := by simpa [h] using ha
    have hready : h.stopGap.ready = true := by simp [State.ready, State.stopGap, h, hst]
    obtain ⟨r, hgrant⟩ := State.arbitrate_grants (s := h.stopGap) hready hwin
    have hact : h.gapExpires = h.stopGap.grantRequest v r := by rw [State.gapExpires, if_pos harb, hgrant]
    obtain ⟨-, -, hgap, hranks, -⟩ := State.grantRequest_settles v r h.stopGap
    refine ⟨_, exec_gapExpiry hr ht hn, ?_⟩
    rw [hact]
    refine ⟨State.grantRequest_holder .., hgap, ?_, fun u => ?_⟩
    · exact ((State.Evolves.refl h).stopGap.grantRequest v r).settle.fixed
    · rw [hranks, rotate_read]
      rfl
  · intro h hr ht ha hd hset hno hn
    have harb : h.arb.arbiter = .gap := by simpa [h] using ha
    have hno : h.ready = false ∨ h.winner = none := hno.imp_left fun c => by simpa [State.ready, h] using c
    have key : h.gapExpires.settle = (h.stopGap.setArbiter .free).syncQuiet := by
      rw [State.gapExpires_frees harb hno, State.settle_freed (State.settled_bringTo _ hset) (by simpa [h] using hd)]
    refine ⟨_, (exec_gapExpiry hr ht hn).trans (congrArg Host.Outcome.next key), ?_⟩
    clear_value h
    exact ⟨rfl, rfl, rfl⟩
  · intro h hr ht ha hset hn
    have harb : h.arb.arbiter = .idTurn := by simpa [h] using ha
    rw [exec_gapExpiry hr ht hn, State.gapExpires, if_neg (by rw [harb]; nofun)]
    refine congrArg Host.Outcome.next ?_
    refine State.settle_eq_self ?_
    obtain ⟨⟨-, -, hz⟩, hidle, hquiet⟩ := State.settled_iff.mp (State.settled_bringTo tm.due hset)
    refine State.settled_iff.mpr ⟨⟨?_, rfl, hz⟩, hidle, hquiet⟩
    simp [State.idTurnOpen, State.stopGap, ha]

end Sys2Proof.Machine
end

section
/-! The end of a turn that no identification claims (R28, R35, R36). -/

namespace Sys2Proof.Machine

set_option Elab.async false

/-! ### The ends of SEQ's waits (R58, R59, R63, R67) -/

section Advance

variable {s : State}

theorem State.advance_retune (h : s.seq.state = .retune) : s.advance = s.settleBand := by
  unfold State.advance; rw [h]

theorem State.advance_drain (h : s.seq.state = .drain) : s.advance = s.enterDisarmAmp := by
  unfold State.advance; rw [h]

theorem State.advance_disarmAmp (h : s.seq.state = .disarmAmp) : s.advance = s.enterDisarmRelay := by
  unfold State.advance; rw [h]

theorem State.advance_disarmRelay (h : s.seq.state = .disarmRelay) : s.advance = s.restartIdle.enterQuiet := by
  unfold State.advance; rw [h]

end Advance

/-! ### SEQ winds down with nothing to take up -/

/-- From `h` to `s` only SEQ and the amplifier went on; the PTT demand is as it was, no retune is queued, and of SEQ's
waits only one that runs down may take no time. -/
structure State.WindsDown (h s : State) : Prop where
  frame : s = { h with seq := s.seq, amg := s.amg }
  demand : s.seq.pttDemand = h.seq.pttDemand
  queued : s.seq.queuedRetune = none
  down : zeroLength s.seq.step = true →
    s.seq.state = .drain ∨ s.seq.state = .disarmAmp ∨ s.seq.state = .disarmRelay

namespace State.WindsDown

variable {h s t : State}

theorem turn (e : h.WindsDown s) : s.turn = h.turn := by rw [e.frame]; rfl
theorem arb (e : h.WindsDown s) : s.arb = h.arb := by rw [e.frame]
theorem idu (e : h.WindsDown s) : s.idu = h.idu := by rw [e.frame]

theorem swapProfile (e : h.WindsDown s) : h.WindsDown s.swapProfile := by
  obtain ⟨frame, demand, queued, down⟩ := e
  unfold State.swapProfile
  split
  · exact ⟨by rw [frame], demand, queued, down⟩
  · exact ⟨frame, demand, queued, down⟩

theorem quieted (e : h.WindsDown s) (hz : zeroLength s.seq.step = false) : h.WindsDown s.quieted := by
  obtain ⟨frame, demand, queued, -⟩ := e
  have hz' (c : zeroLength s.seq.step = true) : False := absurd (hz.symm.trans c) nofun
  unfold State.quieted State.startAmpIdle
  split
  · exact ⟨by rw [frame], demand, queued, fun c => (hz' c).elim⟩
  · exact ⟨by rw [frame], demand, queued, fun c => (hz' c).elim⟩

/-- At QUIET entry nothing starts where nothing waits. -/
theorem enterQuiet (f : h.Unclaimed) (e : h.WindsDown s) : h.WindsDown s.enterQuiet := by
  have hclosed : s.overAndOut.closeCycle s.txAirTime = s.overAndOut :=
    State.closeCycle_of_idle (by rw [← f.idle, ← e.idu]; rfl)
  have hover : h.WindsDown s.overAndOut := ⟨by rw [e.frame]; rfl, e.demand, e.queued, nofun⟩
  have hstep : zeroLength s.overAndOut.swapProfile.seq.step = false := by
    unfold State.swapProfile
    split <;> rfl
  have eq := hover.swapProfile.quieted hstep
  have hpending : s.overAndOut.swapProfile.quieted.takePending = s.overAndOut.swapProfile.quieted :=
    State.takePending_of_no_turn (eq.turn.trans f.turn)
  rw [State.enterQuiet_eq, hclosed]
  simp only [State.takeUp, eq.queued, eq.idu, f.starts, Bool.false_eq_true, false_and, if_false, hpending]
  exact eq

theorem settleStep (f : h.Unclaimed) (e : h.WindsDown s) (ht : s.settleStep = some t) : h.WindsDown t := by
  rcases State.settleStep_cases ht with ⟨hdue, -⟩ | ⟨hgap, -⟩ | ⟨hstep, rfl⟩
  · rw [e.idu, f.due] at hdue
    cases hdue
  · rw [e.arb, f.gap] at hgap
    cases hgap
  · have e' : h.WindsDown { s with seq := { s.seq with step := none } } := ⟨by rw [e.frame], e.demand, e.queued, nofun⟩
    have hs (x : SeqState) : s.seq.state = x → { s with seq := { s.seq with step := none } }.seq.state = x := id
    replace hs := (e.down hstep).imp (hs _) (Or.imp (hs _) (hs _))
    generalize ({ s with seq := { s.seq with step := none } } : State) = u at e' hs ⊢
    rcases hs with hs | hs | hs
    · rw [State.advance_drain hs]
      exact ⟨by rw [e'.frame]; rfl, e'.demand, e'.queued, fun _ => .inr (.inl rfl)⟩
    · rw [State.advance_disarmAmp hs]
      exact ⟨by rw [e'.frame]; rfl, e'.demand, e'.queued, fun _ => .inr (.inr rfl)⟩
    · rw [State.advance_disarmRelay hs, State.restartIdle, State.modTurn_of_none _ (e'.turn.trans f.turn)]
      exact e'.enterQuiet f

/-- Settling goes no further, and may start the quiet timer. -/
theorem settle (f : h.Unclaimed) (e : h.WindsDown h) : ∃ q a i,
    h.settle = { h with seq := q, amg := a, idu := { h.idu with quiet := i } } ∧ q.pttDemand = h.seq.pttDemand ∧
      q.queuedRetune = none := by
  have key : h.WindsDown (h.settleFor Config.settleFuel) :=
    State.settleFor_induct (P := h.WindsDown) (fun _ _ ht e => e.settleStep f ht) _ _ e
  have hidle : (h.settleFor Config.settleFuel).syncIdle = h.settleFor Config.settleFuel :=
    State.syncIdle_of_no_turn (key.turn.trans f.turn)
  have hidu := key.idu
  rw [State.settle, hidle]
  generalize h.settleFor Config.settleFuel = v at key hidu ⊢
  refine ⟨v.seq, v.amg, v.syncQuiet.idu.quiet, ?_, key.demand, key.queued⟩
  rw [← hidu]
  exact congrArg (fun u : State => { u with idu := { v.idu with quiet := v.syncQuiet.idu.quiet } }) key.frame

end State.WindsDown

/-! ### What a turn end changes -/

section TurnEnd

variable {s : State} {t : Turn} {c : TurnEndCause}

theorem Table.write_twice {n : Nat} {α : Type} (t : Table n α) (i : Fin n) (a b : α) :
    (t.write i a).write i b = t.write i b := by
  refine Table.ext fun v => ?_
  rw [Table.read_write, Table.read_write, Table.read_write]
  split <;> rfl

theorem State.endTurnTx_msr (s : State) : s.endTurnTx.msr = s.msr := by
  unfold State.endTurnTx State.normalEnd State.leaveExciting State.abandonArming State.disarm
  split
  · split
    · cases s.seq.tx with
      | none => rfl
      | some x => rfl
    · split
      · split <;> rfl
      · rfl
  · rfl

/-- Outside a pause, of SEQ, KTL and IDU a turn end changes no more than what is named here, beyond the end of its
transmission. -/
theorem State.turnEnd_frame (ht : s.turn = some t) (hp : t.sub ≠ .paused) : ∃ x, s.turnEnd c =
    { s.endTurnTx.forgetTurn.flushKeys with
      arb := (s.turnEnd c).arb, acu := (s.turnEnd c).acu, lnk := (s.turnEnd c).lnk
      idu := { s.endTurnTx.idu with claim := .none, deadlineRuns := false, context := x } } := by
  have hto : (decide (t.sub = .paused) && s.ready) = false := by simp [hp]
  have hleave (b : Bool) (u : State) : ∃ a, u.leaveHolding t b = { u with arb := a } := by
    cases b <;> exact ⟨_, rfl⟩
  have hwrite (r : TurnRec) (u : State) : ∃ a, u.writeRecord r = { u with acu := a } := by
    unfold State.writeRecord
    split <;> exact ⟨_, rfl⟩
  unfold State.turnEnd
  simp only [ht, hto]
  generalize s.endTurnTx.forgetTurn.flushKeys.memberRecord t c = r
  obtain ⟨a, ha⟩ := hwrite r s.endTurnTx.forgetTurn.flushKeys
  rw [ha]
  generalize hv : State.moveCycle false _ = v
  obtain ⟨b, hb⟩ := hleave (decide (t.mode = .standing) && requeues c) v
  rw [hb, ← hv]
  exact ⟨_, rfl⟩

/-- The turn is the newest record after its end. -/
theorem State.turnEnd_newest (ht : s.turn = some t) (hn : s.acu.number < max32) :
    (s.turnEnd c).acu.records.getLast? = some { s.memberRecord t c with number := s.acu.number + 1 } := by
  have hacu : s.endTurnTx.forgetTurn.flushKeys.acu = s.acu := s.endTurnTx_acu
  have hrecord : s.endTurnTx.forgetTurn.flushKeys.memberRecord t c = s.memberRecord t c := by
    have e := (State.Evolves.refl s).endTurnTx
    have hclt : s.endTurnTx.forgetTurn.flushKeys.clt = s.clt := e.clt
    have hsec : s.endTurnTx.forgetTurn.flushKeys.seconds = s.seconds := congrArg (·.time.2.1) e.fixed
    simp only [State.memberRecord, State.identity, hclt, hsec]
  have hnewest := State.writeRecord_newest (s := s.endTurnTx.forgetTurn.flushKeys)
    (s.endTurnTx.forgetTurn.flushKeys.memberRecord t c) (by rw [hacu]; exact hn.ne)
  rw [hacu, hrecord] at hnewest
  simp only [State.turnEnd, ht, State.leaveHolding_acu, State.moveCycle_acu, State.afterTurn_acu, State.raise_acu,
    hrecord, hnewest]

theorem State.endTurnTx_station (s : State) : s.endTurnTx.prt.station = s.prt.station := by
  unfold State.endTurnTx State.normalEnd State.leaveExciting State.abandonArming State.disarm
  split
  · split
    · cases s.seq.tx with
      | none => rfl
      | some x => rfl
    · split
      · split <;> rfl
      · rfl
  · rfl

/-- A turn that is not PAUSED ends, and nothing else comes about at once where no identification is pending. -/
theorem State.turnEnd_ends (ht : s.turn = some t) (hc : startsGap c = true) (hp : t.sub ≠ .paused)
    (hset : s.settled) (hgap : s.arb.turnGap ≠ 0) (hdue : s.idu.due = false) (hidle : s.idu.cycle = .idle)
    (hstarts : s.idu.startWaits = false) :
    s.turnEndedAs (s.turnEnd c).settle t c (decide (t.mode = .standing) && requeues c) := by
  have hpaused : (decide (t.sub = .paused) && s.ready) = false := by simp [hp]
  have harb := State.turnEnd_arb c ht
  rw [hpaused, hc] at harb
  have hseq := State.turnEnd_seq c ht hpaused
  obtain ⟨due, cycle, starts⟩ := State.turnEnd_idu (k := c) ht hp
  have hz : zeroLength (s.turnEnd c).arb.gap = false := by simp [harb, zeroLength, hgap]
  have free : (s.turnEnd c).Unclaimed :=
    ⟨State.turn_turnEnd .., hz, due.trans hdue, cycle.trans hidle, starts.trans hstarts⟩
  have hdown : (s.turnEnd c).WindsDown (s.turnEnd c) :=
    ⟨rfl, rfl, by rw [hseq]; rfl, by rw [hseq]; exact State.endTurnTx_down (State.settled_iff.mp hset).1.2.2⟩
  obtain ⟨q, a, i, hsettle, hdemand, hqueued⟩ := hdown.settle free
  obtain ⟨x, hframe⟩ := State.turnEnd_frame (c := c) ht hp
  have hfixed := (((State.Evolves.refl s).turnEnd c).settle).fixed
  have hraised := State.raised_turnEnded (c := c) ht (.refl s.lnk) (by omega)
    ((State.Evolves.refl (s.turnEnd c)).settle.link)
  have hktl : (s.turnEnd c).ktl = s.endTurnTx.forgetTurn.flushKeys.ktl := by rw [hframe]
  have hmsr : (s.turnEnd c).msr = s.msr := by rw [hframe]; exact s.endTurnTx_msr
  have hprt : (s.turnEnd c).prt.station = s.prt.station := by rw [hframe]; exact s.endTurnTx_station
  rw [hsettle] at hfixed hraised ⊢
  refine ⟨harb, fun hn => ?_, hraised, by simp only [hktl]; rfl, by simp only [hktl]; rfl, by simp only [hktl]; rfl,
    ?_, hqueued, hmsr, hprt, hfixed⟩
  · exact State.turnEnd_newest ht hn
  · simp only [hdemand, hseq]
    rfl

/-- So it does after a lost presence, which stops the presence timer first. -/
theorem State.presenceLost_ends (ht : s.turn = some t) (hp : t.sub ≠ .paused) (hset : s.settled)
    (hgap : s.arb.turnGap ≠ 0) (hdue : s.idu.due = false) (hidle : s.idu.cycle = .idle)
    (hstarts : s.idu.startWaits = false) :
    s.turnEndedAs (s.presenceLost t.holder).settle t .presenceLost false := by
  have hholds : (s.stopPresence t.holder).holdsTurn t.holder = true :=
    decide_eq_true (State.holder_of_turn ht)
  have hact : s.presenceLost t.holder = (s.stopPresence t.holder).turnEnd .presenceLost := by
    unfold State.presenceLost
    dsimp only
    rw [hholds]
    rfl
  have hset' : (s.stopPresence t.holder).settled :=
    (State.settled_congr (s := s) (t := s.stopPresence t.holder) rfl rfl rfl rfl rfl).mpr hset
  have key := State.turnEnd_ends (s := s.stopPresence t.holder) (t := t) (c := .presenceLost) ht rfl hp hset' hgap hdue
    hidle hstarts
  rw [show (decide (t.mode = .standing) && requeues .presenceLost) = false from Bool.and_false _] at key
  rw [hact]
  generalize ((s.stopPresence t.holder).turnEnd .presenceLost).settle = v at key ⊢
  obtain ⟨harb, hrest⟩ := key
  refine ⟨harb.trans ?_, hrest⟩
  have htwice : (s.arb.presence.write t.holder none).write t.holder none = s.arb.presence.write t.holder none :=
    Table.write_twice ..
  simp only [State.stopPresence, Bool.false_eq_true, if_false, htwice]

/-- The reply takes nothing of it back. -/
theorem State.turnEndedAs.reply_done {kind tag : Nat} {h u : State} {t : Turn} {b : Bool} (e : h.turnEndedAs u t c b) :
    h.turnEndedAs ((done u).reply kind tag) t c b := by
  obtain ⟨harb, hrecord, hraised, hrest⟩ := e
  exact ⟨harb, hrecord, (Handled.raised_reply _ _ _ _ _).mpr hraised, hrest⟩

/-- A PAUSED turn that ends on a READY station leaves its running identification to an ID turn, which goes on (R38). -/
theorem State.turnEnd_hands_over (ht : s.turn = some t) (hp : t.sub = .paused) (hr : s.prt.station = .ready)
    (hcycle : s.idu.cycle = .starting ∨ s.idu.cycle = .sending) (hm : s.memberTx = false) (hset : s.settled)
    (hgap : s.arb.turnGap ≠ 0) (hc : startsGap c = true) :
    let u := (s.turnEnd c).settle
    u.arb.arbiter = .idTurn ∧ u.arb.gap = some ⟨s.clock, s.arb.turnGap⟩ ∧ u.idu.cycle = s.idu.cycle ∧
      u.idu.claim = .none ∧
      (∀ y ∈ s.idu.context, y.home = .memberTurn → (u.idu.context.map (·.home)) = some .idTurn) ∧
      u.seq.state = s.seq.state := by
  have hready : (decide (t.sub = .paused) && s.ready) = true := by simp [hp, State.ready, hr]
  have harb := State.turnEnd_arb c ht
  rw [hready, hc] at harb
  have hidle : s.idu.cycle ≠ .idle := by rcases hcycle with e | e <;> rw [e] <;> nofun
  have hend : s.endTurnTx = s := by simp [State.endTurnTx, hm]
  have hseq : (s.turnEnd c).seq = s.forgetTurn.seq := by
    simp only [State.turnEnd, ht, hend, State.leaveHolding_seq]
    rw [State.moveCycle_seq_of_cycle (by simpa [State.forgetTurn] using hidle)]
    simp
  have hidu : (s.turnEnd c).idu = { s.idu with
      claim := .none, deadlineRuns := false
      context := s.idu.context.map fun y => if y.home = .memberTurn then { y with home := .idTurn } else y } := by
    simp only [State.turnEnd, ht, hend, State.leaveHolding_idu, hready]
    simp [State.moveCycle, State.forgetTurn, hidle]
  have hnone : (s.turnEnd c).settleStep = none := by
    rw [State.settleStep_eq_none]
    refine ⟨by simp [State.idTurnOpen, harb], by simp [harb, zeroLength, hgap], ?_⟩
    rw [hseq]
    exact (State.settled_iff.mp hset).1.2.2
  have hsettle : (s.turnEnd c).settle = (s.turnEnd c).syncQuiet := by
    rw [State.settle, State.settleFor_of_none hnone, State.syncIdle_of_no_turn (State.turn_turnEnd ..)]
  intro u
  have hu : u.arb = (s.turnEnd c).arb ∧ u.seq = (s.turnEnd c).seq ∧
      u.idu = { (s.turnEnd c).idu with quiet := u.idu.quiet } := by
    rw [show u = _ from hsettle]
    exact ⟨rfl, rfl, rfl⟩
  obtain ⟨uarb, useq, uidu⟩ := hu
  refine ⟨by rw [uarb, harb]; rfl, by rw [uarb, harb]; rfl, by rw [uidu, hidu], by rw [uidu, hidu], fun y hy hhome => ?_,
    by rw [useq, hseq]; rfl⟩
  rw [uidu, hidu]
  simp [Option.mem_def.mp hy, hhome]

end TurnEnd

/-! ### What ends turns (R21, R22, R33, R34, R42) -/

section Requests

variable {s : State} {tag : Nat} {w : SlotId} {t : Turn}

@[simp] theorem State.heard_turnGap (a : Actor) (s : State) : (s.heard a).arb.turnGap = s.arb.turnGap := by
  obtain ⟨p, h⟩ := s.heard_eq a
  rw [h]

theorem exec_release (hc : s.closed = false) (hn : s.tenthsDue = 0) (hv : s.tenancy w ≠ .vacant) :
    exec (.release tag w.val) s = .next ((State.release w (s.heard (.slot w))).reply 0x22 tag) :=
  congrArg Host.Outcome.next (State.takeOwn_taken hc hn hv)

theorem exec_endTurn {actor : Nat} {a : Actor} (ht : s.takes .controlSlot actor a) (n : Nat) :
    exec (.endTurn tag actor n) s = .next ((State.endTurn n (s.heard a)).reply 0x31 tag) :=
  congrArg Host.Outcome.next (State.takeControl_taken ht)

theorem State.release_of_holder (h : s.holder = some w) : s.release w = done (s.turnEnd .released).settle :=
  if_pos (decide_eq_true h)

theorem State.release_of_other (h : s.holder ≠ some w) : s.release w = refuse .wrongState s := by
  rw [State.release, State.holdsTurn, decide_eq_false h]
  rfl

theorem State.endTurn_of_holder (h : s.holder = some w) : s.endTurn w.val = done (s.turnEnd .endedByControl).settle := by
  simp only [State.endTurn, indexOf_val]
  exact if_pos (decide_eq_true h)

theorem State.endTurn_of_other (h : s.holder ≠ some w) : s.endTurn w.val = refuse .wrongState s := by
  simp only [State.endTurn, indexOf_val, State.holdsTurn, decide_eq_false h]
  rfl

theorem State.turnTimer_eq (ht : s.turn = some t) :
    s.turnTimer = some ⟨t.grantClock, (s.classOf t.holder).turnLimit * 60000⟩ := by
  rw [State.turnTimer, ht]
  rfl

theorem State.idleTimer_eq {i : Clock} (ht : s.turn = some t) (hi : t.idleStart = some i) :
    s.idleTimer = some ⟨i, (s.classOf t.holder).idleHang * 1000⟩ := by
  rw [State.idleTimer, ht]
  simp only [hi]
  rfl

@[simp] theorem State.classOf_bringTo (n : Clock) (w : SlotId) (s : State) : (s.bringTo n).classOf w = s.classOf w := by
  simp [State.classOf, State.identity]

end Requests

/-- Settles O44. -/
theorem turnsEndAsTheRulesSay : Obligations.TurnsEndAsTheRulesSay := by
  refine ⟨fun tag w tn s => ?_, fun tag actor a w tn s => ?_, fun tn s => ?_, fun tn i s => ?_, fun tn tm s => ?_,
    fun tag w s => ?_, fun tag actor a w s => ?_, fun tag actor a tn s => ?_⟩
  · intro h hc hn hv ht hw hset hgap hdue hidle hstarts hp
    have hh : h.turn = some tn := by simpa [h] using ht
    have key := State.turnEnd_ends (c := .released) hh rfl hp (State.settled_heard _ hset) (by simpa [h] using hgap)
      (by simpa [h] using hdue) (by simpa [h] using hidle) (by simpa [h] using hstarts)
    rw [show (decide (tn.mode = .standing) && requeues .released) = decide (tn.mode = .standing) from Bool.and_true _] at key
    refine ⟨_, exec_release hc hn hv, ?_⟩
    rw [State.release_of_holder (s := h) (by rw [State.holder_of_turn hh, hw])]
    exact ⟨key.reply_done, Handled.replied _ _ _ nofun⟩
  · intro h ht htn hw hset hgap hdue hidle hstarts hp
    have hh : h.turn = some tn := by simpa [h] using htn
    have key := State.turnEnd_ends (c := .endedByControl) hh rfl hp (State.settled_heard _ hset)
      (by simpa [h] using hgap) (by simpa [h] using hdue) (by simpa [h] using hidle) (by simpa [h] using hstarts)
    rw [show (decide (tn.mode = .standing) && requeues .endedByControl) = decide (tn.mode = .standing) from
      Bool.and_true _] at key
    refine ⟨_, exec_endTurn ht w.val, ?_⟩
    rw [State.endTurn_of_holder (s := h) (by rw [State.holder_of_turn hh, hw])]
    exact ⟨key.reply_done, Handled.replied _ _ _ nofun⟩
  · intro h hr ht hset hgap hdue hidle hstarts hp hn
    have hh : h.turn = some tn := by simpa [h] using ht
    have key := State.turnEnd_ends (c := .turnLimit) hh rfl hp (State.settled_bringTo _ hset) (by simpa [h] using hgap)
      (by simpa [h] using hdue) (by simpa [h] using hidle) (by simpa [h] using hstarts)
    rw [show (decide (tn.mode = .standing) && requeues .turnLimit) = decide (tn.mode = .standing) from
      Bool.and_true _] at key
    refine ⟨_, congrArg Host.Outcome.next (State.onExpirySettled_taken hr (State.turnTimer_eq ht) hn ?_), key⟩
    rw [State.turnTimer_eq (s := s.bringTo _) (by simpa using ht), State.classOf_bringTo]
  · intro h hr ht hi hset hgap hdue hidle hstarts hp hn
    have hh : h.turn = some tn := by simpa [h] using ht
    have key := State.turnEnd_ends (c := .idle) hh rfl hp (State.settled_bringTo _ hset) (by simpa [h] using hgap)
      (by simpa [h] using hdue) (by simpa [h] using hidle) (by simpa [h] using hstarts)
    rw [show (decide (tn.mode = .standing) && requeues .idle) = decide (tn.mode = .standing) from
      Bool.and_true _] at key
    refine ⟨_, congrArg Host.Outcome.next (State.onExpirySettled_taken hr (State.idleTimer_eq ht hi) hn ?_), key⟩
    rw [State.idleTimer_eq (s := s.bringTo _) (by simpa using ht) hi, State.classOf_bringTo]
  · intro h hr ht htm hset hgap hdue hidle hstarts hp hn
    have hh : h.turn = some tn := by simpa [h] using ht
    have key := State.presenceLost_ends hh hp (State.settled_bringTo _ hset) (by simpa [h] using hgap)
      (by simpa [h] using hdue) (by simpa [h] using hidle) (by simpa [h] using hstarts)
    exact ⟨_, congrArg Host.Outcome.next (State.onExpirySettled_taken hr htm hn (by rw [State.bringTo_arb, htm])), key⟩
  · intro h hc hn hv hh
    rw [exec_release hc hn hv, State.release_of_other (s := h) (by simpa [h] using hh)]
    rfl
  · intro h ht hh
    rw [exec_endTurn ht, State.endTurn_of_other (s := h) (by simpa [h] using hh)]
    rfl
  · intro h ht htn hp hr hcycle hm hset hgap hstarts
    have hh : h.turn = some tn := by simpa [h] using htn
    have key := State.turnEnd_hands_over (c := .endedByControl) hh hp (by simpa [h] using hr) (by simpa [h] using hcycle)
      (by simpa [h, State.memberTx] using hm) (State.settled_heard _ hset) (by simpa [h] using hgap) rfl
    obtain ⟨harb, hrun, hcy, hclaim, hctx, hseq⟩ := key
    have hraised := State.raised_turnEnded (c := .endedByControl) hh (.refl h.lnk) (by omega)
      ((State.Evolves.refl (h.turnEnd .endedByControl)).settle.link)
    rw [show (decide (tn.mode = .standing) && requeues .endedByControl) = decide (tn.mode = .standing) from
      Bool.and_true _] at hraised
    refine ⟨_, exec_endTurn ht tn.holder.val, ?_⟩
    rw [State.endTurn_of_holder (s := h) (State.holder_of_turn hh)]
    exact ⟨harb, hrun, hcy, hclaim, hctx, hseq, (Handled.raised_reply _ _ _ _ _).mpr hraised⟩

end Sys2Proof.Machine
end

section
/-! Out of READY: what the entries of KILLED and TRIPPED and Decommission leave, and that settling starts nothing
there (R142 to R144, R149). -/

namespace Sys2Proof.Machine

set_option Elab.async false

/-! ### What goes on out of READY -/

/-- ARB is FREE with no gap, nothing is asked of SEQ, KTL is empty and the foldback at rest. -/
def State.Resting (s : State) : Prop :=
  s.arb.arbiter = .free ∧ s.arb.gap = none ∧ s.seq.queuedRetune = none ∧ s.ktl.timeline = [] ∧ s.ktl.state = .up ∧
    s.ktl.burst = none ∧ s.msr.factor = 256 ∧ s.msr.reported = false

theorem State.Resting.flushTurnKeys {s : State} (r : s.Resting) : s.flushTurnKeys.Resting := by
  obtain ⟨ha, hg, hq, -, -, -, hf⟩ := r
  exact ⟨ha, hg, hq, rfl, rfl, rfl, hf⟩

/-- From `h` to `s` the station state, the fault kinds, the tenancies, the ranks and the holder stayed, no PTT demand
arose, and a part at rest is at rest. -/
structure State.Persists (h s : State) : Prop where
  prt : { s.prt with faults := h.prt.faults } = h.prt
  faults : s.prt.faults.map (fun r => (r.kind, r.last)) = h.prt.faults.map fun r => (r.kind, r.last)
  slots : s.arb.slots = h.arb.slots
  ranks : s.arb.ranks = h.arb.ranks
  holder : s.holder = h.holder
  demand : s.seq.pttDemand = true → h.seq.pttDemand = true
  resting : h.Resting → s.Resting

/-- So they did, out of READY, with SEQ neither arming nor on the air at the end. -/
structure State.Halts (h s : State) : Prop extends State.Persists h s where
  ready : s.ready = false
  calm : s.seq.state.calm = true

section OutOfReady

variable {s : State} (hr : s.ready = false)
include hr

theorem State.claimPause_out : s.claimPause =
    let u := (s.modTurn fun t => { t with sub := .paused, idleStart := none }).flushTurnKeys
    { u with idu := { u.idu with claim := .holdingPause, deadlineRuns := false } } := by
  have hu : (s.modTurn fun t => { t with sub := .paused, idleStart := none }).ready = false := by
    rw [State.ready, (State.modTurn_frame _ s).1]
    exact hr
  unfold State.claimPause
  dsimp only
  rw [if_neg]
  exact fun c => absurd (hu.symm.trans c.1) nofun

theorem State.takePending_out : s.takePending = s := by
  unfold State.takePending
  split
  · simp [hr]
  · rfl

theorem State.arbitrate_out : s.arbitrate = s.setArbiter .free := by
  simp [State.arbitrate, hr]

end OutOfReady

namespace State.Persists

variable {h s t : State}

theorem refl (s : State) : s.Persists s := ⟨rfl, rfl, rfl, rfl, rfl, id, id⟩

theorem same (e : h.Persists s) (hp : t.prt = s.prt := by rfl) (hs : t.arb.slots = s.arb.slots := by rfl)
    (hr : t.arb.ranks = s.arb.ranks := by rfl) (hh : t.holder = s.holder := by rfl)
    (hd : t.seq.pttDemand = true → s.seq.pttDemand = true := by exact id) (hx : s.Resting → t.Resting := by exact id) :
    h.Persists t :=
  ⟨by rw [hp, e.prt], by rw [hp, e.faults], hs.trans e.slots, hr.trans e.ranks, hh.trans e.holder, e.demand ∘ hd,
    hx ∘ e.resting⟩

theorem trans (a : h.Persists s) (b : s.Persists t) : h.Persists t :=
  ⟨(congrArg (fun p : Prt => { p with faults := h.prt.faults }) b.prt).trans a.prt, b.faults.trans a.faults,
    b.slots.trans a.slots, b.ranks.trans a.ranks, b.holder.trans a.holder, a.demand ∘ b.demand, b.resting ∘ a.resting⟩

theorem ite {c : Prop} [Decidable c] {a b : State} (ha : h.Persists a) (hb : h.Persists b) :
    h.Persists (if c then a else b) := by split <;> assumption

theorem station (e : h.Persists s) : s.prt.station = h.prt.station := congrArg (·.station) e.prt

theorem ready (e : h.Persists s) : s.ready = h.ready := by rw [State.ready, e.station]; rfl

theorem tenancy (e : h.Persists s) (w : SlotId) : s.tenancy w = h.tenancy w := by rw [State.tenancy, e.slots]; rfl

theorem oneHolder (e : h.Persists s) (ho : h.oneHolder) : s.oneHolder := fun w => by
  rw [e.tenancy, e.holder]
  exact ho w

theorem modTurn (e : h.Persists s) (f : Turn → Turn) (hf : ∀ t, (f t).holder = t.holder := by exact fun _ => rfl) :
    h.Persists (s.modTurn f) := by
  have hrest (hs : s.Resting) : s.modTurn f = s := State.modTurn_of_none f (by simp [State.turn, hs.1])
  refine e.same ?_ ?_ ?_ (State.holder_modTurn hf s) ?_ fun hs => by rwa [hrest hs]
  all_goals rw [(s.modTurn_frame f).1]
  · rfl
  · rfl
  · rfl
  · exact id

theorem disarm (e : h.Persists s) : h.Persists s.disarm := .ite e.same e.same

theorem flushTurnKeys (e : h.Persists s) : h.Persists s.flushTurnKeys := e.same (hx := State.Resting.flushTurnKeys)

theorem cutFlush (e : h.Persists s) (c : CutCause) : h.Persists (s.cutFlush c) := by
  unfold State.cutFlush; split
  · exact .ite e.flushTurnKeys e
  · exact e

theorem leaveExciting (e : h.Persists s) (c : TxEndCause) (q : SeqState) : h.Persists (s.leaveExciting c q) := by
  have hfaults : (clearPresent .swrTrip s.prt.faults).map (fun r => (r.kind, r.last)) =
      s.prt.faults.map fun r => (r.kind, r.last) := by
    rw [clearPresent, List.map_map]
    exact List.map_congr_left fun r _ => by dsimp only [Function.comp]; split <;> rfl
  unfold State.leaveExciting; split
  · exact e
  · exact ⟨e.prt, hfaults.trans e.faults, e.slots, e.ranks, e.holder,
      fun c => e.demand (Bool.and_eq_true_iff.mp c).1, e.resting⟩

/-- Out of READY a pause begins no cycle. -/
theorem claimPause (e : h.Persists s) (hr : s.ready = false) : h.Persists s.claimPause := by
  rw [State.claimPause_out hr]
  exact (e.modTurn fun t => { t with sub := .paused, idleStart := none }).flushTurnKeys.same

/-- What ARB and IDU are told of an end that neither completes an over nor loses the amplifier. -/
theorem tellExit (e : h.Persists s) (hr : s.ready = false) {c : TxEndCause} (left : Bool) (hc : completesOver c = false)
    (ha : c ≠ .ampDrop) : h.Persists (s.tellExit c left) := by
  simp only [State.tellExit, hc, ha, Bool.and_false, Bool.false_and, Bool.false_eq_true, and_false, if_false]
  exact .ite (.ite (e.claimPause hr) e) e

/-- The cut, but for a lost amplifier, whose identification would begin afresh. -/
theorem cut (e : h.Persists s) (hr : s.ready = false) {c : CutCause} (ha : c ≠ .ampDrop) : h.Persists (s.cut c) := by
  have hc : completesOver (cutEnd c) = false := by cases c <;> rfl
  have ha' : cutEnd c ≠ .ampDrop := by
    cases c with
    | ampDrop => exact absurd rfl ha
    | fault | held | kill | decommission => nofun
  have tell {u : State} (left : Bool) (f : h.Persists u) : h.Persists (u.tellExit (cutEnd c) left) :=
    f.tellExit (f.ready.trans (e.ready.symm.trans hr)) left hc ha'
  have abandon {u : State} (f : h.Persists u) : h.Persists (u.abandonArming (cutEnd c)) :=
    .disarm (f.same (hd := fun d => (Bool.and_eq_true_iff.mp d).1))
  have e := State.Persists.cutFlush (s := { s.clearPending with seq := { s.clearPending.seq with pttDemand := false } })
    ((e.modTurn fun t => { t with pendingStart := false }).same (hd := nofun)) c
  unfold State.cut
  dsimp only
  generalize State.cutFlush c _ = u at e
  split
  · exact e
  · exact e
  · exact e
  · exact e
  · exact tell _ (abandon e)
  · exact tell _ (abandon e)
  · exact tell _ (e.leaveExciting _ _).disarm
  · exact e.disarm

end State.Persists

namespace State.Halts

variable {h s t : State}

theorem same (e : h.Halts s) (hp : t.prt = s.prt := by rfl) (hs : t.arb.slots = s.arb.slots := by rfl)
    (hr : t.arb.ranks = s.arb.ranks := by rfl) (hh : t.holder = s.holder := by rfl)
    (hq : t.seq.state = s.seq.state := by rfl) (hd : t.seq.pttDemand = true → s.seq.pttDemand = true := by exact id)
    (hx : s.Resting → t.Resting := by exact id) : h.Halts t :=
  ⟨e.toPersists.same hp hs hr hh hd hx, by rw [State.ready, hp]; exact e.ready, by rw [hq]; exact e.calm⟩

/-- SEQ goes on to a calm state. -/
theorem onward (e : h.Halts s) (hq : t.seq.state.calm = true) (hp : t.prt = s.prt := by rfl)
    (hs : t.arb.slots = s.arb.slots := by rfl) (hr : t.arb.ranks = s.arb.ranks := by rfl)
    (hh : t.holder = s.holder := by rfl) (hd : t.seq.pttDemand = true → s.seq.pttDemand = true := by exact id)
    (hx : s.Resting → t.Resting := by exact id) : h.Halts t :=
  ⟨e.toPersists.same hp hs hr hh hd hx, by rw [State.ready, hp]; exact e.ready, hq⟩

theorem ite {c : Prop} [Decidable c] {a b : State} (ha : h.Halts a) (hb : h.Halts b) :
    h.Halts (if c then a else b) := by split <;> assumption

theorem cut (hr : h.ready = false) {c : CutCause} (ha : c ≠ .ampDrop) : h.Halts (h.cut c) :=
  have e := (State.Persists.refl h).cut hr ha
  ⟨e, e.ready.trans hr, h.cut_calm c⟩

theorem modTurn (e : h.Halts s) (f : Turn → Turn) (hf : ∀ t, (f t).holder = t.holder := by exact fun _ => rfl) :
    h.Halts (s.modTurn f) :=
  have p := e.toPersists.modTurn f hf
  ⟨p, p.ready.trans (e.toPersists.ready.symm.trans e.ready), by simpa using e.calm⟩

theorem setFree (e : h.Halts s) (ht : s.turn = none) : h.Halts (s.setArbiter .free) :=
  e.same (hh := by simp [State.holder, ht]) (hx := fun r => ⟨rfl, r.2⟩)

theorem setGap (e : h.Halts s) (ha : s.arb.arbiter = .idTurn) : h.Halts (s.setArbiter .gap) :=
  e.same (hh := by simp [State.holder, show s.turn = none by simp [State.turn, ha]]) (hx := fun r => absurd (ha.symm.trans r.1) nofun)

theorem stopGap (e : h.Halts s) : h.Halts s.stopGap := e.same (hx := fun r => ⟨r.1, rfl, r.2.2⟩)

theorem flushTurnKeys (e : h.Halts s) : h.Halts s.flushTurnKeys := e.same (hx := State.Resting.flushTurnKeys)

theorem writeRecord (e : h.Halts s) (r : TurnRec) : h.Halts (s.writeRecord r) := .ite e e.same

theorem claimPause (e : h.Halts s) : h.Halts s.claimPause := by
  rw [State.claimPause_out e.ready]
  exact (e.modTurn fun t => { t with sub := .paused, idleStart := none }).flushTurnKeys.same

theorem enterActive (e : h.Halts s) : h.Halts s.enterActive := by
  have e : h.Halts (s.modTurn fun t => { t with sub := .active }).syncKey :=
    (e.modTurn fun t => { t with sub := .active }).same
  refine .ite e.claimPause ?_
  rw [State.takePending_out e.ready]
  exact e

theorem arbitrate (e : h.Halts s) (ht : s.turn = none) : h.Halts s.arbitrate := by
  rw [State.arbitrate_out e.ready]
  exact e.setFree ht

theorem abandonCycle (e : h.Halts s) : h.Halts s.abandonCycle := by
  unfold State.abandonCycle; split
  · exact (e.writeRecord _).same
  · exact e

theorem idTurnOver (e : h.Halts s) : h.Halts s.idTurnOver := by
  by_cases ha : s.arb.arbiter = .idTurn
  · have ht : s.turn = none := by simp [State.turn, ha]
    simp only [State.idTurnOver, ha, e.ready, ne_eq, not_true, if_false, Bool.false_eq_true]
    exact .ite (e.setFree ht) (e.setGap ha)
  · rw [State.idTurnOver, if_pos ha]
    exact e

theorem stationAbandons (e : h.Halts s) : h.Halts s.stationAbandons :=
  .ite (.ite e.abandonCycle.idTurnOver e.abandonCycle) e

theorem closeCycle (e : h.Halts s) (n : Nat) : h.Halts (s.closeCycle n) := by
  unfold State.closeCycle; split
  · rename_i c _ _
    have e := e.writeRecord (s.idRecord c n .complete)
    dsimp only
    split
    · exact .enterActive e.same
    · exact .idTurnOver e.same
    · exact e.same
  · exact e

/-- In QUIET, out of READY, only a queued retune is taken up. -/
theorem takeUp (e : h.Halts s) : h.Halts s.takeUp := by
  unfold State.takeUp; split
  · rename_i hq
    exact e.onward rfl (hx := fun r => absurd (hq.symm.trans r.2.2.1) nofun)
  · rw [if_neg fun c => absurd (c.2.symm.trans e.ready) nofun, State.takePending_out e.ready]
    exact e

theorem enterQuiet (e : h.Halts s) : h.Halts s.enterQuiet := by
  have e : h.Halts s.overAndOut := e.same
  have e := e.closeCycle s.txAirTime
  have e : h.Halts (s.overAndOut.closeCycle s.txAirTime).swapProfile := .ite e.same e
  have e : h.Halts (s.overAndOut.closeCycle s.txAirTime).swapProfile.quieted :=
    .ite (e.onward rfl) (e.onward rfl)
  rw [State.enterQuiet_eq]
  exact e.takeUp

theorem settleBand (e : h.Halts s) : h.Halts s.settleBand := by
  unfold State.settleBand
  dsimp only
  generalize hq : State.enterQuiet _ = q
  have e : h.Halts q := by rw [← hq]; exact State.Halts.enterQuiet e.same
  cases s.seq.retuneBand with
  | none => exact .ite e.enterActive e
  | some b => exact .ite (.enterActive e.same) e.same

/-- Out of READY a calm SEQ goes on without arming. -/
theorem advance (e : h.Halts s) : h.Halts s.advance := by
  have hcalm := e.calm
  unfold State.advance
  split <;> rename_i hs <;> rw [hs] at hcalm
  · exact e.settleBand
  · cases hcalm
  · cases hcalm
  · exact e.onward rfl
  · exact e.onward rfl
  · exact .enterQuiet (e.modTurn _ fun t => by split <;> rfl)
  · exact e
  · exact e

theorem settleStep (e : h.Halts s) (ht : s.settleStep = some t) : h.Halts t := by
  rcases State.settleStep_cases ht with ⟨-, hopen, -⟩ | ⟨-, rfl⟩ | ⟨-, rfl⟩
  · simp [State.idTurnOpen, e.ready] at hopen
  · unfold State.gapExpires
    split
    · exact e.stopGap.arbitrate (by rename_i ha; simp [State.turn, State.stopGap, ha])
    · exact e.stopGap
  · exact .advance e.same

theorem settle (e : h.Halts s) : h.Halts s.settle :=
  State.settle_induct (fun _ _ ht e => e.settleStep ht) (fun _ e => e.modTurn _) (fun _ e => e.same) e

end State.Halts

/-! ### The turn ends, and requests are flushed (R35, R44) -/

/-- Out of READY, with SEQ calm, a turn end leaves PRT and SEQ's state. -/
theorem State.turnEnd_out {s : State} (c : TurnEndCause) (hr : s.ready = false) (hcalm : s.seq.state.calm = true) :
    (s.turnEnd c).prt = s.prt ∧ (s.turnEnd c).seq.state = s.seq.state ∧ (s.turnEnd c).arb.ranks = s.arb.ranks ∧
      ((s.turnEnd c).seq.pttDemand = true → s.seq.pttDemand = true) := by
  cases ht : s.turn with
  | none => simp [State.turnEnd, ht]
  | some t =>
    have hover : s.endTurnTx = s := State.endTurnTx_of_over (fun h => by rw [h] at hcalm; cases hcalm)
      (by cases h : s.seq.state <;> simp_all [State.arming, SeqState.calm])
    have hseq := State.turnEnd_seq c ht (by rw [hr, Bool.and_false])
    rw [hover] at hseq
    refine ⟨by rw [State.turnEnd_prt c ht, hover], by rw [hseq]; rfl, by rw [State.turnEnd_arb c ht], fun hd => ?_⟩
    rw [hseq] at hd
    cases hd

/-- What a flush leaves of a tenancy. -/
def Tenancy.flushed : Tenancy → Tenancy
  | .waiting _ => .opened
  | x => x

theorem Tenancy.flushed_flushed (x : Tenancy) : x.flushed.flushed = x.flushed := by cases x <;> rfl

theorem Tenancy.flushed_of_not_holding {x : Tenancy} (h : x ≠ .holding) :
    x.flushed = if x = .vacant then .vacant else .opened := by
  cases x with
  | holding => exact absurd rfl h
  | vacant => rfl
  | opened => rfl
  | waiting r => rfl

/-- A fold that flushes slot after slot flushes them all. -/
theorem State.tenancy_flush {f : State → SlotId → State}
    (hf : ∀ s w v, (f s w).tenancy v = if v = w then (s.tenancy v).flushed else s.tenancy v) (l : List SlotId) :
    ∀ s v, (l.foldl f s).tenancy v = if v ∈ l then (s.tenancy v).flushed else s.tenancy v := by
  induction l with
  | nil => exact fun s v => rfl
  | cons w l ih =>
    intro s v
    rw [List.foldl_cons, ih, hf]
    by_cases hv : v = w
    · subst hv
      simp [Tenancy.flushed_flushed]
    · simp [hv]

theorem State.tenancy_setTenancy (w v : SlotId) (x : Tenancy) (s : State) :
    (s.setTenancy w x).tenancy v = if v = w then x else s.tenancy v := Table.read_write ..

/-- A flush of slot `w` opens it if it waits, and otherwise does nothing. -/
theorem State.tenancy_flushOne {s u : State} {w : SlotId}
    (hwaits : ∀ r, s.tenancy w = .waiting r → ∀ v, u.tenancy v = (s.setTenancy w .opened).tenancy v)
    (helse : (∀ r, s.tenancy w ≠ .waiting r) → u = s) (v : SlotId) :
    u.tenancy v = if v = w then (s.tenancy v).flushed else s.tenancy v := by
  by_cases h : ∃ r, s.tenancy w = .waiting r
  · obtain ⟨r, hw⟩ := h
    rw [hwaits r hw, State.tenancy_setTenancy]
    split
    · rename_i hv
      rw [hv, hw]
      rfl
    · rfl
  · rw [not_exists] at h
    rw [helse h]
    split
    · rename_i hv
      rw [hv]
      cases hw : s.tenancy w with
      | waiting r => exact absurd hw (h r)
      | vacant => rfl
      | opened => rfl
      | holding => rfl
    · rfl

theorem State.tenancy_dropRequest (c : DropCause) (s : State) (w v : SlotId) :
    (s.dropRequest c w).tenancy v = if v = w then (s.tenancy v).flushed else s.tenancy v := by
  refine State.tenancy_flushOne (fun r hw v => ?_) (fun hw => ?_) v
  · simp only [State.dropRequest, hw]
    rfl
  · unfold State.dropRequest
    split
    · exact absurd ‹_› (hw _)
    · rfl

theorem State.tenancy_killFlush (s : State) (v : SlotId) : s.killFlush.tenancy v = (s.tenancy v).flushed := by
  rw [State.killFlush, State.tenancy_flush (fun s w v => State.tenancy_dropRequest .kill s w v), if_pos (mem_numbers v)]

theorem State.SlotsOnly.dropRequest {h s : State} (e : h.SlotsOnly s) (c : DropCause) (w : SlotId) :
    h.SlotsOnly (s.dropRequest c w) := by
  unfold State.dropRequest; split
  · exact ((e.setTenancy _ _).stopPresence _).raise _
  · exact e

theorem State.killFlush_slotsOnly (s : State) : s.SlotsOnly s.killFlush :=
  List.foldlRecOn _ _ (.refl s) fun _ e w _ => e.dropRequest _ w

theorem State.tenancy_quietFlush (s : State) (v : SlotId) : s.quietFlush.tenancy v = (s.tenancy v).flushed := by
  refine (State.tenancy_flush (fun s w v => ?_) (numbers 32) s v).trans (if_pos (mem_numbers v))
  refine State.tenancy_flushOne (fun r hw v => ?_) (fun hw => ?_) v
  · simp only [hw]
    rfl
  · split
    · exact absurd ‹_› (hw _)
    · rfl

theorem State.quietFlush_slotsOnly (s : State) : s.SlotsOnly s.quietFlush := by
  refine List.foldlRecOn _ _ (.refl s) fun u e w _ => ?_
  split
  · exact (e.setTenancy _ _).stopPresence _
  · exact e

/-- A turn end for good and a flush after it leave every slot OPEN that is not VACANT. -/
theorem State.tenancy_turnEnd_flushed {s : State} {c : TurnEndCause} (hc : requeues c = false) (ho : s.oneHolder)
    (w : SlotId) : ((s.turnEnd c).tenancy w).flushed = if s.tenancy w = .vacant then .vacant else .opened := by
  have hfree (hw : s.holder ≠ some w) : (s.tenancy w).flushed = if s.tenancy w = .vacant then .vacant else .opened :=
    Tenancy.flushed_of_not_holding fun h => hw ((ho w).mp h)
  cases ht : s.turn with
  | none =>
    have hend : s.turnEnd c = s := by simp [State.turnEnd, ht]
    rw [hend]
    exact hfree (by simp [State.holder, ht])
  | some t =>
    have hten : (s.turnEnd c).tenancy w = if w = t.holder then .opened else s.tenancy w := by
      rw [State.tenancy, State.turnEnd_slots c ht, hc, Bool.and_false]
      exact Table.read_write ..
    rw [hten]
    by_cases hw : w = t.holder
    · have hhold : s.tenancy w = .holding := (ho w).mpr (by rw [State.holder_of_turn ht, hw])
      rw [if_pos hw, hhold]
      rfl
    · rw [if_neg hw]
      exact hfree (by rw [State.holder_of_turn ht]; exact fun h => hw (Option.some.inj h).symm)

/-! ### Decommission (R149) -/

section Decommission

variable {s : State}

/-- The part out of service: the commissioned item is clear and the station state derived (R142, R149). -/
def State.unserved (s : State) : State :=
  { s with prt := { s.prt with
    commissioned := false, station := if s.prt.killLatch = true then .killed else .uncommissioned } }

theorem State.unserved_ready (s : State) : s.unserved.ready = false := by
  unfold State.unserved State.ready
  cases s.prt.killLatch <;> rfl

/-- Steps 1 and 2 of R149: besides, STATION_CHANGED may be raised. -/
theorem State.outOfService_cases (s : State) :
    s.outOfService = s.unserved ∨ ∃ r, s.outOfService = s.unserved.raise r := by
  have hderived : State.derived { s with prt := { s.prt with commissioned := false } } =
      if s.prt.killLatch = true then .killed else .uncommissioned := by simp [State.derived]
  unfold State.outOfService State.unserved
  dsimp only
  rw [hderived]
  by_cases h : (if s.prt.killLatch = true then StationState.killed else .uncommissioned) = s.prt.station
  · rw [if_pos h, h]
    exact .inl rfl
  · rw [if_neg h]
    exact .inr ⟨_, rfl⟩

/-- No PTT demand stands. -/
def State.undemanded (s : State) : State := { s with seq := { s.seq with pttDemand := false } }

theorem State.Persists.undemanded {h : State} (e : h.Persists s) : h.Persists s.undemanded :=
  e.same (hd := by exact fun c => Bool.noConfusion c)

/-- The cut clears the PTT demand first (R69). -/
theorem State.cut_undemanded (c : CutCause) (s : State) : s.undemanded.cut c = s.cut c := by
  have hclear : s.undemanded.clearPending = s.clearPending.undemanded := by
    have hturn : s.undemanded.turn = s.turn := rfl
    unfold State.clearPending State.modTurn
    rw [hturn]
    cases s.turn <;> rfl
  unfold State.cut
  rw [hclear]
  rfl

theorem State.Halts.dropCycle {h : State} (e : h.Halts s) : h.Halts s.dropCycle := .ite e.abandonCycle e

theorem State.Evolves.quietFlush {h : State} (e : h.Evolves s) : h.Evolves s.quietFlush := by
  refine List.foldlRecOn _ _ e fun u e w _ => ?_
  split
  · exact (e.setTenancy _ _).stopPresence _
  · exact e

theorem State.Evolves.restFoldback {h : State} (e : h.Evolves s) : h.Evolves s.restFoldback := e.same

/-- Nothing of the ended turn is left in IDU and SEQ: no cycle belongs to it, and no retune waits. -/
def State.disowned (s : State) : State :=
  { s with
    idu := { s.idu with
      claim := .none, deadlineRuns := false, context := s.idu.context.map fun c : Cycle => { c with home := .nowhere } }
    seq := { s.seq with queuedRetune := none } }

/-- Steps 5 and 6 of R149 after the turn end. -/
def State.emptied (s : State) : State := s.emptyArbiter.flushKeys.restFoldback

theorem State.emptied_eq (s : State) :
    s.emptied = (s.disowned.quietFlush.stopGap.setArbiter .free).flushKeys.restFoldback := rfl

theorem State.emptied_evolves (s : State) : s.Evolves s.emptied := by
  have e : s.Evolves s.disowned := .same (.refl s)
  rw [State.emptied_eq]
  exact (e.quietFlush.stopGap.setArbiter _).flushKeys.restFoldback

/-- What they leave. -/
structure State.Emptied (h s : State) : Prop where
  prt : s.prt = h.prt
  state : s.seq.state = h.seq.state
  demand : s.seq.pttDemand = h.seq.pttDemand
  ranks : s.arb.ranks = h.arb.ranks
  tenancy : ∀ v, s.tenancy v = (h.tenancy v).flushed
  resting : s.Resting

theorem State.emptied_leaves (s : State) : s.Emptied s.emptied := by
  have e := s.disowned.quietFlush_slotsOnly
  have hten := s.disowned.tenancy_quietFlush
  rw [State.emptied_eq]
  generalize s.disowned.quietFlush = y at e hten
  exact ⟨e.prt, congrArg (·.state) e.seq, congrArg (·.pttDemand) e.seq, congrArg (·.arb.ranks) e.eq, hten,
    rfl, rfl, congrArg (·.queuedRetune) e.seq, rfl, rfl, rfl, rfl, rfl⟩

/-- The state in which Decommission settles (R149). -/
def State.retired (s : State) : State := ((s.outOfService.cut .decommission).dropCycle.turnEnd .decommission).emptied

theorem State.decommission_eq (hc : s.prt.commissioned = true) :
    s.decommission = ⟨s.retired.settle, .ok, .decommission s.waitingCount s.holder s.cycleRuns s.retired.prt.station⟩ := by
  rw [State.decommission, if_neg (by rw [hc]; nofun)]
  rfl

theorem State.outOfService_halts (s : State) :
    s.unserved.Persists s.outOfService ∧ s.unserved.Evolves s.outOfService := by
  rcases s.outOfService_cases with h | ⟨r, h⟩
  · rw [h]
    exact ⟨.refl _, .refl _⟩
  · rw [h]
    exact ⟨.same (.refl _), .raise (.refl _) r⟩

/-- What holds where Decommission settles, and when it has. -/
structure State.Decommissioned (h s : State) : Prop where
  latch : s.prt.killLatch = h.prt.killLatch
  commissioned : s.prt.commissioned = false
  station : s.prt.station = if h.prt.killLatch = true then .killed else .uncommissioned
  calm : s.seq.state.calm = true
  demand : s.seq.pttDemand = false
  ranks : s.arb.ranks = h.arb.ranks
  tenancy : ∀ w, s.tenancy w = if h.tenancy w = .vacant then .vacant else .opened
  resting : s.Resting

theorem State.retired_decommissioned (ho : s.oneHolder) : s.Decommissioned s.retired := by
  obtain ⟨hout, -⟩ := s.outOfService_halts
  have hdrop := State.Halts.dropCycle (State.Halts.cut (h := s.outOfService.undemanded) (c := .decommission)
    (hout.ready.trans s.unserved_ready) nofun)
  rw [State.cut_undemanded] at hdrop
  have hkept := hout.undemanded.trans hdrop.toPersists
  unfold State.retired
  generalize (s.outOfService.cut .decommission).dropCycle = v at hdrop hkept
  obtain ⟨eprt, eseq, eranks, edemand⟩ := State.turnEnd_out .decommission hdrop.ready hdrop.calm
  have f := (v.turnEnd .decommission).emptied_leaves
  have hprt' := f.prt.trans eprt
  refine ⟨?_, ?_, ?_, ?_, ?_, ?_, ?_, f.resting⟩
  · rw [hprt']
    exact congrArg (·.killLatch) hkept.prt
  · rw [hprt']
    exact congrArg (·.commissioned) hkept.prt
  · rw [hprt']
    exact congrArg (·.station) hkept.prt
  · rw [f.state, eseq]
    exact hdrop.calm
  · rw [f.demand]
    refine Bool.eq_false_iff.mpr fun hd => ?_
    cases hdrop.demand (edemand hd)
  · exact f.ranks.trans (eranks.trans hkept.ranks)
  · intro w
    rw [f.tenancy, State.tenancy_turnEnd_flushed rfl (hkept.oneHolder ho), hkept.tenancy]
    rfl

theorem State.Decommissioned.settle {h : State} (d : h.Decommissioned s) : h.Decommissioned s.settle := by
  have hr : s.ready = false := by
    rw [State.ready, d.station]
    split <;> rfl
  have e := State.Halts.settle ⟨.refl s, hr, d.calm⟩
  refine ⟨?_, ?_, ?_, e.calm, ?_, e.ranks.trans d.ranks, fun w => (e.tenancy w).trans (d.tenancy w),
    e.resting d.resting⟩
  · exact (congrArg (·.killLatch) e.prt).trans d.latch
  · exact (congrArg (·.commissioned) e.prt).trans d.commissioned
  · exact (congrArg (·.station) e.prt).trans d.station
  · refine Bool.eq_false_iff.mpr fun hd => ?_
    cases (e.demand hd).symm.trans d.demand

theorem exec_decommission {tag : Nat} (hc : s.closed = false) (hn : s.tenthsDue = 0) :
    exec (.decommission tag 0xFF) s = .next ((State.decommission s.readyToTake).reply 0x02 tag) :=
  congrArg Host.Outcome.next (State.takeStation_taken hc hn)

theorem State.retired_fixed (s : State) : { s.retired.fixed with latch := s.fixed.latch } = s.fixed := by
  obtain ⟨-, hout⟩ := s.outOfService_halts
  have hdrop : s.unserved.Evolves (s.outOfService.cut .decommission).dropCycle :=
    .ite (hout.cut _).abandonCycle (hout.cut _)
  have key := ((hdrop.turnEnd .decommission).trans (State.emptied_evolves _)).fixed
  rw [State.retired, key]
  rfl

end Decommission

/-- Settles O36: the part retires out of service, and settling keeps it so. -/
theorem decommissionTakesOutOfService : Obligations.DecommissionTakesOutOfService := by
  refine ⟨fun tag s => ?_, fun tag s => ?_⟩
  · intro h hc hn hcom ho
    have key := (State.retired_decommissioned (s := h) ho).settle
    have hfixed : { h.retired.settle.fixed with latch := h.fixed.latch } = h.fixed := by
      rw [((State.Evolves.refl h.retired).settle).fixed]
      exact h.retired_fixed
    have hstation : h.retired.settle.prt.station = h.retired.prt.station :=
      key.station.trans (State.retired_decommissioned (s := h) ho).station.symm
    have hcount : h.waitingCount = (numbers 32).countP fun w => (h.tenancy w).record.isSome :=
      List.countP_eq_length_filter.symm
    refine ⟨_, exec_decommission hc hn, ?_⟩
    rw [State.decommission_eq (s := h) hcom, ← hstation, hcount]
    clear hstation
    generalize h.retired.settle = t at key hfixed ⊢
    have hnot := (State.calm_iff t).not.mp (by rw [key.calm]; nofun)
    rw [not_or] at hnot
    obtain ⟨harb, hgap, hqueue, htimeline, hstate, hburst, hfactor, hreported⟩ := key.resting
    exact ⟨⟨key.commissioned, key.station⟩, harb, hgap, key.ranks, key.tenancy, Bool.eq_false_iff.mpr hnot.1, hnot.2,
      key.demand, hqueue, htimeline, hstate, hburst, hfactor, hreported, Handled.replied _ _ _ nofun, hfixed⟩
  · intro h hc hn hcom
    rw [exec_decommission hc hn, State.decommission, if_pos (by exact hcom)]
    rfl

end Sys2Proof.Machine
end

section
/-! The wired inputs and KILL: levels, debouncing, and what their functions ask for (R45, R46, R143, R144, R173 to R179). -/

namespace Sys2Proof.Machine

set_option Elab.async false

/-! ### Wired functions (R173, R176) -/

section Functions

variable {s : State} {i : InputId} {y : Input} {f : InputFunction}

theorem State.functionActive_iff : s.functionActive f = true ↔
    ∃ i, (s.inr.inputs.read i).function = f ∧ (s.inr.inputs.read i).trigger = .level ∧ (s.inr.inputs.read i).active = true := by
  simp only [State.functionActive, State.routed, List.any_filterMap, List.any_eq_true, mem_numbers, true_and]
  refine exists_congr fun i => ?_
  by_cases h : (s.inr.inputs.read i).function = f <;> simp [h]

theorem State.functionActive_congr {t : State} (h : t.inr = s.inr) : t.functionActive f = s.functionActive f := by
  simp [State.functionActive, State.routed, h]

theorem State.read_setInputOf (i j : InputId) (y : Input) (s : State) :
    (s.setInputOf i y).inr.inputs.read j = if j = i then y else s.inr.inputs.read j := Table.read_write ..

/-- An active LEVEL input makes its function active. -/
theorem State.functionActive_rises (hf : y.function = f) (hl : y.trigger = .level) (ha : y.active = true) :
    (s.setInputOf i y).functionActive f = true :=
  State.functionActive_iff.mpr ⟨i, by simp [State.read_setInputOf, hf, hl, ha]⟩

/-- A function whose last input falls is inactive. -/
theorem State.functionActive_falls (ha : y.active = false)
    (ho : ∀ j, j ≠ i → (s.inr.inputs.read j).function = f → (s.inr.inputs.read j).active = false) :
    (s.setInputOf i y).functionActive f = false := by
  refine Bool.eq_false_iff.mpr fun h => ?_
  obtain ⟨j, hf, -, hj⟩ := State.functionActive_iff.mp h
  rw [State.read_setInputOf] at hf hj
  split at hj
  · exact absurd (hj.symm.trans ha) nofun
  · rename_i hne
    rw [if_neg hne] at hf
    exact absurd (hj.symm.trans (ho j hne hf)) nofun

end Functions

/-! ### Raw levels (R175, R179) -/

section Levels

variable {s : State} {i : InputId} {y : Input}

theorem exec_inputLevelChange_taken (hr : s.rst = false) (hn : s.tenthsDue = 0) (c : LevelChange) :
    exec (.inputLevelChange c) s = .next (s.levelChanges c).settle := by
  refine congrArg Host.Outcome.next ?_
  rw [State.onTime_of_none hn, hr]
  rfl

theorem State.settled_setInputOf (h : s.settled) : (s.setInputOf i y).settled :=
  (State.settled_congr (s := s) (t := s.setInputOf i y) rfl rfl rfl rfl rfl).mpr h

theorem State.settled_setTenancy {w : SlotId} {x : Tenancy} (h : s.settled) : (s.setTenancy w x).settled :=
  (State.settled_congr (s := s) (t := s.setTenancy w x) rfl rfl rfl rfl rfl).mpr h

theorem State.settled_raise {r : Report} (h : s.settled) : (s.raise r).settled :=
  (State.settled_congr (s := s) (t := s.raise r) rfl rfl rfl rfl rfl).mpr h

theorem State.settled_conditionGone {k : FaultKind} (h : s.settled) : (s.conditionGone k).settled := by
  have key := State.settled_iff.mp h
  exact State.settled_iff.mpr key

/-- Writes KILL's contact. -/
def State.withKill (k : KillInput) (s : State) : State := { s with inr := { s.inr with kill := k } }

theorem State.settled_withKill {k : KillInput} (h : s.settled) : (s.withKill k).settled :=
  (State.settled_congr (s := s) (t := s.withKill k) rfl rfl rfl rfl rfl).mpr h

/-- A level that differs starts the measure, which is not at its end at once. -/
theorem State.inputLevel_starts (hy : s.inr.inputs.read i = y) (hs : y.since = none) (hd : y.debounce ≠ 0) :
    s.inputLevel i (!y.debounced) = s.setInputOf i { y with raw := !y.debounced, since := some s.clock } := by
  have hstable : State.stable (s.setInputOf i { y with raw := !y.debounced, since := some s.clock }) i = false := by
    have hclock : sinceMs (s.setInputOf i { y with raw := !y.debounced, since := some s.clock }).clock s.clock = 0 := by
      simp [sinceMs, State.setInputOf]
    simp only [State.stable, State.read_setInputOf, if_true, hclock]
    simpa using hd
  simp only [State.inputLevel, hy, hs, Bool.not_eq_self, if_false, Option.getD_none, hstable, Bool.false_eq_true]

/-- A level that is the debounced one stops it. -/
theorem State.inputLevel_stops (hy : s.inr.inputs.read i = y) :
    s.inputLevel i y.debounced = s.setInputOf i { y with raw := y.debounced, since := none } := by
  have hstable : State.stable (s.setInputOf i { y with raw := y.debounced, since := none }) i = false := by
    simp only [State.stable, State.read_setInputOf, if_true]
  simp only [State.inputLevel, hy, if_true, hstable, Bool.false_eq_true, if_false]

end Levels

/-! ### The end of a measure (R175, R176) -/

section Debounce

variable {s : State} {i : InputId} {y : Input} {n : Clock} {f : InputFunction} {o : Origin}

/-- The input after its measure: the debounced level is the raw one. -/
def Input.taken (y : Input) : Input := { y with debounced := y.raw, since := none }

theorem exec_debounceExpiry (hr : s.rst = false) (hy : s.inr.inputs.read i = y) (hs : y.since = some n)
    (hn : (s.bringTo (n + BitVec.ofNat 32 y.debounce)).tenthsDue = 0) :
    exec (.debounceExpiry i) s = .next ((s.bringTo (n + BitVec.ofNat 32 y.debounce)).debounced i).settle := by
  have htimer (u : State) (hu : u.inr = s.inr) : u.debounceTimer i = some ⟨n, y.debounce⟩ := by
    simp only [State.debounceTimer, hu, hy, hs]
    rfl
  exact congrArg Host.Outcome.next
    (State.onExpirySettled_taken (tm := ⟨n, y.debounce⟩) hr (htimer s rfl) hn (htimer _ (by simp)))

/-- With no EDGE input, the function is delivered. -/
theorem State.debounced_eq (hy : s.inr.inputs.read i = y) (hl : y.trigger = .level ∨ y.function ≠ .localRequest) :
    s.debounced i = (s.setInputOf i y.taken).deliver y.function (s.reading y.function) := by
  have hedge : (s.setInputOf i y.taken).edge y.taken = s.setInputOf i y.taken := by
    refine if_neg fun c => ?_
    rcases hl with hl | hl
    · exact absurd (hl.symm.trans c.2.1) nofun
    · exact hl c.1
  rw [State.debounced, hy]
  exact congrArg (State.deliver y.function (s.reading y.function)) hedge

/-- A wired request's function that rises acts for slot 0. -/
theorem State.deliver_rises {r : Reading}
    (ho : f = .localPtt ∧ o = .localPtt ∨ f = .localRequest ∧ o = .localRequestLevel) (hr : r.active = false)
    (ha : s.functionActive f = true) (hl : s.localPhone = false) : s.deliver f r = s.wiredActive o := by
  rcases ho with ⟨rfl, rfl⟩ | ⟨rfl, rfl⟩
  · simp [State.deliver, State.reading, ha, hr, State.pttPressed, hl]
  · simp [State.deliver, State.reading, ha, hr]

theorem State.deliver_falls {r : Reading}
    (ho : f = .localPtt ∧ o = .localPtt ∨ f = .localRequest ∧ o = .localRequestLevel) (hr : r.active = true)
    (ha : s.functionActive f = false) (hl : s.localPhone = false) : s.deliver f r = s.wiredInactive o := by
  rcases ho with ⟨rfl, rfl⟩ | ⟨rfl, rfl⟩
  · simp [State.deliver, State.reading, ha, hr, State.pttReleased, hl]
  · simp [State.deliver, State.reading, ha, hr]

/-- Slot 0 holds no PHONE or DATA turn while its tenancy says otherwise. -/
theorem State.localPhone_of_tenancy (ho : s.oneHolder) (h : s.tenancy 0 ≠ .holding) : s.localPhone = false := by
  unfold State.localPhone
  split
  · rename_i t ht
    have hw : t.holder ≠ 0 := fun e => h ((ho 0).mpr (by rw [State.holder_of_turn ht, e]))
    simp [hw]
  · rfl

theorem State.debounced_rises (hy : s.inr.inputs.read i = y) (hl : y.trigger = .level)
    (ho : f = .localPtt ∧ o = .localPtt ∨ f = .localRequest ∧ o = .localRequestLevel) (hf : y.function = f)
    (hs : s.functionActive f = false) (ha : y.taken.active = true) (hp : s.localPhone = false) :
    s.debounced i = (s.setInputOf i y.taken).wiredActive o := by
  rw [State.debounced_eq hy (.inl hl), hf]
  exact State.deliver_rises ho hs (State.functionActive_rises hf hl ha) hp

theorem State.debounced_falls (hy : s.inr.inputs.read i = y) (hl : y.trigger = .level)
    (ho : f = .localPtt ∧ o = .localPtt ∨ f = .localRequest ∧ o = .localRequestLevel) (hf : y.function = f)
    (hs : s.functionActive f = true) (ha : y.taken.active = false)
    (hrest : ∀ j, j ≠ i → (s.inr.inputs.read j).function = f → (s.inr.inputs.read j).active = false)
    (hp : s.localPhone = false) : s.debounced i = (s.setInputOf i y.taken).wiredInactive o := by
  rw [State.debounced_eq hy (.inl hl), hf]
  exact State.deliver_falls ho hs (State.functionActive_falls ha hrest) hp

theorem State.oneHolder_bringTo (c : Clock) (ho : s.oneHolder) : (s.bringTo c).oneHolder := fun w => by
  simpa using ho w

@[simp] theorem State.permit_bringTo (c : Clock) (w : SlotId) (b : BandId) (e : Emission) :
    (s.bringTo c).permit w b e = s.permit w b e := by simp [State.permit]

@[simp] theorem State.exhausted_bringTo (c : Clock) (w : SlotId) : (s.bringTo c).exhausted w = s.exhausted w := by
  rcases s.bringTo_cases c with h | h <;> rw [h]
  rfl

/-- Outside FREE a wired request that is permitted waits. -/
theorem State.wiredActive_waits (hten : s.tenancy 0 = .opened)
    (hperm : s.permit 0 s.arb.defaultBand s.arb.defaultEmission = true) (hex : s.exhausted 0 = false)
    (harb : s.arb.arbiter ≠ .free) : s.wiredActive o =
      s.setTenancy 0 (.waiting ⟨s.arb.defaultBand, s.arb.defaultEmission, s.arb.defaultPower, .once, o, false⟩) := by
  have hfree (x : Tenancy) : (s.setTenancy 0 x).arb.arbiter ≠ .free := harb
  simp [State.wiredActive, hten, State.wiredRequest, hperm, hex, hfree]

theorem State.wiredActive_refused (hten : s.tenancy 0 = .opened)
    (hperm : s.permit 0 s.arb.defaultBand s.arb.defaultEmission = false) :
    s.wiredActive o = s.raise (.requestDropped 0 .localRefused (some .notPermitted)) := by
  simp [State.wiredActive, hten, State.wiredRequest, hperm]

/-- A wired request that still waits is taken back. -/
theorem State.wiredInactive_drops {r : RequestRec} (hten : s.tenancy 0 = .waiting r) (hr : r.origin = o) :
    s.wiredInactive o = (s.setTenancy 0 .opened).raise (.spuriousLocal o) := by
  simp [State.wiredInactive, hten, hr]

end Debounce

/-! ### The entries of TRIPPED and KILLED (R143, R144) -/

/-- From `h` to `s` the transmission was cut and the turn ended for good. -/
structure State.ShutDown (h s : State) : Prop where
  prt : { s.prt with faults := h.prt.faults } = h.prt
  faults : s.prt.faults.map (fun r => (r.kind, r.last)) = h.prt.faults.map fun r => (r.kind, r.last)
  turn : s.turn = none
  calm : s.seq.state.calm = true
  tenancy : ∀ w, (s.tenancy w).flushed = if h.tenancy w = .vacant then .vacant else .opened
  evolves : h.Evolves s

section ShutDown

variable {h s : State}

theorem State.shutDown (hr : s.ready = false) (ho : s.oneHolder) {c : CutCause} (hc : c ≠ .ampDrop) {k : TurnEndCause}
    (hk : requeues k = false) : s.ShutDown ((s.cut c).stationAbandons.turnEnd k) := by
  have e := (State.Halts.cut hr hc).stationAbandons
  have ev : s.Evolves (s.cut c).stationAbandons := by
    have f := (State.Evolves.refl s).cut c
    exact .ite (.ite f.abandonCycle.idTurnOver f.abandonCycle) f
  generalize (s.cut c).stationAbandons = v at e ev
  obtain ⟨hprt, hseq, -, -⟩ := State.turnEnd_out k e.ready e.calm
  refine ⟨by rw [hprt]; exact e.prt, by rw [hprt]; exact e.faults, State.turn_turnEnd .., by rw [hseq]; exact e.calm,
    fun w => ?_, ev.turnEnd k⟩
  rw [State.tenancy_turnEnd_flushed hk (e.toPersists.oneHolder ho), e.tenancy]

theorem State.ShutDown.ready (e : h.ShutDown s) (hr : h.ready = false) : s.ready = false := by
  rw [State.ready, show s.prt.station = h.prt.station from congrArg (·.station) e.prt]
  exact hr

/-- Settling does not undo it. -/
theorem State.ShutDown.settle (e : h.ShutDown s) (hr : h.ready = false) : h.ShutDown s.settle := by
  have k := State.Halts.settle ⟨.refl s, e.ready hr, e.calm⟩
  have hturn : s.settle.turn = none := by
    have hh := k.holder
    simpa [State.holder, e.turn] using hh
  refine ⟨?_, k.faults.trans e.faults, hturn, k.calm, fun w => ?_, e.evolves.settle⟩
  · exact (congrArg (fun p : Prt => { p with faults := h.prt.faults }) k.prt).trans e.prt
  · rw [k.tenancy]
    exact e.tenancy w

theorem State.ShutDown.tenancy_settle (e : h.ShutDown s) (hr : h.ready = false) (w : SlotId) :
    s.settle.tenancy w = s.tenancy w :=
  (State.Halts.settle ⟨.refl s, e.ready hr, e.calm⟩).tenancy w

theorem State.ShutDown.killFlush (e : h.ShutDown s) : h.ShutDown s.killFlush := by
  have k := s.killFlush_slotsOnly
  refine ⟨by rw [k.prt]; exact e.prt, by rw [k.prt]; exact e.faults, k.turn.trans e.turn, by rw [k.seq]; exact e.calm,
    fun w => ?_, ?_⟩
  · rw [State.tenancy_killFlush, Tenancy.flushed_flushed]
    exact e.tenancy w
  · exact List.foldlRecOn _ _ e.evolves fun _ f w _ => f.dropRequest _ w

/-- In the station state it enters, the part is still and holds no turn. -/
theorem State.ShutDown.still (e : h.ShutDown s) : s.holder = none ∧ s.arming = false ∧ s.seq.state ≠ .exciting := by
  have hnot := (State.calm_iff s).not.mp (by rw [e.calm]; nofun)
  rw [not_or] at hnot
  exact ⟨by simp [State.holder, e.turn], Bool.eq_false_iff.mpr hnot.1, hnot.2⟩

end ShutDown

section Entries

variable {s : State}

theorem State.derive_changes {c : StationCause} {f : Option FaultKind} (h : s.derived ≠ s.prt.station) :
    s.derive c f = (State.raise (.stationChanged s.prt.station s.derived c f)
      { s with prt := { s.prt with station := s.derived } }).enterStation s.derived := if_neg h

/-- The fault list holds an occurrence with its time (R136). -/
theorem State.mem_listAfter (s : State) (k : FaultKind) (w : Option SlotId) (c : Option Code) :
    ∃ r ∈ s.listAfter k w c, r.kind = k ∧ r.last = s.seconds := by
  unfold State.listAfter
  split
  · rename_i r hr
    have hk : r.kind = k := by simpa using List.find?_some hr
    exact ⟨_, List.mem_map_of_mem (List.mem_of_find?_eq_some hr), by simp [hk, FaultRec.again]⟩
  · exact ⟨_, List.mem_append_right _ (List.mem_singleton_self _), rfl, rfl⟩

theorem State.derived_eq_ready : s.derived = .ready ↔ s.prt.killLatch = false ∧ s.prt.commissioned = true ∧
    (s.prt.faults.any fun r => tripKind r.kind) = false ∧ s.msr.overtemp = false ∧ s.msr.supply = false := by
  unfold State.derived
  cases s.prt.killLatch <;> cases s.prt.commissioned <;> cases (s.prt.faults.any fun r => tripKind r.kind) <;>
    cases s.msr.overtemp <;> cases s.msr.supply <;> simp

/-- A part that follows its latch is KILLED only with it set. -/
theorem State.derived_ne_killed (h : s.prt.killLatch = false) : s.derived ≠ .killed := by
  unfold State.derived
  rw [h]
  split <;> (try split) <;> (try split) <;> (try split) <;> simp_all

/-- The state in which PRT has an occurrence of a kind on its list, and has told it. -/
def State.faulted (k : FaultKind) (w : Option SlotId) (c : Option Code) (s : State) : State :=
  State.raise (.faultRaised k (s.countAfter k) w s.seq.currentBand c (s.faultOf? k).isNone)
    { s with prt := { s.prt with faults := s.listAfter k w c } }

theorem State.faulted_evolves (k : FaultKind) (w : Option SlotId) (c : Option Code) (s : State) :
    s.Evolves (s.faulted k w c) := .raise (.same (.refl s)) _

/-- A latched trip makes a READY station TRIPPED (R142). -/
theorem State.faulted_derived {k : FaultKind} (hk : tripKind k = true) (w : Option SlotId) (c : Option Code)
    (h : s.derived = .ready) : (s.faulted k w c).derived = .tripped := by
  obtain ⟨hlatch, hcom, -⟩ := State.derived_eq_ready.mp h
  obtain ⟨r, hmem, hkind, -⟩ := s.mem_listAfter k w c
  have hany : ((s.faulted k w c).prt.faults.any fun r => tripKind r.kind) = true :=
    List.any_eq_true.mpr ⟨r, hmem, by rw [hkind, hk]⟩
  have hl : (s.faulted k w c).prt.killLatch = false := hlatch
  have hc : (s.faulted k w c).prt.commissioned = true := hcom
  simp [State.derived, hany, hl, hc]

/-- The station state is written and told (R142). -/
def State.restated (x : StationState) (c : StationCause) (f : Option FaultKind) (s : State) : State :=
  State.raise (.stationChanged s.prt.station x c f) { s with prt := { s.prt with station := x } }

theorem State.restated_evolves (x : StationState) (c : StationCause) (f : Option FaultKind) (s : State) :
    s.Evolves (s.restated x c f) := .raise (.same (.refl s)) _

/-- A latched trip on a READY station: the record, TRIPPED, and the shut-down of its entry (R136, R144). -/
theorem State.occur_trips {k : FaultKind} (hk : tripKind k = true) (w : Option SlotId) (c : Option Code)
    (h : s.derived = .ready) (hs : s.prt.station = .ready) :
    s.occur k w c = State.enterTripped ((s.faulted k w c).restated .tripped .trip (some k)) := by
  have hd := State.faulted_derived hk w c h
  have hhold : holdKind k = false := by revert hk; cases k <;> decide
  have hne : (s.faulted k w c).derived ≠ (s.faulted k w c).prt.station := by
    rw [hd]
    exact fun e => absurd (hs.symm.trans e.symm) nofun
  change (s.faulted k w c).derive (if holdKind k then .hold else .trip) (some k) = _
  rw [State.derive_changes hne, hd, hhold]
  rfl

/-- KILL sets the latch, and the station is KILLED (R140, R143). -/
def State.latched (s : State) : State := { s with prt := { s.prt with killLatch := true } }

theorem State.killAsserted_kills (hl : s.prt.killLatch = false) (hs : s.prt.station ≠ .killed) :
    s.killAsserted = State.enterKilled (s.latched.restated .killed .killInput none) := by
  have hd : s.latched.derived = .killed := by simp [State.derived, State.latched]
  have hne : s.latched.derived ≠ s.latched.prt.station := by
    rw [hd]
    exact hs.symm
  rw [State.killAsserted, hl]
  change s.latched.derive .killInput none = _
  rw [State.derive_changes hne, hd]
  rfl

theorem State.restated_keeps (x : StationState) (c : StationCause) (f : Option FaultKind) (s : State) :
    (s.restated x c f).prt = { s.prt with station := x } ∧ (s.restated x c f).arb = s.arb := ⟨rfl, rfl⟩

theorem State.oneHolder_congr {t : State} (h : t.arb = s.arb) (ho : s.oneHolder) : t.oneHolder := fun w => by
  rw [State.tenancy, State.holder, State.turn, h]
  exact ho w

/-- What the entry of KILLED leaves once it has settled. -/
theorem State.killed_ends (ho : s.oneHolder) :
    let t := (State.enterKilled (s.latched.restated .killed .killInput none)).settle
    t.prt.killLatch = true ∧ t.prt.station = .killed ∧ { t.fixed with latch := s.fixed.latch } = s.fixed ∧
      (t.holder = none ∧ t.arming = false ∧ t.seq.state ≠ .exciting) ∧
      ∀ w, t.tenancy w = if s.tenancy w = .vacant then .vacant else .opened := by
  obtain ⟨hprt, harb⟩ := s.latched.restated_keeps .killed .killInput none
  have hfixed := (s.latched.restated_evolves .killed .killInput none).fixed
  generalize s.latched.restated .killed .killInput none = v at hprt harb hfixed
  have hready : v.ready = false := by rw [State.ready, hprt]; rfl
  have hdown := State.shutDown (c := .kill) hready (State.oneHolder_congr harb ho) nofun (k := .kill) rfl
  have key := hdown.killFlush.settle hready
  have hten (w : SlotId) := (hdown.killFlush.tenancy_settle hready w).trans
    ((State.tenancy_killFlush ..).trans (hdown.tenancy w))
  have hkilled : v.enterKilled = ((v.cut .kill).stationAbandons.turnEnd .kill).killFlush := rfl
  dsimp only
  rw [hkilled]
  generalize (((v.cut .kill).stationAbandons.turnEnd .kill).killFlush).settle = t at key hten ⊢
  have hprt' := key.prt
  rw [hprt] at hprt'
  refine ⟨congrArg (·.killLatch) hprt', congrArg (·.station) hprt', ?_, key.still, fun w => (hten w).trans ?_⟩
  · exact congrArg (fun f : Fixed => { f with latch := s.fixed.latch }) (key.evolves.fixed.trans hfixed)
  · rw [State.tenancy, harb]
    rfl

/-- What the entry of TRIPPED leaves once it has settled. -/
theorem State.tripped_ends (ho : s.oneHolder) (hs : s.prt.station = .ready) {k : FaultKind} (w : Option SlotId)
    (c : Option Code) :
    let t := (State.enterTripped ((s.faulted k w c).restated .tripped .trip (some k))).settle
    t.prt.station = .tripped ∧ (∃ r ∈ t.prt.faults, r.kind = k ∧ r.last = s.seconds) ∧ t.fixed = s.fixed ∧
      (t.holder = none ∧ t.arming = false ∧ t.seq.state ≠ .exciting) ∧
      s.raised t (.stationChanged .ready .tripped .trip (some k)) := by
  obtain ⟨hprt, harb⟩ := (s.faulted k w c).restated_keeps .tripped .trip (some k)
  have hfixed := ((s.faulted_evolves k w c).trans ((s.faulted k w c).restated_evolves .tripped .trip (some k))).fixed
  have hlnk : ((s.faulted k w c).restated .tripped .trip (some k)).lnk =
      (s.faulted k w c).lnk.raise (.stationChanged s.prt.station .tripped .trip (some k)) := rfl
  have hroom : (s.faulted k w c).lnk.reports.length ≤ s.lnk.reports.length + 1 := by
    unfold State.faulted State.raise
    exact Lnk.length_reports_raise _ _
  have hmem := s.mem_listAfter k w c
  have hfaults : (s.faulted k w c).prt.faults = s.listAfter k w c := rfl
  have harb' : (s.faulted k w c).arb = s.arb := rfl
  have hgrows := (s.faulted_evolves k w c).link
  generalize (s.faulted k w c).restated .tripped .trip (some k) = v at hprt harb hfixed hlnk
  have hready : v.ready = false := by rw [State.ready, hprt]; rfl
  have key := (State.shutDown (c := .fault) hready (State.oneHolder_congr (harb.trans harb') ho) nofun
    (k := .fault) rfl).settle hready
  have hprt' := key.prt
  rw [hprt] at hprt'
  refine ⟨congrArg (·.station) hprt', ?_, key.evolves.fixed.trans hfixed, key.still, ?_⟩
  · obtain ⟨r, hr, hk, hl⟩ := hmem
    have hf := key.faults
    rw [hprt, hfaults] at hf
    have hin : (k, s.seconds) ∈ (v.enterTripped.settle.prt.faults.map fun r => (r.kind, r.last)) := by
      rw [show v.enterTripped.settle.prt.faults.map (fun r => (r.kind, r.last)) = _ from hf]
      exact List.mem_map.mpr ⟨r, hr, by rw [hk, hl]⟩
    obtain ⟨q, hq, he⟩ := List.mem_map.mp hin
    exact ⟨q, hq, congrArg (·.1) he, congrArg (·.2) he⟩
  · rw [hs] at hlnk
    exact State.raised_of_grows hgrows (by omega) (hlnk ▸ key.evolves.link)

theorem exec_killDebounceExpiry {k : KillInput} {n : Clock} (hr : s.rst = false) (hk : s.inr.kill = k)
    (hs : k.since = some n) (hn : (s.bringTo (n + 5)).tenthsDue = 0) :
    exec .killDebounceExpiry s = .next (s.bringTo (n + 5)).killDebounced.settle := by
  have htimer (u : State) (hu : u.inr = s.inr) : u.killTimer = some ⟨n, 5⟩ := by
    simp only [State.killTimer, hu, hk, hs]
    rfl
  exact congrArg Host.Outcome.next
    (State.onExpirySettled_taken (tm := ⟨n, 5⟩) hr (htimer s rfl) hn (htimer _ (by simp)))

@[simp] theorem State.derived_bringTo (c : Clock) (s : State) : (s.bringTo c).derived = s.derived := by
  simp [State.derived]

end Entries

/-- Settles O59. -/
theorem inputsAreDebounced : Obligations.InputsAreDebounced := by
  refine ⟨fun i y s hr hy hs hd hn hset => ?_, fun i y s hr hy hn hset => ?_, fun i y n s => ?_, fun i y n s => ?_,
    fun i y n f o s => ?_, fun i y n f o s => ?_, fun i y n f o r s => ?_, fun i y n f s => ?_,
    fun k s hr hk hs hn hset => ?_, fun k n s => ?_, fun k n s => ?_⟩
  · rw [exec_inputLevelChange_taken hr hn, State.levelChanges, State.inputLevel_starts hy hs hd]
    exact congrArg Host.Outcome.next (State.settle_eq_self (State.settled_setInputOf hset))
  · rw [exec_inputLevelChange_taken hr hn, State.levelChanges, State.inputLevel_stops hy]
    exact congrArg Host.Outcome.next (State.settle_eq_self (State.settled_setInputOf hset))
  · intro h hr hy hs hf hset hn
    have hy' : h.inr.inputs.read i = y := by simpa [h] using hy
    have hdeb : h.debounced i = h.setInputOf i y.taken := by
      rw [State.debounced_eq hy' (.inr (by rw [hf]; nofun)), hf]
      rfl
    rw [exec_debounceExpiry hr hy hs hn, hdeb]
    exact congrArg Host.Outcome.next (State.settle_eq_self (State.settled_setInputOf (State.settled_bringTo _ hset)))
  · intro h hr hy hs hf hl hraw hd hpol hfa hst hfol ho hn
    have hderived : s.derived = .ready := hfol.symm.trans hst
    obtain ⟨w, hw⟩ : ∃ w, w = h.setInputOf i y.taken := ⟨_, rfl⟩
    have hdeb : h.debounced i =
        State.enterTripped ((w.faulted .extFault w.holder none).restated .tripped .trip (some .extFault)) := by
      rw [State.debounced_eq (by simpa [h] using hy) (.inl hl), hf, ← hw]
      have hbefore : h.functionActive .extFault = false := by
        rw [State.functionActive_congr (s := s) (by simp [h])]
        exact hfa
      have hafter : w.functionActive .extFault = true := by
        rw [hw]
        exact State.functionActive_rises hf hl (by simp [Input.active, Input.taken, hpol, hraw])
      rw [← State.occur_trips (s := w) rfl w.holder none
        (by rw [hw]; exact (State.derived_bringTo ..).trans hderived)
        (by rw [hw]; exact (congrArg (·.station) (State.bringTo_prt ..)).trans hst)]
      simp [State.deliver, State.reading, State.extFaultChange, hbefore, hafter]
    refine ⟨_, exec_debounceExpiry hr hy hs hn, ?_⟩
    rw [show s.bringTo (n + BitVec.ofNat 32 y.debounce) = h from rfl, hdeb]
    have hkeeps : w.prt = h.prt ∧ w.arb = h.arb ∧ w.seconds = h.seconds ∧ w.lnk = h.lnk ∧
        { w.fixed with inr := h.inr } = h.fixed ∧ (w.inr.inputs.read i).debounced = true := by
      rw [hw]
      exact ⟨rfl, rfl, rfl, rfl, rfl, by rw [State.read_setInputOf, if_pos rfl]; exact hraw⟩
    obtain ⟨hprt, harb, hseconds, hlnk, hinr, hhigh⟩ := hkeeps
    obtain ⟨htripped, hrecord, hfixed, ⟨hholder, harming, hexc⟩, hraised⟩ :=
      State.tripped_ends (s := w) (State.oneHolder_congr harb (State.oneHolder_bringTo _ ho))
        (by rw [hprt]; exact (congrArg (·.station) (State.bringTo_prt ..)).trans hst) (k := .extFault) w.holder none
    generalize State.settle _ = t at htripped hrecord hfixed hholder harming hexc hraised ⊢
    rw [hseconds] at hrecord
    refine ⟨⟨htripped, hrecord⟩, hholder, harming, hexc, ?_, ?_, ?_⟩
    · rw [show t.inr = w.inr from congrArg (·.inr) hfixed]
      exact hhigh
    · rw [State.raised, ← hlnk]
      exact hraised
    · rw [hfixed]
      exact hinr
  · intro h u hr hy hs hl hfo hf ha hact hten ho harb hperm hex hset hn
    have hdeb := State.debounced_rises (s := h) (o := o) (by simpa [h] using hy) hl hfo hf
      (by rw [State.functionActive_congr (s := s) (by simp [h])]; exact ha) hact
      (State.localPhone_of_tenancy (State.oneHolder_bringTo _ ho) (by simp [h, hten]))
    have harb' : (h.setInputOf i y.taken).arb = s.arb := State.bringTo_arb ..
    have hwaits := State.wiredActive_waits (s := h.setInputOf i y.taken) (o := o)
      ((State.tenancy_bringTo _ s 0).trans hten) (by rw [harb']; exact (State.permit_bringTo ..).trans hperm)
      ((State.exhausted_bringTo ..).trans hex) (by rw [harb']; exact harb)
    rw [exec_debounceExpiry hr hy hs hn, hdeb, hwaits]
    exact congrArg Host.Outcome.next (State.settle_eq_self
      (State.settled_setTenancy (State.settled_setInputOf (State.settled_bringTo _ hset))))
  · intro h u hr hy hs hl hfo hf ha hact hten ho hperm hset hn
    have hdeb := State.debounced_rises (s := h) (o := o) (by simpa [h] using hy) hl hfo hf
      (by rw [State.functionActive_congr (s := s) (by simp [h])]; exact ha) hact
      (State.localPhone_of_tenancy (State.oneHolder_bringTo _ ho) (by simp [h, hten]))
    have harb' : (h.setInputOf i y.taken).arb = s.arb := State.bringTo_arb ..
    have hrefused := State.wiredActive_refused (s := h.setInputOf i y.taken) (o := o)
      ((State.tenancy_bringTo _ s 0).trans hten) (by rw [harb']; exact (State.permit_bringTo ..).trans hperm)
    rw [exec_debounceExpiry hr hy hs hn, hdeb, hrefused]
    exact congrArg Host.Outcome.next (State.settle_eq_self
      (State.settled_raise (State.settled_setInputOf (State.settled_bringTo _ hset))))
  · intro h u hr hy hs hl hfo hf ha hact hrest hten hro ho hset hn
    have hdeb := State.debounced_falls (s := h) (o := o) (by simpa [h] using hy) hl hfo hf
      (by rw [State.functionActive_congr (s := s) (by simp [h])]; exact ha) hact (by simpa [h] using hrest)
      (State.localPhone_of_tenancy (State.oneHolder_bringTo _ ho) (by simp [h, hten]))
    have hdrops := State.wiredInactive_drops (s := h.setInputOf i y.taken) ((State.tenancy_bringTo _ s 0).trans hten) hro
    rw [exec_debounceExpiry hr hy hs hn, hdeb, hdrops]
    exact congrArg Host.Outcome.next (State.settle_eq_self
      (State.settled_raise (State.settled_setTenancy (State.settled_setInputOf (State.settled_bringTo _ hset)))))
  · intro h u hr hy hs hl hfe hf ha hact hrest hset hn
    subst hfe
    have hdeb : h.debounced i = (h.setInputOf i y.taken).conditionGone .extFault := by
      rw [State.debounced_eq (by simpa [h] using hy) (.inl hl), hf]
      have hbefore : h.functionActive .extFault = true := by
        rw [State.functionActive_congr (s := s) (by simp [h])]
        exact ha
      have hafter := State.functionActive_falls (s := h) (i := i) (y := y.taken) (f := .extFault) hact
        (by simpa [h] using hrest)
      simp [State.deliver, State.reading, State.extFaultChange, hbefore, hafter]
    rw [exec_debounceExpiry hr hy hs hn, hdeb]
    exact congrArg Host.Outcome.next (State.settle_eq_self
      (State.settled_conditionGone (State.settled_setInputOf (State.settled_bringTo _ hset))))
  · have hkill : s.killLevel (!k.debounced) =
        { s with inr := { s.inr with kill := { k with raw := !k.debounced, since := some s.clock } } } := by
      simp [State.killLevel, hk, hs]
    rw [exec_inputLevelChange_taken hr hn, State.levelChanges, hkill]
    exact congrArg Host.Outcome.next (State.settle_eq_self (State.settled_withKill hset))
  · intro h hr hk hs hraw hd hlatch hf ho hdue hn
    have hh : h.prt = s.prt := State.bringTo_prt ..
    have hkill : h.killDebounced = State.enterKilled
        (((h.withKill ⟨true, true, none⟩).latched).restated .killed .killInput none) := by
      have hk' : h.inr.kill = k := by simpa [h] using hk
      rw [State.killDebounced, hk', hraw, hd]
      exact State.killAsserted_kills (s := h.withKill ⟨true, true, none⟩) (by rw [← hlatch, ← hh]; rfl)
        (by rw [show (h.withKill ⟨true, true, none⟩).prt = s.prt from hh, hf]; exact State.derived_ne_killed hlatch)
    refine ⟨_, exec_killDebounceExpiry hr hk hs hn, ?_⟩
    rw [show s.bringTo (n + 5) = h from rfl, hkill]
    obtain ⟨hl, hst, hfixed, hstill, hten⟩ :=
      State.killed_ends (s := h.withKill ⟨true, true, none⟩) (State.oneHolder_bringTo _ ho)
    generalize State.settle _ = t at hl hst hfixed hstill hten ⊢
    obtain ⟨hholder, harming, hexc⟩ := hstill
    refine ⟨hl, hst, congrArg (·.inr.kill) hfixed, ⟨hholder, hten⟩, harming, hexc, ?_⟩
    exact congrArg (fun f : Fixed => { f with inr := h.inr }) hfixed
  · intro h hr hk hs hraw hset hn
    have hkill : h.killDebounced = h.withKill ⟨false, false, none⟩ := by
      have hk' : h.inr.kill = k := by simpa [h] using hk
      rw [State.killDebounced, hk', hraw]
      simp [State.withKill]
    rw [exec_killDebounceExpiry hr hk hs hn, hkill]
    exact congrArg Host.Outcome.next (State.settle_eq_self (State.settled_withKill (State.settled_bringTo _ hset)))

end Sys2Proof.Machine
end

section
/-! The ends of the holder's transmission (R55, R61, R62, R64, R88, R157). -/

namespace Sys2Proof.Machine

set_option Elab.async false

/-! ### While SEQ waits outside QUIET -/

/-- From `h` to `s`, with SEQ outside QUIET, at most a retune was asked of SEQ; DRV and PRT stayed. -/
structure State.Idles (h s : State) : Prop where
  busy : h.seq.state ≠ .quiet
  seq : s.seq = { h.seq with queuedRetune := s.seq.queuedRetune }
  drv : s.drv = h.drv
  prt : s.prt = h.prt

namespace State.Idles

variable {h s t : State}

theorem refl (hq : s.seq.state ≠ .quiet) : s.Idles s := ⟨hq, rfl, rfl, rfl⟩

theorem notQuiet (e : h.Idles s) : s.seq.state ≠ .quiet := by rw [e.seq]; exact e.busy

theorem trans (a : h.Idles s) (b : s.Idles t) : h.Idles t :=
  ⟨a.busy, by rw [b.seq, a.seq], b.drv.trans a.drv, b.prt.trans a.prt⟩

theorem same (e : h.Idles s) (hq : t.seq = s.seq := by rfl) (hd : t.drv = s.drv := by rfl)
    (hp : t.prt = s.prt := by rfl) : h.Idles t :=
  e.trans ⟨e.notQuiet, by rw [hq], hd, hp⟩

theorem ite {c : Prop} [Decidable c] {a b : State} (ha : h.Idles a) (hb : h.Idles b) :
    h.Idles (if c then a else b) := by split <;> assumption

theorem modTurn (e : h.Idles s) (f : Turn → Turn) : h.Idles (s.modTurn f) := by
  rw [(s.modTurn_frame f).1]
  exact e.same

theorem beginCycle (e : h.Idles s) (c : CycleHome) : h.Idles (s.beginCycle c) := by
  rw [State.beginCycle_of_busy c e.notQuiet]
  exact e.same

theorem claimPause (e : h.Idles s) : h.Idles s.claimPause := by
  have e : h.Idles (s.modTurn fun t => { t with sub := .paused, idleStart := none }).flushTurnKeys :=
    (e.modTurn fun t => { t with sub := .paused, idleStart := none }).same
  exact .ite (.beginCycle e.same _) e.same

theorem claimTurn (e : h.Idles s) : h.Idles s.claimTurn := by
  unfold State.claimTurn; split
  · exact e
  · split
    · exact .ite e.same e.claimPause
    · exact e.same
    · exact e

theorem takePending (e : h.Idles s) : h.Idles s.takePending := by
  have hq := e.notQuiet
  unfold State.takePending; split
  · rwa [if_neg fun c => hq c.2.2.1]
  · exact e

theorem enterActive (e : h.Idles s) : h.Idles s.enterActive := by
  have e : h.Idles (s.modTurn fun t => { t with sub := .active }).syncKey :=
    (e.modTurn fun t => { t with sub := .active }).same
  exact .ite e.claimPause e.takePending

theorem askRetune (e : h.Idles s) (b : BandId) : h.Idles (s.askRetune b) := by
  rw [State.askRetune, if_neg e.notQuiet]
  exact e.trans ⟨e.notQuiet, rfl, rfl, rfl⟩

theorem ampAtGrant (e : h.Idles s) (u : Nat) : h.Idles (s.ampAtGrant u) := by
  unfold State.ampAtGrant; refine .ite ?_ e
  split
  · exact .ite e.same e.same
  · exact .ite (.ite e.same e) e
  · exact e
  · exact e

theorem raise (e : h.Idles s) (r : Report) : h.Idles (s.raise r) := e.same

theorem grantSteps (e : h.Idles s) (w : SlotId) (r : RequestRec) : h.Idles (s.grantSteps w r) := by
  unfold State.grantSteps
  refine .raise (.ampAtGrant ?_ _) _
  exact e.same

theorem grantRequest (e : h.Idles s) (w : SlotId) (r : RequestRec) : h.Idles (s.grantRequest w r) := by
  have e := e.grantSteps w r
  have e' : h.Idles ((s.grantSteps w r).flushTurnKeys.askRetune r.band) := .askRetune e.same _
  exact .ite (.ite e.claimTurn e.enterActive) (.ite e'.claimTurn e')

theorem arbitrate (e : h.Idles s) : h.Idles s.arbitrate := by
  unfold State.arbitrate; split
  · unfold State.grant; split
    · exact e.grantRequest _ _
    · exact e
  · exact e.same

/-- While SEQ's wait takes time, settling asks no more of it. -/
theorem settle (e : h.Idles s) (hz : zeroLength h.seq.step = false) : h.Idles s.settle := by
  refine State.settle_induct (P := h.Idles) (fun s t ht e => ?_) (fun _ e => e.modTurn _) (fun _ e => e.same) e
  rcases State.settleStep_cases ht with ⟨-, -, rfl⟩ | ⟨-, rfl⟩ | ⟨hstep, -⟩
  · exact .beginCycle e.same _
  · exact .ite (.arbitrate e.same) e.same
  · rw [e.seq, hz] at hstep
    cases hstep

end State.Idles

/-- A turn end in the course of a wait of SEQ, with no transmission armed or on the air. -/
theorem State.turnEnd_over {s : State} (k : TurnEndCause) (hq : s.seq.state ≠ .quiet) (hs : s.seq.state ≠ .exciting)
    (ha : s.arming = false) (ht : s.turn ≠ none) : s.forgetTurn.Idles (s.turnEnd k) := by
  obtain ⟨t, ht⟩ := Option.ne_none_iff_exists'.mp ht
  have hover := State.endTurnTx_of_over hs ha
  have hq' : s.forgetTurn.seq.state ≠ .quiet := hq
  refine ⟨hq', ?_, ?_, by rw [State.turnEnd_prt k ht, hover]; rfl⟩
  · have key : (s.turnEnd k).seq = s.forgetTurn.seq := by
      simp only [State.turnEnd, ht, hover, State.leaveHolding_seq]
      rw [State.moveCycle_seq (by simpa using hq')]
      simp
    rw [key]
  · simp only [State.turnEnd, ht, hover, State.leaveHolding_drv]
    rw [State.moveCycle_drv (by simpa using hq')]
    simp

/-! ### A normal end (R61) -/

section NormalEnd

variable {h s t : State} {x : Tx} {c : TxEndCause}

/-- What `txEndedAs` says of SEQ, DRV and the station state. -/
def State.Drains (h s : State) (x : Tx) (c : TxEndCause) : Prop :=
  s.seq.state = .drain ∧ s.seq.step = some ⟨h.clock, h.seq.active.tail⟩ ∧ s.seq.exc = false ∧ s.seq.keyGate = false ∧
    s.seq.trr = h.seq.trr ∧ s.seq.ampkey = h.seq.ampkey ∧ s.drv.applied = { h.drv.applied with active := false } ∧
    (s.seq.tx.map fun y => (y.kind, y.endCause, y.limitStart, y.airTime)) = some (x.kind, some c, none, x.airTime) ∧
    s.seq.pttDemand = false ∧ s.prt.station = h.prt.station

theorem State.normalEnd_station (c : TxEndCause) (s : State) : (s.normalEnd c).prt.station = s.prt.station := by
  unfold State.normalEnd State.leaveExciting
  split
  · cases s.seq.tx <;> rfl
  · rfl

/-- The demand is clear, or the cause clears it (R55). -/
def State.undemands (c : TxEndCause) (s : State) : Prop := s.seq.pttDemand = false ∨ keepsPtt c = false

theorem State.normalEnd_drains (hs : s.seq.state = .exciting) (hx : s.seq.tx = some x) (hd : s.undemands c) :
    s.Drains (s.normalEnd c) x c := by
  have hdrv := State.normalEnd_drv c hs hx
  rw [State.Drains, State.normalEnd_seq c hs hx, hdrv, State.normalEnd_station]
  refine ⟨rfl, rfl, rfl, rfl, rfl, rfl, rfl, rfl, ?_, rfl⟩
  rcases hd with hd | hd <;> simp [hd]

theorem State.Drains.idles (d : h.Drains s x c) (e : s.Idles t) : h.Drains t x c := by
  unfold State.Drains
  rw [e.seq, e.drv, e.prt]
  exact d

theorem State.Drains.forgetTurn (d : h.Drains s x c) : h.Drains s.forgetTurn x c := by
  obtain ⟨d1, d2, d3, d4, d5, d6, d7, d8, -, d10⟩ := d
  refine ⟨d1, d2, d3, d4, d5, d6, d7, ?_, rfl, d10⟩
  rw [← d8]
  simp [State.forgetTurn, Function.comp_def]

theorem State.Drains.not_quiet (d : h.Drains s x c) : s.seq.state ≠ .quiet := by rw [d.1]; nofun

theorem State.Drains.not_exciting (d : h.Drains s x c) : s.seq.state ≠ .exciting := by rw [d.1]; nofun

theorem State.Drains.not_arming (d : h.Drains s x c) : s.arming = false := by simp [State.arming, d.1]

theorem State.Drains.step_runs (d : h.Drains s x c) (htail : h.seq.active.tail ≠ 0) :
    zeroLength s.seq.step = false := by simp [d.2.1, zeroLength, htail]

theorem State.Drains.turnEnd (d : h.Drains s x c) (k : TurnEndCause) : h.Drains (s.turnEnd k) x c := by
  cases ht : s.turn with
  | none => simpa [State.turnEnd, ht] using d
  | some t =>
    exact d.forgetTurn.idles (State.turnEnd_over k d.not_quiet d.not_exciting d.not_arming (by rw [ht]; nofun))

/-- ARB and IDU are told of the end, and SEQ drains on. -/
theorem State.Drains.tellExit (d : h.Drains s x c) {c' : TxEndCause} (left : Bool) (hc : c' ≠ .ampDrop) :
    h.Drains (s.tellExit c' left) x c := by
  have hpause := d.idles (State.Idles.refl d.not_quiet).claimPause
  unfold State.tellExit
  split
  · split
    · exact d.turnEnd _
    · split
      · exact hpause
      · exact d
  · rw [if_neg fun k => hc k.2]
    exact d

/-- An end that drains, once all is settled. -/
theorem State.Drains.ended (d : h.Drains s x c) (hx : h.seq.tx = some x) (hs : h.seq.state = .exciting)
    (htail : h.seq.active.tail ≠ 0) (e : (h.normalEnd c).Evolves s) : h.txEndedAs s.settle x c := by
  obtain ⟨d1, d2, d3, d4, d5, d6, d7, d8, d9, d10⟩ :=
    d.idles ((State.Idles.refl d.not_quiet).settle (d.step_runs htail))
  refine ⟨d1, d2, d3, d4, d5, d6, d7, d8, d9, ?_, d10, (((State.Evolves.refl h).normalEnd c).trans e.settle).fixed⟩
  have hafter := e.settle.link
  rw [State.normalEnd_lnk c hs hx] at hafter
  exact State.raised_of_grows (.refl _) (by omega) hafter

theorem State.memberTx_normalEnd (hm : s.memberExciting = true) (c : TxEndCause) : (s.normalEnd c).memberTx = true := by
  obtain ⟨hs, hmem⟩ := State.memberExciting_iff.mp hm
  obtain ⟨x, hx⟩ := State.tx_of_memberExciting hm
  simp only [State.memberTx, hx] at hmem
  simp only [State.memberTx, State.normalEnd_seq c hs hx]
  exact hmem

theorem State.endMemberTx_exciting (hm : s.memberExciting = true) (c : TxEndCause) :
    s.endMemberTx c = (s.normalEnd c).tellExit c true := by
  obtain ⟨hs, hmem⟩ := State.memberExciting_iff.mp hm
  simp [State.endMemberTx, State.endTx, hmem, hs]

theorem State.singleOver_normalEnd (c : TxEndCause) (s : State) : (s.normalEnd c).singleOver = s.singleOver := by
  have hclt := (State.Evolves.normalEnd (.refl s) c).clt
  simp only [State.singleOver, State.holder, State.turn, State.classOf, State.identity, State.normalEnd_arb, hclt]

end NormalEnd

/-! ### The end of the holder's transmission on the air, settled (R37, R61) -/

section OnAir

variable {s : State} {t : Turn} {x : Tx} {c : TxEndCause}

/-- A change of the turn may follow the end, as the clearing of the pending start does. -/
theorem State.endMemberTx_ends (hm : s.memberExciting = true) (hx : s.seq.tx = some x) (hd : s.undemands c)
    (hc : c ≠ .ampDrop) (htail : s.seq.active.tail ≠ 0) (f : Turn → Turn) :
    s.txEndedAs ((s.endMemberTx c).modTurn f).settle x c := by
  have hs := (State.memberExciting_iff.mp hm).1
  have d := (State.normalEnd_drains hs hx hd).tellExit true hc
  rw [State.endMemberTx_exciting hm]
  exact (d.idles ((State.Idles.refl d.not_quiet).modTurn f)).ended hx hs htail
    (((State.Evolves.refl _).tellExit c true).modTurn f)

theorem State.endMemberTx_of_over (hm : s.memberExciting = true) (hc : completesOver c = true)
    (hso : s.singleOver = true) : s.endMemberTx c = (s.normalEnd c).turnEnd .singleOver := by
  rw [State.endMemberTx_exciting hm]
  simp [State.tellExit, State.memberTx_normalEnd hm, hc, State.singleOver_normalEnd, hso]

/-- The end of a complete over of a SINGLE_OVER class ends the turn (R37). -/
theorem State.endMemberTx_ends_turn (ht : s.turn = some t) (hm : s.memberExciting = true) (hx : s.seq.tx = some x)
    (hc : completesOver c = true) (hso : (s.classOf t.holder).singleOver = true) (f : Turn → Turn) :
    s.raised ((s.endMemberTx c).modTurn f).settle
      (.turnEnded t.holder .singleOver (decide (t.mode = .standing))) := by
  have hover : s.singleOver = true := by rw [State.singleOver, State.holder_of_turn ht]; exact hso
  have ht' : (s.normalEnd c).turn = some t := by rw [State.turn, State.normalEnd_arb]; exact ht
  have hroom := Lnk.length_reports_raise (.txEnded x.kind c x.airTime s.msr.peak) s.lnk
  rw [← State.normalEnd_lnk c (State.memberExciting_iff.mp hm).1 hx] at hroom
  rw [State.endMemberTx_of_over hm hc hover]
  have key := State.raised_turnEnded (c := .singleOver) ht' ((State.Evolves.refl s).normalEnd c).link (by omega)
    (((State.Evolves.refl ((s.normalEnd c).turnEnd .singleOver)).modTurn f).settle).link
  rwa [show (decide (t.mode = .standing) && requeues .singleOver) = decide (t.mode = .standing) from
    Bool.and_true _] at key

/-- An end that completes no over of such a class leaves the turn. -/
theorem State.endMemberTx_keeps_turn (hm : s.memberExciting = true)
    (hso : (completesOver c && s.singleOver) = false) :
    s.endMemberTx c = if s.idu.claim = .atTxEnd then (s.normalEnd c).claimPause else s.normalEnd c := by
  obtain ⟨x, hx⟩ := State.tx_of_memberExciting hm
  rw [State.endMemberTx_exciting hm, State.tellExit, State.memberTx_normalEnd hm, State.singleOver_normalEnd,
    Bool.true_and, hso, State.normalEnd_idu c (State.memberExciting_iff.mp hm).1 hx]
  rfl

/-- While a turn stands and SEQ's wait takes time, only the idle hang may start and the quiet timer stop. -/
theorem State.settle_in_turn (ht : s.turn = some t) (hg : zeroLength s.arb.gap = false)
    (hz : zeroLength s.seq.step = false) : s.settle = { s with
      arb := { s.arb with arbiter := .turn { t with
        idleStart := if s.idleMayRun t then some (t.idleStart.getD s.clock) else none } }
      idu := { s.idu with quiet := none } } := by
  have harb := State.turn_eq_some.mp ht
  have hnone : s.settleStep = none :=
    State.settleStep_eq_none.mpr ⟨fun k => by simp [State.idTurnOpen, harb] at k, hg, hz⟩
  have hquiet (a : Turn) : (s.setArbiter (.turn a)).quietMayRun = false := by simp [State.quietMayRun, State.setArbiter]
  rw [State.settle, State.settleFor_of_none hnone, State.syncIdle, State.modTurn_of_turn _ ht, State.syncQuiet, hquiet]
  rfl

/-- Then the holder stays, through what takes no time as well. -/
theorem State.endMemberTx_holder (hm : s.memberExciting = true) (hso : (completesOver c && s.singleOver) = false)
    (ht : s.turn = some t) (hset : s.settled) {f : Turn → Turn} (hf : ∀ t, (f t).holder = t.holder) :
    ((s.endMemberTx c).modTurn f).settle.holder = some t.holder := by
  have hend : (s.normalEnd c).Lasts (s.endMemberTx c) := by
    rw [State.endMemberTx_keeps_turn hm hso]
    split
    · exact (State.Lasts.refl _).claimPause
    · exact .refl _
  have hholder : (s.endMemberTx c).holder = some t.holder := by
    rw [hend.holder, State.holder, State.turn, State.normalEnd_arb]
    exact State.holder_of_turn ht
  have hgap : (s.endMemberTx c).arb.gap = s.arb.gap := by rw [hend.gap, State.normalEnd_arb]
  obtain ⟨y, hy, -⟩ := Option.map_eq_some_iff.mp hholder
  have hmod : ((s.endMemberTx c).modTurn f).turn = some (f y) := by rw [State.turn_modTurn, hy]; rfl
  have key := State.lasts_settle_of_turn hmod
    (by rw [(State.modTurn_frame f _).1]; exact hgap ▸ (State.settled_iff.mp hset).1.2.1)
  rw [key.holder, State.holder_modTurn hf, hholder]

end OnAir

/-! ### Abandoned armings (R62) -/

/-- From `h` to `s` only ARB, KTL and IDU went on, and they raised nothing. -/
structure State.Aside (h s : State) : Prop extends h.Evolves s where
  seq : s.seq = h.seq
  lnk : s.lnk = h.lnk
  drv : s.drv = h.drv
  amg : s.amg = h.amg
  msr : s.msr = h.msr
  prt : s.prt = h.prt

namespace State.Aside

variable {h s t : State}

theorem refl (s : State) : s.Aside s := ⟨.refl s, rfl, rfl, rfl, rfl, rfl, rfl⟩

theorem same (e : h.Aside s) (ev : s.Evolves t) (hq : t.seq = s.seq := by rfl) (hl : t.lnk = s.lnk := by rfl)
    (hd : t.drv = s.drv := by rfl) (ha : t.amg = s.amg := by rfl) (hm : t.msr = s.msr := by rfl)
    (hp : t.prt = s.prt := by rfl) : h.Aside t :=
  ⟨e.toEvolves.trans ev, hq.trans e.seq, hl.trans e.lnk, hd.trans e.drv, ha.trans e.amg, hm.trans e.msr, hp.trans e.prt⟩

theorem modTurn (e : h.Aside s) (f : Turn → Turn) : h.Aside (s.modTurn f) := by
  refine e.same (.modTurn (.refl s) f) ?_ ?_ ?_ ?_ ?_ ?_ <;> rw [(s.modTurn_frame f).1] <;> rfl

theorem claimPause (e : h.Aside s) (hq : s.seq.state ≠ .quiet) : h.Aside s.claimPause := by
  have f : h.Aside (s.modTurn fun t => { t with sub := .paused, idleStart := none }).flushTurnKeys :=
    (e.modTurn fun t => { t with sub := .paused, idleStart := none }).same (.flushTurnKeys (.refl _))
  have hq' : (s.modTurn fun t => { t with sub := .paused, idleStart := none }).seq.state ≠ .quiet := by
    rw [(s.modTurn_frame _).1]
    exact hq
  unfold State.claimPause
  dsimp only
  split
  · rw [State.beginCycle_of_busy _ (by exact hq')]
    exact f.same (.same (.refl _))
  · exact f.same (.same (.refl _))

/-- In the course of a turn and of SEQ's wait, settling is no more. -/
theorem settle {x : Turn} (e : h.Aside s) (ht : s.turn = some x) (hg : zeroLength s.arb.gap = false)
    (hz : zeroLength s.seq.step = false) : h.Aside s.settle := by
  have ev := (State.Evolves.refl s).settle
  rw [State.settle_in_turn ht hg hz] at ev ⊢
  exact e.same ev

end State.Aside

section Arming

variable {h s t v : State} {x : Tx} {y : Turn} {c : TxEndCause}

/-- What `armingEndedAs` says of SEQ. -/
def State.Disarms (h s : State) (x : Tx) (c : TxEndCause) : Prop :=
  s.seq.state = (if h.seq.ampkey then .disarmAmp else .disarmRelay) ∧
    s.seq.step = some ⟨h.clock, if h.seq.ampkey then h.seq.active.ampOff else h.seq.active.relayOff⟩ ∧
    s.seq.ampkey = false ∧ s.seq.trr = (h.seq.trr && h.seq.ampkey) ∧ s.seq.exc = h.seq.exc ∧
    s.seq.keyGate = h.seq.keyGate ∧
    (s.seq.tx.map fun y => (y.kind, y.path, y.airTime, y.endCause)) = some (x.kind, x.path, x.airTime, some c) ∧
    s.seq.pttDemand = false

theorem State.abandonArming_frame (c : TxEndCause) (s : State) :
    s.abandonArming c = { s with seq := (s.abandonArming c).seq } := by
  unfold State.abandonArming State.disarm
  split <;> rfl

theorem State.abandonArming_disarms (hx : s.seq.tx = some x) (hamp : s.seq.ampkey = true → x.path = .amplified)
    (hd : s.undemands c) : s.Disarms (s.abandonArming c) x c := by
  have hdemand : (s.seq.pttDemand && keepsPtt c) = false := by rcases hd with hd | hd <;> simp [hd]
  unfold State.Disarms State.abandonArming State.disarm
  cases hk : s.seq.ampkey with
  | true =>
    simp [hk, State.modTx, State.clearPttFor, State.enterDisarmAmp, State.startStep, State.timer, State.amplifiedTx, hx,
      hamp hk, hdemand]
  | false =>
    simp [hk, State.modTx, State.clearPttFor, State.enterDisarmRelay, State.startStep, State.timer, hx, hdemand]

theorem State.Disarms.not_quiet (d : h.Disarms s x c) : s.seq.state ≠ .quiet := by
  rw [d.1]
  split <;> nofun

theorem State.Disarms.step_runs (d : h.Disarms s x c) (ha : h.seq.active.ampOff ≠ 0) (hr : h.seq.active.relayOff ≠ 0) :
    zeroLength s.seq.step = false := by
  simp only [d.2.1, zeroLength, Option.map_some, Option.getD_some, decide_eq_false_iff_not]
  split
  · exact ha
  · exact hr

/-- An abandoned arming that nothing but ARB, KTL and IDU follow. -/
theorem State.Disarms.ended (d : s.Disarms (s.abandonArming c) x c) (e : (s.abandonArming c).Aside v) :
    s.armingEndedAs v x c := by
  have hfixed := e.fixed.trans ((State.Evolves.refl s).abandonArming c).fixed
  obtain ⟨-, hseq, hlnk, hdrv, hamg, hmsr, hprt⟩ := e
  have hframe := s.abandonArming_frame c
  obtain ⟨d1, d2, d3, d4, d5, d6, d7, d8⟩ := d
  have hl : v.lnk = s.lnk := hlnk.trans (by rw [hframe])
  rw [← hseq] at d1 d2 d3 d4 d5 d6 d7 d8
  refine ⟨d1, d2, d3, d4, d5, d6, d7, d8, ⟨by rw [hl], fun r hr => .inl (hl ▸ hr)⟩, hdrv.trans (by rw [hframe]),
    hamg.trans (by rw [hframe]), hmsr.trans (by rw [hframe]), hprt.trans (by rw [hframe]), hfixed⟩

theorem State.memberTx_abandonArming (c : TxEndCause) (s : State) : (s.abandonArming c).memberTx = s.memberTx := by
  have hmod : (s.modTx fun x => { x with endCause := some c }).memberTx = s.memberTx := by
    unfold State.memberTx State.modTx
    cases s.seq.tx <;> rfl
  rw [← hmod]
  unfold State.abandonArming State.disarm
  split <;> rfl

/-- The end of the holder's arming (R62): a claim that waits for it takes the turn. -/
theorem State.endMemberTx_arming (ha : s.arming = true) (hm : s.memberTx = true) (c : TxEndCause) :
    s.endMemberTx c = if s.idu.claim = .atTxEnd then (s.abandonArming c).claimPause else s.abandonArming c := by
  have hs : s.seq.state ≠ .exciting := fun k => by simp [State.arming, k] at ha
  have hidu : (s.abandonArming c).idu = s.idu := by rw [State.abandonArming_frame]
  simp [State.endMemberTx, State.endTx, State.tellExit, hm, hs, ha, State.memberTx_abandonArming, hidu]

theorem State.modTurn_id (s : State) : s.modTurn id = s := by
  cases ht : s.turn with
  | none => exact State.modTurn_of_none _ ht
  | some t =>
    rw [State.modTurn_of_turn _ ht, id, ← State.turn_eq_some.mp ht]
    rfl

theorem State.turn_claimPause (s : State) :
    s.claimPause.turn = s.turn.map fun t => { t with sub := .paused, idleStart := none } := by
  have key : s.claimPause.arb = (s.modTurn fun t => { t with sub := .paused, idleStart := none }).arb := by
    unfold State.claimPause; dsimp only; split <;> simp
  rw [← State.turn_modTurn, State.turn, key]
  rfl

theorem State.claimPause_claims (hq : s.seq.state ≠ .quiet) :
    s.claimPause.idu.claim = .holdingPause ∧ s.claimPause.idu.deadlineRuns = false := by
  have hq' : (s.modTurn fun t => { t with sub := .paused, idleStart := none }).seq.state ≠ .quiet := by
    rw [(s.modTurn_frame _).1]
    exact hq
  unfold State.claimPause
  dsimp only
  split
  · rw [State.beginCycle_of_busy _ (by exact hq')]
    exact ⟨rfl, rfl⟩
  · exact ⟨rfl, rfl⟩

theorem State.memberTx_congr (h : t.seq = s.seq) : t.memberTx = s.memberTx := by rw [State.memberTx, h]; rfl

/-- A change of the turn, and what takes no time after it, while the holder's transmission is in SEQ. -/
theorem State.aside_settle (e : h.Aside s) (ht : s.turn = some y) (hm : s.memberTx = true)
    (hg : zeroLength s.arb.gap = false) (hz : zeroLength s.seq.step = false) {f : Turn → Turn} :
    h.Aside (s.modTurn f).settle ∧ (s.modTurn f).settle.turn = some { f y with idleStart := none } ∧
      (s.modTurn f).settle.idu = { s.idu with quiet := none } := by
  have hmod : (s.modTurn f).turn = some (f y) := by rw [State.turn_modTurn, ht]; rfl
  have hidle : (s.modTurn f).idleMayRun (f y) = false := by
    have hmember : (s.modTurn f).memberTx = true := by rw [(s.modTurn_frame f).1]; exact hm
    simp [State.idleMayRun, hmember]
  have hg' : zeroLength (s.modTurn f).arb.gap = false := by rw [(s.modTurn_frame f).1]; exact hg
  have hz' : zeroLength (s.modTurn f).seq.step = false := by rw [(s.modTurn_frame f).1]; exact hz
  refine ⟨(e.modTurn f).settle hmod hg' hz', ?_, ?_⟩ <;> rw [State.settle_in_turn hmod hg' hz', hidle]
  · rfl
  · rw [(s.modTurn_frame f).1]
    rfl

/-- In a turn the quiet timer does not run. -/
theorem State.quiet_of_turn {s : State} {t : Turn} (ht : s.turn = some t) (hset : s.settled) : s.idu.quiet = none := by
  have hrun : s.quietMayRun = false := by simp [State.quietMayRun, State.turn_eq_some.mp ht]
  have key := (State.settled_iff.mp hset).2.2
  rwa [hrun, Option.isSome_eq_false_iff, Option.isNone_iff_eq_none] at key

/-- The abandoned arming, once it has settled: the turn stays, with its idle hang stopped, and a claim that waits for the
end pauses it. -/
structure State.ArmingEnds (s v : State) (y : Turn) (x : Tx) (c : TxEndCause) (f : Turn → Turn) : Prop where
  ended : s.armingEndedAs v x c
  holder : v.holder = s.holder
  txCount : v.turn.map (·.txCount) = s.turn.map (·.txCount)
  deadline : s.idu.deadlineRuns = false → v.idu.deadlineRuns = false
  unclaimed : s.idu.claim ≠ .atTxEnd → v.turn = some { f y with idleStart := none } ∧ v.idu = s.idu
  claimed : s.idu.claim = .atTxEnd → v.idu.claim = .holdingPause ∧ v.turn.map (·.sub) = some .paused

theorem State.arming_ends (ht : s.turn = some y) (ha : s.arming = true) (hm : s.memberTx = true)
    (hx : s.seq.tx = some x) (hamp : s.seq.ampkey = true → x.path = .amplified) (hoff : s.seq.active.ampOff ≠ 0)
    (hrel : s.seq.active.relayOff ≠ 0) (hset : s.settled) (hd : s.undemands c) {f : Turn → Turn}
    (hf : ∀ t, (f t).holder = t.holder ∧ (f t).txCount = t.txCount ∧ (f t).sub = t.sub) :
    s.ArmingEnds ((s.endMemberTx c).modTurn f).settle y x c f := by
  have d := State.abandonArming_disarms hx hamp hd
  have hframe := s.abandonArming_frame c
  have hq := d.not_quiet
  have hz := d.step_runs hoff hrel
  have hmember := (State.memberTx_abandonArming c s).trans hm
  have hquiet := State.quiet_of_turn ht hset
  have hgap : zeroLength (s.abandonArming c).arb.gap = false := by
    rw [hframe]
    exact (State.settled_iff.mp hset).1.2.1
  have hturn : (s.abandonArming c).turn = some y := by rw [hframe]; exact ht
  have hidu : (s.abandonArming c).idu = s.idu := by rw [hframe]
  have hclaim := State.claimPause_claims hq
  have hpause := (State.Aside.refl (s.abandonArming c)).claimPause hq
  have hpausedTurn := State.turn_claimPause (s.abandonArming c)
  have hended (v : State) (e : (s.abandonArming c).Aside v) : s.armingEndedAs v x c := d.ended e
  rw [hturn] at hpausedTurn
  rw [State.endMemberTx_arming ha hm]
  generalize s.abandonArming c = a at *
  obtain ⟨fholder, fcount, fsub⟩ := hf y
  split
  · rename_i hc
    have hz' : zeroLength a.claimPause.seq.step = false := by rw [hpause.seq]; exact hz
    have hg' : zeroLength a.claimPause.arb.gap = false := by
      rw [((State.Lasts.refl a).claimPause).gap]
      exact hgap
    obtain ⟨e, vturn, vidu⟩ := State.aside_settle (f := f) hpause hpausedTurn
      ((State.memberTx_congr hpause.seq).trans hmember) hg' hz'
    obtain ⟨pholder, pcount, psub⟩ := hf { y with sub := .paused, idleStart := none }
    generalize (a.claimPause.modTurn f).settle = v at e vturn vidu ⊢
    refine ⟨hended v e, ?_, ?_, fun _ => by rw [vidu]; exact hclaim.2, fun k => absurd hc k,
      fun _ => ⟨by rw [vidu]; exact hclaim.1, by rw [vturn]; exact congrArg some psub⟩⟩
    · rw [State.holder_of_turn vturn, State.holder_of_turn ht]
      exact congrArg some pholder
    · rw [vturn, ht]
      exact congrArg some pcount
  · rename_i hc
    obtain ⟨e, vturn, vidu⟩ := State.aside_settle (f := f) (.refl a) hturn hmember hgap hz
    rw [hidu] at vidu
    generalize (a.modTurn f).settle = v at e vturn vidu ⊢
    refine ⟨hended v e, ?_, ?_, fun h => by rw [vidu]; exact h, fun _ => ⟨vturn, by rw [vidu, ← hquiet]⟩,
      fun k => absurd k hc⟩
    · rw [State.holder_of_turn vturn, State.holder_of_turn ht]
      exact congrArg some fholder
    · rw [vturn, ht]
      exact congrArg some fcount

end Arming

/-! ### PttOff (R55) -/

section PttOff

variable {s : State} {t : Turn} {w : SlotId} {tag : Nat}

theorem exec_pttOff (hc : s.closed = false) (hn : s.tenthsDue = 0) (hv : s.tenancy w ≠ .vacant) :
    exec (.pttOff tag w.val) s = .next ((State.pttOff w (s.heard (.slot w))).reply 0x25 tag) :=
  congrArg Host.Outcome.next (State.takeOwn_taken hc hn hv)

/-- LOCAL_PTT does not keep the demand of slot `w`. -/
def State.undriven (w : SlotId) (s : State) : Prop := w ≠ 0 ∨ s.functionActive .localPtt = false

theorem State.pttOff_releases (ht : s.turn = some t) (hw : t.holder = w) (he : t.emission ≠ .cw) (hl : s.undriven w) :
    s.pttOff w = done (s.undemanded.demandInactive .pttOff).settle := by
  have hof : s.turnOf w = some t := by simp [State.turnOf, ht, hw]
  have hlocal : s.undemanded.localDemand w = false := by
    rcases hl with hl | hl
    · simp [State.localDemand, hl]
    · have hf : s.undemanded.functionActive .localPtt = false := hl
      simp [State.localDemand, hf]
  rw [State.undemanded] at hlocal
  simp only [State.pttOff, hof, he, if_false, hlocal]
  rfl

theorem State.pttOff_refused (h : ∀ t ∈ s.turn, t.holder = w → t.emission = .cw) : s.pttOff w = refuse .wrongState s := by
  unfold State.pttOff State.turnOf
  cases ht : s.turn with
  | none => rfl
  | some t =>
    by_cases hw : t.holder = w
    · simp [hw, h t ht hw]
    · simp [hw]

/-- Clears the pending start of a turn. -/
def Turn.unpended (t : Turn) : Turn := { t with pendingStart := false }

theorem State.demandInactive_eq (c : TxEndCause) (s : State) :
    s.demandInactive c = (s.endMemberTx c).modTurn Turn.unpended := rfl

theorem State.txEndedAs.reply_done {kind : Nat} {h u : State} {x : Tx} {c : TxEndCause} (e : h.txEndedAs u x c) :
    h.txEndedAs ((done u).reply kind tag) x c := by
  obtain ⟨e1, e2, e3, e4, e5, e6, e7, e8, e9, hraised, hrest⟩ := e
  exact ⟨e1, e2, e3, e4, e5, e6, e7, e8, e9, (Handled.raised_reply _ _ _ _ _).mpr hraised, hrest⟩

theorem State.armingEndedAs.reply_done {kind : Nat} {h u : State} {x : Tx} {c : TxEndCause}
    (e : h.armingEndedAs u x c) : h.armingEndedAs ((done u).reply kind tag) x c := e

theorem State.memberExciting_congr {u : State} (h : u.seq = s.seq) : u.memberExciting = s.memberExciting := by
  rw [State.memberExciting, State.memberTx_congr h, h]
  rfl

theorem State.heard_inr (a : Actor) (s : State) : (s.heard a).inr = s.inr := by
  obtain ⟨p, h⟩ := s.heard_eq a
  rw [h]
  rfl

theorem State.undriven_heard (a : Actor) (h : s.undriven w) : (s.heard a).undriven w := by
  rwa [State.undriven, State.functionActive_congr (s.heard_inr a)]

theorem State.settled_undemanded (h : s.settled) : s.undemanded.settled := by
  have key := State.settled_iff.mp h
  exact State.settled_iff.mpr key

end PttOff

theorem State.limitTimer_eq {s : State} {t : Turn} {x : Tx} {l : Clock} (ht : s.turn = some t) (hx : s.seq.tx = some x)
    (hm : s.memberExciting = true) (hl : x.limitStart = some l) :
    s.limitTimer = some ⟨l, (s.classOf t.holder).txLimit * 1000⟩ := by
  simp [State.limitTimer, ht, hx, hm, hl]

/-- The deadline timer does not run. -/
def State.undeadlined (s : State) : State := { s with idu := { s.idu with deadlineRuns := false } }

theorem State.deadline_ends {s : State} (h : s.running = true) : s.deadline = s.undeadlined.endMemberTx .idDeadline :=
  if_pos h

theorem State.settled_undeadlined {s : State} (h : s.settled) : s.undeadlined.settled := by
  have key := State.settled_iff.mp h
  exact State.settled_iff.mpr key

/-- It is not started again at the end of the holder's transmission. -/
theorem State.endMemberTx_deadline {s : State} {t : Turn} {c : TxEndCause} (ht : s.turn = some t)
    (hm : s.memberExciting = true) (hso : completesOver c = false) (htail : s.seq.active.tail ≠ 0) (hset : s.settled)
    (hd : s.idu.deadlineRuns = false) : (s.endMemberTx c).settle.idu.deadlineRuns = false := by
  obtain ⟨x, hx⟩ := State.tx_of_memberExciting hm
  have hs := (State.memberExciting_iff.mp hm).1
  have hend := State.normalEnd_seq c hs hx
  have hq : (s.normalEnd c).seq.state ≠ .quiet := by rw [hend]; nofun
  have hidu := State.normalEnd_idu c hs hx
  have hseq : (s.endMemberTx c).seq = (s.normalEnd c).seq ∧ (s.endMemberTx c).idu.deadlineRuns = false ∧
      (s.normalEnd c).Lasts (s.endMemberTx c) := by
    rw [State.endMemberTx_keeps_turn hm (by rw [hso]; rfl)]
    split
    · exact ⟨State.claimPause_seq hq, (State.claimPause_claims hq).2, (State.Lasts.refl _).claimPause⟩
    · exact ⟨rfl, by rw [hidu]; exact hd, .refl _⟩
  obtain ⟨hseq, hruns, hlasts⟩ := hseq
  have hterms : (s.endMemberTx c).turn.map Turn.terms = some t.terms := by
    rw [hlasts.turnTerms, State.turn, State.normalEnd_arb, ← State.turn, ht]
    rfl
  obtain ⟨y, hy, -⟩ := Option.map_eq_some_iff.mp hterms
  rw [State.settle_in_turn hy (by rw [hlasts.gap, State.normalEnd_arb]; exact (State.settled_iff.mp hset).1.2.1)
    (by rw [hseq, hend]; simp [zeroLength, htail])]
  exact hruns

/-- LOCAL_PTT of the holder's PHONE or DATA turn is let go (R46, R55). -/
theorem State.debounced_releases {s : State} {i : InputId} {y : Input} {t : Turn} (hy : s.inr.inputs.read i = y)
    (hf : y.function = .localPtt) (hl : y.trigger = .level) (hraw : y.raw = false) (hd : y.debounced = true)
    (hp : y.polarity = .activeHigh) (ho : ∀ j, j ≠ i → (s.inr.inputs.read j).function ≠ .localPtt)
    (ht : s.turn = some t) (hw : t.holder = 0) (he : t.emission ≠ .cw) (hdem : s.seq.pttDemand = false) :
    s.debounced i = (s.setInputOf i y.taken).demandInactive .localRelease := by
  have hbefore : s.functionActive .localPtt = true :=
    State.functionActive_iff.mpr ⟨i, by rw [hy]; exact ⟨hf, hl, by simp [Input.active, hp, hd]⟩⟩
  have hafter : (s.setInputOf i y.taken).functionActive .localPtt = false :=
    State.functionActive_falls (by simp [Input.active, Input.taken, hp, hraw]) fun j hj hfj => absurd hfj (ho j hj)
  have hphone : (s.setInputOf i y.taken).localPhone = true := by
    have ht' : (s.setInputOf i y.taken).turn = some t := ht
    simp [State.localPhone, ht', hw, he]
  have hdem' : (s.setInputOf i y.taken).seq.pttDemand = false := hdem
  rw [State.debounced_eq hy (.inl hl), hf]
  simp [State.deliver, State.reading, hbefore, hafter, State.pttReleased, hphone, hdem']

/-- Without a running transmission of the holder there is nothing to end. -/
theorem State.endMemberTx_of_not_running {s : State} (h : s.running = false) (c : TxEndCause) : s.endMemberTx c = s := by
  unfold State.endMemberTx
  split
  · rename_i hm
    simp only [State.running, hm, Bool.true_and, Bool.or_eq_false_iff, decide_eq_false_iff_not] at h
    simp [State.endTx, h.1, h.2]
  · rfl

/-- A pending start is cleared where nothing runs, and the idle hang starts where its conditions then hold. -/
theorem State.demandInactive_of_pending {s : State} {t : Turn} (ht : s.turn = some t) (hp : t.pendingStart = true)
    (hrun : s.running = false) (hset : s.settled) (c : TxEndCause) : (s.demandInactive c).settle = { s with
      arb := { s.arb with arbiter := .turn { t with
        pendingStart := false, idleStart := if t.sub = .active ∧ s.memberTx = false then some s.clock else none } } } := by
  have hidle : t.idleStart = none := by
    have key := (State.settled_iff.mp hset).2.1 t ht
    rwa [State.idleMayRun, hp, Bool.not_true, Bool.and_false, Option.isSome_eq_false_iff,
      Option.isNone_iff_eq_none] at key
  have hmay : (s.setArbiter (.turn t.unpended)).idleMayRun t.unpended = decide (t.sub = .active ∧ s.memberTx = false) := by
    have hm : (s.setArbiter (.turn t.unpended)).memberTx = s.memberTx := rfl
    have hsub : t.unpended.sub = t.sub := rfl
    have hpend : t.unpended.pendingStart = false := rfl
    rw [State.idleMayRun, hm, hsub, hpend]
    cases s.memberTx <;> simp
  have hquiet : { s.idu with quiet := none } = s.idu := by rw [← State.quiet_of_turn ht hset]
  have hget : t.unpended.idleStart.getD (s.setArbiter (.turn t.unpended)).clock = s.clock := by
    rw [show t.unpended.idleStart = none from hidle]
    rfl
  rw [State.demandInactive_eq, State.endMemberTx_of_not_running hrun, State.modTurn_of_turn _ ht,
    State.settle_in_turn (s := s.setArbiter (.turn t.unpended)) rfl (State.settled_iff.mp hset).1.2.1 (State.settled_iff.mp hset).1.2.2,
    hmay, hget]
  simp only [decide_eq_true_eq]
  exact congrArg (fun i : Idu => { s with
    arb := { s.arb with arbiter := .turn { t with
      pendingStart := false, idleStart := if t.sub = SubState.active ∧ s.memberTx = false then some s.clock else none } }
    idu := i }) hquiet

/-- A raise of another kind tells of no transmission. -/
theorem State.tellsNoTx_raise {h s : State} {r : Report} (hr : r.index = 1) (hl : s.lnk = h.lnk.raise r) :
    h.tellsNoTx s := by
  refine ⟨?_, fun q hq => ?_⟩
  · rw [hl, Lnk.flags_raise, hr]
    have hapart : kindBit 1 &&& (kindBit 2 ||| kindBit 3) = 0#16 := by decide
    rw [BitVec.and_or_distrib_right, hapart, BitVec.or_zero]
  · rw [hl, Lnk.reports_raise] at hq
    split at hq
    · rcases List.mem_append.mp hq with hq | hq
      · exact .inl hq
      · rw [List.mem_singleton.mp hq, hr]
        exact .inr ⟨nofun, nofun⟩
    · exact .inl hq

/-- A turn end abandons the arming of its transmission (R35, R62). -/
theorem State.turnEnd_arming {s : State} {t : Turn} {x : Tx} {k : TurnEndCause} (ht : s.turn = some t)
    (hp : t.sub ≠ .paused) (ha : s.arming = true) (hm : s.memberTx = true) (hx : s.seq.tx = some x)
    (hamp : s.seq.ampkey = true → x.path = .amplified) (hoff : s.seq.active.ampOff ≠ 0)
    (hrel : s.seq.active.relayOff ≠ 0) (hgap : s.arb.turnGap ≠ 0) (hdue : s.idu.due = false) (hc : startsGap k = true) :
    s.armingEndedAs (s.turnEnd k).settle x .turnEnd := by
  have hs : s.seq.state ≠ .exciting := fun k => by simp [State.arming, k] at ha
  have hend : s.endTurnTx = s.abandonArming .turnEnd := by simp [State.endTurnTx, hm, hs, ha]
  have hpaused : (decide (t.sub = .paused) && s.ready) = false := by simp [hp]
  have hframe := s.abandonArming_frame .turnEnd
  have d := State.abandonArming_disarms (c := .turnEnd) hx hamp (.inr rfl)
  have hz := d.step_runs hoff hrel
  have harb := State.turnEnd_arb k ht
  rw [hpaused, hc] at harb
  have hseq := State.turnEnd_seq k ht hpaused
  have hlnk := State.lnk_turnEnd k ht
  obtain ⟨due, -, -⟩ := State.turnEnd_idu (k := k) ht hp
  obtain ⟨z, hturn⟩ := State.turnEnd_frame (c := k) ht hp
  have hfixed := ((State.Evolves.refl s).turnEnd k).settle.fixed
  have hnone : (s.turnEnd k).settleStep = none := by
    rw [State.settleStep_eq_none, hseq, hend]
    exact ⟨by simp [due, hdue], by simp [harb, zeroLength, hgap], hz⟩
  have hsettle : (s.turnEnd k).settle = (s.turnEnd k).syncQuiet := by
    rw [State.settle, State.settleFor_of_none hnone, State.syncIdle_of_no_turn (State.turn_turnEnd ..)]
  rw [hend] at hseq hlnk hturn
  obtain ⟨d1, d2, d3, d4, d5, d6, d7, -⟩ := d
  rw [hsettle] at hfixed ⊢
  have hl : (s.abandonArming .turnEnd).lnk = s.lnk := by rw [hframe]
  have hkept : (s.turnEnd k).drv = s.drv ∧ (s.turnEnd k).amg = s.amg ∧ (s.turnEnd k).msr = s.msr ∧
      (s.turnEnd k).prt = s.prt := by
    rw [hturn, hframe]
    exact ⟨rfl, rfl, rfl, rfl⟩
  obtain ⟨hdrv, hamg, hmsr, hprt⟩ := hkept
  rw [hl] at hlnk
  have hq : (s.turnEnd k).syncQuiet.seq = (s.abandonArming .turnEnd).forgetTurn.seq := hseq
  refine ⟨by rw [hq]; exact d1, by rw [hq]; exact d2, by rw [hq]; exact d3, by rw [hq]; exact d4, by rw [hq]; exact d5,
    by rw [hq]; exact d6, ?_, by rw [hq]; rfl, State.tellsNoTx_raise (by rfl) hlnk, hdrv, hamg, hmsr, hprt, hfixed⟩
  rw [hq, ← d7]
  simp [State.forgetTurn, Function.comp_def]

/-- Settles O46. -/
theorem transmissionsEndNormally : Obligations.TransmissionsEndNormally := by
  refine ⟨fun tag w tn x s => ?_, fun tn x l s => ?_, fun tn x tm s => ?_, fun tn x s => ?_, fun i y n tn x s => ?_,
    fun tag w tn s => ?_, fun tag w tn x s => ?_, fun i y n tn x s => ?_, fun tn x s => ?_,
    fun tag actor a w tn x s => ?_, fun tn x s => ?_, fun tag w s => ?_⟩
  · intro h hc hn hv ht hw he hl hx hm htail hset
    have hh : h.turn = some tn := by simpa [h] using ht
    have hset' : h.undemanded.settled := State.settled_undemanded (State.settled_heard _ hset)
    have hm' : h.undemanded.memberExciting = true :=
      (State.memberExciting_congr (s.heard_seq _)).trans hm
    have hx' : h.undemanded.seq.tx = some x := (congrArg Seq.tx (s.heard_seq _)).trans hx
    have hended := State.endMemberTx_ends (c := .pttOff) hm' hx' (.inl rfl) nofun
      (by simpa [State.undemanded, h] using htail) Turn.unpended
    have hover (hso : (h.undemanded.classOf tn.holder).singleOver = true) :=
      State.endMemberTx_ends_turn (s := h.undemanded) (c := .pttOff) hh hm' hx' rfl hso Turn.unpended
    have hholder (hso : h.undemanded.singleOver = false) :=
      State.endMemberTx_holder (c := .pttOff) hm' (by rw [hso]; rfl) hh hset' (f := Turn.unpended) fun _ => rfl
    have hsingle : h.undemanded.singleOver = (h.classOf w).singleOver := by
      rw [State.singleOver, State.holder_of_turn (s := h.undemanded) hh, hw]
      rfl
    refine ⟨_, exec_pttOff hc hn hv, ?_⟩
    rw [State.pttOff_releases (s := h) hh hw he (State.undriven_heard _ hl), State.demandInactive_eq]
    rw [hsingle] at hholder
    rw [hw] at hover hholder
    generalize State.settle _ = t at hended hover hholder ⊢
    exact ⟨hended.reply_done, fun hso => hover hso, fun hso _ => hholder hso, Handled.replied _ _ _ nofun⟩
  · intro h hr ht hl hx hm htail hset hn
    have hh : h.turn = some tn := by simpa [h] using ht
    have hm' : h.memberExciting = true := (State.memberExciting_congr (State.bringTo_seq ..)).trans hm
    have hx' : h.seq.tx = some x := by simpa [h] using hx
    have hended := State.endMemberTx_ends (c := .txLimit) hm' hx' (.inr rfl) nofun (by simpa [h] using htail) id
    have hover (hso : (h.classOf tn.holder).singleOver = true) :=
      State.endMemberTx_ends_turn (c := .txLimit) hh hm' hx' rfl hso id
    rw [State.modTurn_id] at hended hover
    exact ⟨_, congrArg Host.Outcome.next (State.onExpirySettled_taken hr (State.limitTimer_eq ht hx hm hl) hn
      ((State.limitTimer_eq hh hx' hm' hl).trans (by rw [State.classOf_bringTo]))), hended, hover⟩
  · intro h hr ht hhang hx hm htail hset hn
    have hh : h.turn = some tn := by simpa [h] using ht
    have hm' : h.memberExciting = true := (State.memberExciting_congr (State.bringTo_seq ..)).trans hm
    have hx' : h.seq.tx = some x := by simpa [h] using hx
    have hended := State.endMemberTx_ends (c := .cwHang) hm' hx' (.inr rfl) nofun (by simpa [h] using htail) id
    have hover (hso : (h.classOf tn.holder).singleOver = true) :=
      State.endMemberTx_ends_turn (c := .cwHang) hh hm' hx' rfl hso id
    rw [State.modTurn_id] at hended hover
    exact ⟨_, congrArg Host.Outcome.next (State.onExpirySettled_taken hr hhang hn (by rw [State.bringTo_ktl, hhang])),
      hended, hover⟩
  · intro h hr ht hruns hx hm htail hset hn
    have hh : h.undeadlined.turn = some tn := (State.turn_bringTo ..).trans ht
    have hm' : h.undeadlined.memberExciting = true := (State.memberExciting_congr (State.bringTo_seq ..)).trans hm
    have hx' : h.undeadlined.seq.tx = some x := (congrArg Seq.tx (State.bringTo_seq ..)).trans hx
    have htail' : h.undeadlined.seq.active.tail ≠ 0 := by
      rw [show h.undeadlined.seq = s.seq from State.bringTo_seq ..]
      exact htail
    have hset' : h.undeadlined.settled := State.settled_undeadlined (State.settled_bringTo _ hset)
    have hended := State.endMemberTx_ends (c := .idDeadline) hm' hx' (.inr rfl) nofun htail' id
    have hholder := State.endMemberTx_holder (c := .idDeadline) hm' rfl hh hset' (f := id) fun _ => rfl
    have hdeadline := State.endMemberTx_deadline (c := .idDeadline) hh hm' rfl htail' hset' rfl
    rw [State.modTurn_id] at hended hholder
    have hrun : h.running = true := by
      obtain ⟨he, hmem⟩ := State.memberExciting_iff.mp hm'
      have he' : h.seq.state = .exciting := he
      have hmem' : h.memberTx = true := hmem
      simp [State.running, he', hmem']
    have hdue (u : State) (hu : u.idu = s.idu) : u.deadlineDue = some s.idu.deadlineAt := by
      rw [State.deadlineDue, hu, hruns]
      rfl
    refine ⟨_, congrArg Host.Outcome.next (State.atInstant_taken hr (hdue s rfl) hn (hdue _ (State.bringTo_idu ..))), ?_⟩
    rw [State.deadline_ends (s := h) hrun]
    generalize State.settle _ = t at hended hholder hdeadline ⊢
    exact ⟨hended, hholder, hdeadline⟩
  · intro h g hr hy hs hf hl hraw hd hpol hother ht hw he hdem hx hm htail hset hn
    have hseq : (h.setInputOf i y.taken).seq = s.seq := State.bringTo_seq ..
    have hh : (h.setInputOf i y.taken).turn = some tn := (State.turn_bringTo ..).trans ht
    have hm' := (State.memberExciting_congr hseq).trans hm
    have hx' : (h.setInputOf i y.taken).seq.tx = some x := by rw [hseq]; exact hx
    have hended := State.endMemberTx_ends (c := .localRelease) hm' hx' (.inl (by rw [hseq]; exact hdem)) nofun
      (by rw [hseq]; exact htail) Turn.unpended
    have hover (hso : ((h.setInputOf i y.taken).classOf tn.holder).singleOver = true) :=
      State.endMemberTx_ends_turn (c := .localRelease) hh hm' hx' rfl hso Turn.unpended
    refine ⟨_, exec_debounceExpiry hr hy hs hn, ?_⟩
    rw [State.debounced_releases (s := h) (by simpa [h] using hy) hf hl hraw hd hpol (by simpa [h] using hother)
      ((State.turn_bringTo ..).trans ht) hw he (by simpa [h] using hdem), State.demandInactive_eq]
    rw [hw] at hover
    generalize State.settle _ = t at hended hover ⊢
    exact ⟨hended, hover⟩
  · intro h hc hn hv ht hw he hp hl hrun hset
    have hh : h.undemanded.turn = some tn := (State.heard_turn ..).trans ht
    have hset' := State.settled_undemanded (State.settled_heard (.slot w) hset)
    have hmember : h.memberTx = s.memberTx := State.memberTx_congr (State.heard_seq ..)
    have hrun' : h.undemanded.running = false := by
      have key : h.running = false := by rwa [State.running, hmember, State.arming, State.heard_seq]
      exact key
    rw [exec_pttOff hc hn hv, State.pttOff_releases (s := h) hh hw he (State.undriven_heard _ hl),
      State.demandInactive_of_pending hh hp hrun' hset', ← hmember]
    rfl
  · intro h hc hn hv ht hw he hl ha hm hx hamp hoff hrel hset
    have hh : h.undemanded.turn = some tn := (State.heard_turn ..).trans ht
    have hseq : h.undemanded.seq = { s.seq with pttDemand := false } := by
      rw [State.undemanded, State.heard_seq]
    have key := State.arming_ends (s := h.undemanded) (c := .pttOff) (f := Turn.unpended) hh
      (by rw [State.arming, hseq]; exact ha) ((State.memberTx_congr (State.heard_seq _ _)).trans hm) (by rw [hseq]; exact hx)
      (by rw [hseq]; exact hamp) (by rw [hseq]; exact hoff) (by rw [hseq]; exact hrel)
      (State.settled_undemanded (State.settled_heard _ hset)) (.inl rfl) fun _ => ⟨rfl, rfl, rfl⟩
    refine ⟨_, exec_pttOff hc hn hv, ?_⟩
    rw [State.pttOff_releases (s := h) hh hw he (State.undriven_heard _ hl), State.demandInactive_eq]
    generalize State.settle _ = t at key ⊢
    exact ⟨key.ended.reply_done, key.holder, key.txCount, key.unclaimed, key.claimed, Handled.replied _ _ _ nofun⟩
  · intro h g hr hy hs hf hl hraw hd hpol hother ht hw he hdem ha hm hx hamp hoff hrel hset hn
    have hseq : (h.setInputOf i y.taken).seq = s.seq := State.bringTo_seq ..
    have hh : (h.setInputOf i y.taken).turn = some tn := (State.turn_bringTo ..).trans ht
    have key := State.arming_ends (s := h.setInputOf i y.taken) (c := .localRelease) (f := Turn.unpended) hh
      (by rw [State.arming, hseq]; exact ha) ((State.memberTx_congr hseq).trans hm) (by rw [hseq]; exact hx)
      (by rw [hseq]; exact hamp) (by rw [hseq]; exact hoff) (by rw [hseq]; exact hrel)
      (State.settled_setInputOf (State.settled_bringTo _ hset)) (.inl (by rw [hseq]; exact hdem))
      fun _ => ⟨rfl, rfl, rfl⟩
    refine ⟨_, exec_debounceExpiry hr hy hs hn, ?_⟩
    rw [State.debounced_releases (s := h) (by simpa [h] using hy) hf hl hraw hd hpol (by simpa [h] using hother)
      ((State.turn_bringTo ..).trans ht) hw he (by simpa [h] using hdem), State.demandInactive_eq]
    generalize State.settle _ = t at key ⊢
    exact ⟨key.ended, key.holder, key.txCount, key.unclaimed, key.claimed⟩
  · intro h hr ht hruns ha hm hx hamp hoff hrel hset hn
    have hh : h.undeadlined.turn = some tn := (State.turn_bringTo ..).trans ht
    have hseq : h.undeadlined.seq = s.seq := State.bringTo_seq ..
    have key := State.arming_ends (s := h.undeadlined) (c := .idDeadline) (f := id) hh
      (by rw [State.arming, hseq]; exact ha) ((State.memberTx_congr hseq).trans hm) (by rw [hseq]; exact hx)
      (by rw [hseq]; exact hamp) (by rw [hseq]; exact hoff) (by rw [hseq]; exact hrel)
      (State.settled_undeadlined (State.settled_bringTo _ hset)) (.inr rfl) fun _ => ⟨rfl, rfl, rfl⟩
    rw [State.modTurn_id] at key
    have hrun : h.running = true := by
      have ha' : h.arming = true := by rw [State.arming, State.bringTo_seq]; exact ha
      have hm' : h.memberTx = true := (State.memberTx_congr hseq).trans hm
      simp [State.running, ha', hm']
    have hdue (u : State) (hu : u.idu = s.idu) : u.deadlineDue = some s.idu.deadlineAt := by
      rw [State.deadlineDue, hu, hruns]
      rfl
    refine ⟨_, congrArg Host.Outcome.next (State.atInstant_taken hr (hdue s rfl) hn (hdue _ (State.bringTo_idu ..))), ?_⟩
    rw [State.deadline_ends (s := h) hrun]
    generalize State.settle _ = t at key ⊢
    exact ⟨key.ended, key.deadline rfl, key.holder, key.txCount, key.claimed⟩
  · intro h htk ht hw hgap hdue hidle hstarts hp ha hm hx hamp hoff hrel hset
    have hh : h.turn = some tn := by simpa [h] using ht
    have hseq : h.seq = s.seq := State.heard_seq ..
    have key := State.turnEnd_ends (c := .endedByControl) hh rfl hp (State.settled_heard _ hset)
      (by simpa [h] using hgap) (by simpa [h] using hdue) (by simpa [h] using hidle) (by simpa [h] using hstarts)
    have harming := State.turnEnd_arming (k := .endedByControl) hh hp (by rw [State.arming, hseq]; exact ha)
      ((State.memberTx_congr hseq).trans hm) (by rw [hseq]; exact hx) (by rw [hseq]; exact hamp) (by rw [hseq]; exact hoff)
      (by rw [hseq]; exact hrel) (by simpa [h] using hgap) (by simpa [h] using hdue) rfl
    rw [show (decide (tn.mode = .standing) && requeues .endedByControl) = decide (tn.mode = .standing) from
      Bool.and_true _] at key
    refine ⟨_, exec_endTurn htk w.val, ?_⟩
    rw [State.endTurn_of_holder (s := h) (by rw [State.holder_of_turn hh, hw])]
    generalize State.settle _ = t at key harming ⊢
    exact ⟨harming.reply_done, key.reply_done, Handled.replied _ _ _ nofun⟩
  · intro h hr ht hgap hdue hidle hstarts hp ha hm hx hamp hoff hrel hset hn
    have hh : h.turn = some tn := by simpa [h] using ht
    have hseq : h.seq = s.seq := State.bringTo_seq ..
    have key := State.turnEnd_ends (c := .turnLimit) hh rfl hp (State.settled_bringTo _ hset) (by simpa [h] using hgap)
      (by simpa [h] using hdue) (by simpa [h] using hidle) (by simpa [h] using hstarts)
    have harming := State.turnEnd_arming (k := .turnLimit) hh hp (by rw [State.arming, hseq]; exact ha)
      ((State.memberTx_congr hseq).trans hm) (by rw [hseq]; exact hx) (by rw [hseq]; exact hamp) (by rw [hseq]; exact hoff)
      (by rw [hseq]; exact hrel) (by simpa [h] using hgap) (by simpa [h] using hdue) rfl
    rw [show (decide (tn.mode = .standing) && requeues .turnLimit) = decide (tn.mode = .standing) from
      Bool.and_true _] at key
    refine ⟨_, congrArg Host.Outcome.next (State.onExpirySettled_taken hr (State.turnTimer_eq ht) hn ?_), harming, key⟩
    rw [State.turnTimer_eq (s := s.bringTo _) (by simpa using ht), State.classOf_bringTo]
  · intro h hc hn hv hcw
    rw [exec_pttOff hc hn hv, State.pttOff_refused (s := h) (by simpa [h] using hcw)]
    rfl

end Sys2Proof.Machine
end

section
/-! The keying timeline, its timers, and the local key (R84, R85, R88 to R91). -/

namespace Sys2Proof.Machine

set_option Elab.async false

/-! ### The key state of a turn (R85, R88, R90) -/

section KeyState

variable {s : State} {t : Turn}

theorem State.localKeyDown_of_turn (ht : s.turn = some t) : s.localKeyDown =
    (decide (t.holder = 0) && decide (t.emission = .cw) && s.functionActive .localKey && !s.ktl.suppression) := by
  rw [State.localKeyDown, ht]

theorem State.keyState_of_turn (ht : s.turn = some t) : s.keyState =
    if t.sub = .paused then .up else if s.ktl.state = .down || s.localKeyDown then .down else .up := by
  rw [State.keyState, ht]

/-- The local key keys no turn but slot 0's. -/
theorem State.localKeyDown_of_foreign (ht : s.turn = some t) (hw : t.holder ≠ 0) : s.localKeyDown = false := by
  simp [State.localKeyDown_of_turn ht, hw]

theorem State.keyState_of_local_up (ht : s.turn = some t) (hp : t.sub ≠ .paused) (hl : s.localKeyDown = false) :
    s.keyState = s.ktl.state := by
  rw [State.keyState_of_turn ht, if_neg hp, hl, Bool.or_false]
  cases s.ktl.state <;> rfl

theorem State.keyState_of_pause (ht : s.turn = some t) (hp : t.sub = .paused) : s.keyState = .up := by
  rw [State.keyState_of_turn ht, if_pos hp]

/-- The timeline state is UP, and no local key keys the turn `t`. -/
def State.keyLifted (t : Turn) (s : State) : Prop := s.ktl.state = .up ∧ (t.sub = .paused ∨ s.localKeyDown = false)

theorem State.keyState_of_lifted (ht : s.turn = some t) (hu : s.keyLifted t) : s.keyState = .up := by
  obtain ⟨hu, hp | hl⟩ := hu
  · exact State.keyState_of_pause ht hp
  · simp [State.keyState_of_turn ht, hu, hl]

theorem State.hangMayRun_of_turn (ht : s.turn = some t) : s.hangMayRun =
    (s.memberExciting && s.ktl.timeline.isEmpty && decide (t.emission = .cw)) := by
  rw [State.hangMayRun, ht]

/-- The key state turns on KTL, the inputs, and three terms of the turn. -/
theorem State.keyState_congr {u : State} {x : Turn} (hu : u.turn = some x) (ht : s.turn = some t)
    (hx : x.holder = t.holder ∧ x.emission = t.emission ∧ x.sub = t.sub)
    (hk : (u.ktl.state, u.ktl.suppression) = (s.ktl.state, s.ktl.suppression)) (hi : u.inr = s.inr) :
    u.keyState = s.keyState := by
  obtain ⟨hholder, hemission, hsub⟩ := hx
  obtain ⟨hstate, hsup⟩ := Prod.mk.injEq .. ▸ hk
  rw [State.keyState_of_turn hu, State.keyState_of_turn ht, State.localKeyDown_of_turn hu, State.localKeyDown_of_turn ht,
    State.functionActive_congr hi, hholder, hemission, hsub, hstate, hsup]

theorem State.keyState_setArbiter {x : Turn} (ht : s.turn = some t)
    (hx : x.holder = t.holder ∧ x.emission = t.emission ∧ x.sub = t.sub) :
    (s.setArbiter (.turn x)).keyState = s.keyState :=
  State.keyState_congr (u := s.setArbiter (.turn x)) rfl ht hx rfl rfl

@[simp] theorem State.keyState_syncKey (s : State) : s.syncKey.keyState = s.keyState := rfl

/-- A key that is DOWN starts the stuck-key timer and stops the hang timer. -/
theorem State.syncKey_of_down (hk : s.keyState = .down) : s.syncKey = { s with ktl := { s.ktl with
    stuck := some (s.ktl.stuck.getD ⟨s.clock, s.ktl.params.stuckLimit * 1000⟩), hang := none } } := by
  simp [State.syncKey, hk, State.timer]

/-- A key that is UP stops the stuck-key timer, and the hang timer runs where it may. -/
theorem State.syncKey_of_up (hk : s.keyState = .up) : s.syncKey = { s with ktl := { s.ktl with
    stuck := none
    hang := if s.hangMayRun then some (s.ktl.hang.getD ⟨s.clock, s.ktl.params.cwHang⟩) else none } } := by
  simp [State.syncKey, hk, State.timer]

/-- KTL alone unsettles nothing. -/
theorem State.settled_withKeys {k : Ktl} (h : s.settled) : State.settled { s with ktl := k } := by
  have key := State.settled_iff.mp h
  exact State.settled_iff.mpr key

theorem State.settled_syncKey (h : s.settled) : s.syncKey.settled := State.settled_withKeys h

end KeyState

/-! ### What takes no time while a turn stands (R34) -/

/-- The turn with its idle hang as `s` has it run. -/
def Turn.idling (s : State) (t : Turn) : Turn :=
  { t with idleStart := if s.idleMayRun t then some (t.idleStart.getD s.clock) else none }

/-- While a turn stands and its waits take time, only the idle hang may start or stop. -/
theorem State.settle_idles {s : State} {t : Turn} (ht : s.turn = some t)
    (hz : zeroLength s.arb.gap = false ∧ zeroLength s.seq.step = false) (hq : s.idu.quiet = none) :
    s.settle = s.setArbiter (.turn (t.idling s)) := by
  have hquiet : { s.idu with quiet := none } = s.idu := by rw [← hq]
  rw [State.settle_in_turn ht hz.1 hz.2, hquiet]
  rfl

/-! ### A key-up at rest (R57, R84, R88, R89) -/

section AtRest

variable {s : State} {t : Turn}

/-- The turn after a key-up at rest: a CW turn's pending start is cleared. -/
def Turn.rested (t : Turn) : Turn := if t.emission = .cw then { t with pendingStart := false } else t

theorem Turn.rested_cw (h : t.emission = .cw) : t.rested = { t with pendingStart := false } := if_pos h

theorem Turn.rested_keeps (t : Turn) : t.rested.holder = t.holder ∧ t.rested.emission = t.emission ∧ t.rested.sub = t.sub := by
  unfold Turn.rested
  split <;> exact ⟨rfl, rfl, rfl⟩

/-- KTL after a key-up at rest. -/
def State.restedKeys (t : Turn) (s : State) : Ktl := { s.ktl with
  stuck := none
  burstGap := if s.ktl.burst.isSome then some ⟨s.clock, s.ktl.params.burstGap⟩ else s.ktl.burstGap
  hang := if s.memberExciting && s.ktl.timeline.isEmpty && decide (t.emission = .cw) then
      some (s.ktl.hang.getD ⟨s.clock, s.ktl.params.cwHang⟩) else none }

theorem State.restedKeys_of_empty (hl : s.ktl.timeline = []) (he : t.emission = .cw) : s.restedKeys t = { s.ktl with
    stuck := none
    burstGap := if s.ktl.burst.isSome then some ⟨s.clock, s.ktl.params.burstGap⟩ else s.ktl.burstGap
    hang := if s.memberExciting then some (s.ktl.hang.getD ⟨s.clock, s.ktl.params.cwHang⟩) else none } := by
  have hrun : (s.memberExciting && s.ktl.timeline.isEmpty && decide (t.emission = .cw)) = s.memberExciting := by
    simp [hl, he]
  rw [State.restedKeys, hrun]

/-- The state after a key-up at rest in the turn `t`. -/
def State.rested (t : Turn) (s : State) : State :=
  { s with arb := { s.arb with arbiter := .turn t.rested }, ktl := s.restedKeys t }

theorem State.keyUpAtRest_eq (ht : s.turn = some t) (hu : s.keyLifted t) :
    s.keyUpAtRest = s.rested t := by
  obtain ⟨k, hk⟩ : ∃ k, k = { s.ktl with
    burstGap := if s.ktl.burst.isSome then some (s.timer s.ktl.params.burstGap) else s.ktl.burstGap } := ⟨_, rfl⟩
  have hrest : s.keyUpAtRest = State.syncKey { s with arb := { s.arb with arbiter := .turn t.rested }, ktl := k } := by
    rw [State.keyUpAtRest, ← hk, State.modTurn_of_turn (s := { s with ktl := k }) _ ht]
    rfl
  have hdown : State.localKeyDown { s with arb := { s.arb with arbiter := .turn t.rested }, ktl := k } = s.localKeyDown := by
    rw [State.localKeyDown_of_turn rfl, State.localKeyDown_of_turn ht, t.rested_keeps.1, t.rested_keeps.2.1, hk]
    rfl
  rw [hrest, State.syncKey_of_up (State.keyState_of_lifted rfl
      ⟨by rw [hk]; exact hu.1, by rw [t.rested_keeps.2.2, hdown]; exact hu.2⟩),
    State.hangMayRun_of_turn rfl, t.rested_keeps.2.1, hk]
  rfl

theorem State.keyState_rested {u : State} (ht : s.turn = some t) :
    ((s.rested t).setArbiter (.turn (t.rested.idling u))).keyState = s.keyState :=
  State.keyState_congr (u := (s.rested t).setArbiter (.turn (t.rested.idling u))) rfl ht t.rested_keeps rfl rfl

/-- What takes no time after it: the idle hang may start. -/
theorem State.rested_settles (ht : s.turn = some t) (hset : s.settled) : (s.rested t).settle =
    (s.rested t).setArbiter (.turn (t.rested.idling (s.rested t))) :=
  State.settle_idles (s := s.rested t) rfl (State.settled_iff.mp hset).1.2
    (show s.idu.quiet = none from State.quiet_of_turn ht hset)

end AtRest

/-! ### Playout (R84) -/

section Playout

variable {s : State} {t : Turn} {e : KeyEntry} {l : List KeyEntry}

/-- The instant at which an entry plays. -/
def State.playAt (e : KeyEntry) (s : State) : Clock := s.clock + BitVec.ofNat 32 (sinceMs e.at_ s.keyNow)

theorem State.playDueAt_eq (hl : s.ktl.timeline = e :: l) : s.playDueAt = some (s.playAt e) := by
  rw [State.playDueAt, hl]
  rfl

/-- It stands when it has come. -/
theorem State.playAt_bringTo (e : KeyEntry) (s : State) : (s.bringTo (s.playAt e)).playAt e = s.playAt e := by
  cases hr : reached s.clock (s.playAt e) with
  | true => rw [State.bringTo_of_reached hr]
  | false =>
    have hnow : (s.bringTo (s.playAt e)).keyNow = e.at_ := by
      rw [State.keyNow, State.clock_bringTo hr]
      have hfuture : sinceMs e.at_ s.keyNow ≠ 0 := fun h => by simp [State.playAt, h] at hr
      simp only [sinceMs] at hfuture
      have hpos : (e.at_ - s.keyNow).toInt = ((e.at_ - s.keyNow).toNat : Int) := by
        rw [BitVec.toInt_eq_toNat_cond] at hfuture ⊢
        split
        · rfl
        · rename_i h
          rw [if_neg h] at hfuture
          omega
      rw [State.playAt, sinceMs, hpos, Int.toNat_natCast, State.keyNow]
      bv_omega
    rw [State.playAt, hnow, State.clock_bringTo hr]
    simp [sinceMs]

theorem exec_playout (hr : s.rst = false) (hl : s.ktl.timeline = e :: l)
    (hn : (s.bringTo (s.playAt e)).tenthsDue = 0) :
    exec .playout s = .next (s.bringTo (s.playAt e)).playOldest.settle := by
  have hstands : (s.bringTo (s.playAt e)).playDueAt = some (s.playAt e) := by
    rw [State.playDueAt_eq (e := e) (l := l) (by simpa using hl), State.playAt_bringTo]
  exact congrArg Host.Outcome.next (State.atInstant_taken hr (State.playDueAt_eq hl) hn hstands)

/-- The state whose timeline has lost its oldest entry. -/
def State.shifted (l : List KeyEntry) (s : State) : State := { s with ktl := { s.ktl with timeline := l } }

theorem State.playOldest_eq (hl : s.ktl.timeline = e :: l) : s.playOldest = (s.shifted l).playEvent e := by
  rw [State.playOldest, hl]
  rfl

/-- A DOWN plays in a turn of another slot. -/
theorem State.playOldest_down (hl : s.ktl.timeline = e :: l) (hd : e.dir = .down) (ht : s.turn = some t)
    (hw : t.holder ≠ 0) (hp : t.sub ≠ .paused) : ∃ g, s.playOldest = { s with ktl := { s.ktl with
      timeline := l, state := .down, burstGap := none, gated := g, hang := none
      stuck := some (s.ktl.stuck.getD ⟨s.clock, s.ktl.params.stuckLimit * 1000⟩) } } := by
  obtain ⟨u, hu⟩ : ∃ u : State, u = { s.shifted l with ktl := { (s.shifted l).ktl with
    state := .down, burstGap := none, gated := if s.memberExciting then none else some e } } := ⟨_, rfl⟩
  have hturn : u.turn = some t := by rw [hu]; exact ht
  have hdown : u.keyState = .down := by
    rw [State.keyState_of_local_up hturn hp (State.localKeyDown_of_foreign hturn hw), hu]
  have hplay : s.playOldest = u.syncKey := by
    rw [State.playOldest_eq hl, State.playEvent, hd, hu]
    rfl
  rw [hplay, State.syncKey_of_down hdown, hu]
  exact ⟨_, rfl⟩

/-- An UP plays: the state before its effects on the timers. -/
def State.lifted (l : List KeyEntry) (s : State) : State :=
  { (s.shifted l).raiseGated with ktl := { (s.shifted l).raiseGated.ktl with state := .up, gated := none } }

theorem State.lifted_eq (l : List KeyEntry) (s : State) : ∃ m,
    s.lifted l = { s with lnk := m, ktl := { s.ktl with timeline := l, state := .up, gated := none } } ∧
      s.Evolves (s.lifted l) := by
  have ev : s.Evolves (s.shifted l) := .same (.refl s)
  unfold State.lifted State.raiseGated
  split
  · exact ⟨_, rfl, (ev.raise _).same⟩
  · exact ⟨_, rfl, ev.same⟩

theorem State.playOldest_up (hl : s.ktl.timeline = e :: l) (hd : e.dir = .up) :
    s.playOldest = if (s.lifted l).keyAtRest then (s.lifted l).keyUpAtRest else (s.lifted l).syncKey := by
  rw [State.playOldest_eq hl, State.playEvent, hd]
  rfl

theorem State.settled_lifted (l : List KeyEntry) (h : s.settled) : (s.lifted l).settled := by
  obtain ⟨m, hm, -⟩ := s.lifted_eq l
  rw [hm]
  have key := State.settled_iff.mp h
  exact State.settled_iff.mpr key

end Playout

/-! ### A member start that is taken (R53, R57) -/

section Starts

variable {s : State} {t : Turn}

/-- The turn whose start is taken. -/
def Turn.started (t : Turn) : Turn :=
  { t with pendingStart := false, idleStart := none, txCount := countUp max16 t.txCount }

/-- From `s` to `u` a start of the turn `t` was taken, and nothing else changed. -/
structure State.Starts (s u : State) (t : Turn) : Prop where
  state : u.seq.state = .armRelay
  trr : u.seq.trr = true
  step : u.seq.step = some ⟨s.clock, s.seq.active.relayOn⟩
  tx : (u.seq.tx.map fun z => (z.kind, z.band, z.emission, z.current)) = some (.member t.holder, t.band, t.emission, true)
  turn : u.turn = some t.started
  frame : u = { s with seq := u.seq, arb := { s.arb with arbiter := .turn t.started }, amg := u.amg }
  evolves : s.Evolves u

theorem State.takeStart_starts (ht : s.turn = some t) : s.Starts s.takeStart t := by
  obtain ⟨u, hu⟩ : ∃ u : State, u = { s with seq := { s.seq with tx := some ⟨.member t.holder, t.band, t.emission,
    s.choosePath (s.uncapped t.holder t.band t.emission t.power), 0, 0, none, none, true⟩ } } := ⟨_, rfl⟩
  have hturn : u.turn = some t := by rw [hu]; exact ht
  have hstart : s.takeStart = (u.setArbiter (.turn t.started)).enterArmRelay := by
    rw [State.takeStart, ht, ← show u.modTurn _ = _ from State.modTurn_of_turn Turn.started hturn, hu]
    rfl
  have ev := (State.Evolves.refl s).takeStart
  rw [hstart, hu] at ev ⊢
  exact ⟨rfl, rfl, rfl, rfl, rfl, rfl, ev⟩

/-- Nothing more takes no time. -/
theorem State.takeStart_settles (ht : s.turn = some t) (hr : s.seq.active.relayOn ≠ 0) (hg : zeroLength s.arb.gap = false)
    (hq : s.idu.quiet = none) : s.Starts s.takeStart.settle t := by
  have key := State.takeStart_starts ht
  generalize s.takeStart = u at key ⊢
  have hmember : u.memberTx = true := by
    have htx := key.tx
    unfold State.memberTx
    cases hx : u.seq.tx with
    | none => rw [hx] at htx; cases htx
    | some z =>
      simp only [hx, Option.map_some, Option.some.injEq, Prod.mk.injEq] at htx
      obtain ⟨hkind, -, -, hcurrent⟩ := htx
      simp [hkind, hcurrent]
  have hsettle : u.settle = u := by
    refine (State.settle_idles key.turn ⟨?_, ?_⟩ ?_).trans ?_
    · rw [key.frame]; exact hg
    · rw [key.step]; simpa [zeroLength] using hr
    · rw [key.frame]; exact hq
    · have hidle : t.started.idling u = t.started := by simp [Turn.idling, State.idleMayRun, hmember, Turn.started]
      rw [hidle, ← State.turn_eq_some.mp key.turn]
      rfl
  rw [hsettle]
  exact key

end Starts

/-! ### LOCAL_KEY (R91) -/

section LocalKey

variable {s : State} {t : Turn} {i : InputId} {y : Input}

theorem State.debounced_presses (hy : s.inr.inputs.read i = y) (hf : y.function = .localKey) (hl : y.trigger = .level)
    (hs : s.functionActive .localKey = false) (ha : y.taken.active = true) :
    s.debounced i = (s.setInputOf i y.taken).keyPressed := by
  have hafter : (s.setInputOf i y.taken).functionActive .localKey = true := State.functionActive_rises hf hl ha
  rw [State.debounced_eq hy (.inl hl), hf]
  simp [State.deliver, State.reading, hs, hafter]

theorem State.debounced_letsGo (hy : s.inr.inputs.read i = y) (hf : y.function = .localKey) (hl : y.trigger = .level)
    (hs : s.functionActive .localKey = true) (ha : y.taken.active = false)
    (ho : ∀ j, j ≠ i → (s.inr.inputs.read j).function = .localKey → (s.inr.inputs.read j).active = false) :
    s.debounced i = (s.setInputOf i y.taken).keyReleased := by
  have hafter : (s.setInputOf i y.taken).functionActive .localKey = false := State.functionActive_falls ha ho
  rw [State.debounced_eq hy (.inl hl), hf]
  simp [State.deliver, State.reading, hs, hafter]

/-- An input's measure at its end, in the state `h` at its instant: what it leaves unchanged. -/
theorem State.measured {h : State} {c : Clock} (hc : h = s.bringTo c) (i : InputId) (y : Input) :
    (h.setInputOf i y).turn = s.turn ∧ (h.setInputOf i y).seq = s.seq ∧ (h.setInputOf i y).ktl = s.ktl ∧
      (h.setInputOf i y).ready = s.ready ∧ (s.settled → (h.setInputOf i y).settled) := by
  rw [hc]
  exact ⟨State.turn_bringTo .., State.bringTo_seq .., State.bringTo_ktl .., State.ready_bringTo ..,
    fun h => State.settled_setInputOf (State.settled_bringTo _ h)⟩

theorem State.localCw_of_turn (ht : s.turn = some t) (hw : t.holder = 0) (he : t.emission = .cw) : s.localCw = true := by
  simp [State.localCw, ht, hw, he]

/-- Slot 0's key is pressed in its CW turn. -/
theorem State.keyPressed_of_local (ht : s.turn = some t) (hw : t.holder = 0) (he : t.emission = .cw)
    (hs : s.ktl.suppression = false) :
    s.keyPressed = if s.ready then s.syncKey.memberStart.1 else s.syncKey :=
  if_pos ⟨State.localCw_of_turn ht hw he, hs⟩

theorem State.keyState_of_press (ht : s.turn = some t) (hw : t.holder = 0) (he : t.emission = .cw)
    (hs : s.ktl.suppression = false) (ha : s.functionActive .localKey = true) :
    s.keyState = if t.sub = .paused then .up else .down := by
  have hdown : s.localKeyDown = true := by simp [State.localKeyDown_of_turn ht, hw, he, hs, ha]
  rw [State.keyState_of_turn ht, hdown, Bool.or_true]
  rfl

/-- In QUIET, with the turn ACTIVE and the station READY, a start is taken. -/
theorem State.memberStart_takes (ht : s.turn = some t) (hp : t.sub = .active) (hq : s.seq.state = .quiet)
    (hr : s.ready = true) : s.memberStart.1 = s.takeStart := by
  unfold State.memberStart
  rw [ht]
  dsimp only
  rw [hq, hp, hr]
  rfl

/-- The turn whose start is pending. -/
def Turn.pended (t : Turn) : Turn := { t with pendingStart := true, idleStart := none }

/-- Outside ACTIVE, and with no transmission of the turn in SEQ, a start is pending. -/
theorem State.memberStart_pends (ht : s.turn = some t) (hp : t.sub ≠ .active) (hm : s.memberTx = false) :
    s.memberStart.1 = s.setArbiter (.turn t.pended) := by
  have hpending : s.setPending = s.setArbiter (.turn t.pended) :=
    State.modTurn_of_turn _ ht
  simp only [State.memberStart, ht, hm, hp, false_and, if_false, Bool.false_eq_true]
  cases s.seq.state <;> exact hpending

/-- Pressed in an ACTIVE turn, with SEQ QUIET and the station READY, the key starts a transmission. -/
theorem State.press_starts (ht : s.turn = some t) (hw : t.holder = 0) (he : t.emission = .cw)
    (hs : s.ktl.suppression = false) (hp : t.sub = .active) (hq : s.seq.state = .quiet) (hr : s.ready = true)
    (hrel : s.seq.active.relayOn ≠ 0) (hset : s.settled) : s.syncKey.Starts s.keyPressed.settle t := by
  have hturn : s.syncKey.turn = some t := ht
  rw [State.keyPressed_of_local ht hw he hs, if_pos hr, State.memberStart_takes hturn hp hq hr]
  exact State.takeStart_settles hturn hrel (State.settled_iff.mp hset).1.2.1
    (show s.idu.quiet = none from State.quiet_of_turn ht hset)

/-- Pressed outside ACTIVE, with no transmission of the turn in SEQ, it leaves a start pending. -/
theorem State.press_pends (ht : s.turn = some t) (hw : t.holder = 0) (he : t.emission = .cw)
    (hs : s.ktl.suppression = false) (hp : t.sub ≠ .active) (hm : s.memberTx = false) (hr : s.ready = true)
    (hset : s.settled) : s.keyPressed.settle = s.syncKey.setArbiter (.turn t.pended) := by
  have hturn : s.syncKey.turn = some t := ht
  have hquiet : s.idu.quiet = none := State.quiet_of_turn ht hset
  rw [State.keyPressed_of_local ht hw he hs, if_pos hr, State.memberStart_pends hturn hp hm]
  refine (State.settle_idles (s := s.syncKey.setArbiter (.turn t.pended)) rfl
    (State.settled_iff.mp hset).1.2 hquiet).trans ?_
  simp [Turn.idling, State.idleMayRun, State.setArbiter, Turn.pended]

/-- Let go at rest, the key is at rest; the idle hang may start. -/
theorem State.release_rests (ht : s.turn = some t) (hw : t.holder = 0) (he : t.emission = .cw)
    (hs : s.ktl.suppression = false) (hf : s.functionActive .localKey = false) (hu : s.ktl.state = .up)
    (hl : s.ktl.timeline = []) (hset : s.settled) :
    s.keyReleased.settle = (s.rested t).setArbiter (.turn (t.rested.idling (s.rested t))) := by
  have hdown : s.localKeyDown = false := by simp [State.localKeyDown_of_turn ht, hf]
  have hrest : s.keyAtRest = true := by simp [State.keyAtRest, hu, hl, hdown]
  have hrel : s.keyReleased = s.rested t := by
    rw [State.keyReleased, hs, State.localCw_of_turn ht hw he, hrest, ← State.keyUpAtRest_eq ht ⟨hu, .inr hdown⟩]
    rfl
  rw [hrel, State.rested_settles ht hset]

/-- Let go with a stroke or entries left, the key follows the timeline. -/
theorem State.release_follows (ht : s.turn = some t) (hw : t.holder = 0) (he : t.emission = .cw)
    (hs : s.ktl.suppression = false) (hu : s.ktl.state = .down ∨ s.ktl.timeline ≠ []) : s.keyReleased = s.syncKey := by
  have hrest : s.keyAtRest = false := by
    rcases hu with hu | hu <;> simp [State.keyAtRest, hu]
  rw [State.keyReleased, hs, State.localCw_of_turn ht hw he, hrest]
  rfl

/-- In every other turn, and suppressed, the key does nothing. -/
theorem State.keyPressed_of_apart (h : s.ktl.suppression = true ∨ ∀ z ∈ s.turn, z.holder = 0 → z.emission ≠ .cw) :
    s.keyPressed = s := by
  refine if_neg fun ⟨hc, hs⟩ => ?_
  rcases h with h | h
  · exact absurd (hs.symm.trans h) nofun
  · unfold State.localCw at hc
    split at hc
    · rename_i z hz
      simp only [Bool.and_eq_true, decide_eq_true_eq] at hc
      exact h z hz hc.1 hc.2
    · cases hc

/-- A start that is taken leaves the key state. -/
theorem State.Starts.keyState {u : State} (k : s.Starts u t) (ht : s.turn = some t) : u.keyState = s.keyState :=
  State.keyState_congr k.turn ht ⟨rfl, rfl, rfl⟩ (by rw [k.frame]) (by rw [k.frame])

/-- The parts that a start leaves as they are. -/
theorem State.Starts.parts {u : State} (k : s.Starts u t) : u.ktl = s.ktl ∧ u.fixed = s.fixed ∧ u.drv = s.drv ∧
    u.msr = s.msr ∧ u.prt = s.prt ∧ u.idu = s.idu ∧ u.acu = s.acu ∧ u.inr = s.inr := by
  have hfixed := k.evolves.fixed
  rw [k.frame] at hfixed ⊢
  exact ⟨rfl, hfixed, rfl, rfl, rfl, rfl, rfl, rfl⟩

end LocalKey

/-! ### The stuck-key guard (R90, R136) -/

section StuckKey

variable {s : State} {t : Turn}

/-- An occurrence that is no trip leaves the derived station state (R142). -/
theorem State.faulted_derived_same {k : FaultKind} (hk : tripKind k = false) (w : Option SlotId) (c : Option Code)
    (s : State) : (s.faulted k w c).derived = s.derived := by
  have hany : ((s.faulted k w c).prt.faults.any fun r => tripKind r.kind) = s.prt.faults.any fun r => tripKind r.kind := by
    change ((s.listAfter k w c).any fun r => tripKind r.kind) = _
    unfold State.listAfter
    split
    · rw [List.any_map]
      refine List.any_congr rfl fun r => ?_
      simp only [Function.comp]
      split <;> rfl
    · simp [hk]
  rw [State.derived, hany]
  rfl

/-- An occurrence that is no trip, where the station follows, is recorded and told. -/
theorem State.occur_records {k : FaultKind} (hk : tripKind k = false) (w : Option SlotId) (c : Option Code)
    (h : s.stationFollows) : s.occur k w c = s.faulted k w c := by
  have hd : (s.faulted k w c).derived = (s.faulted k w c).prt.station := (State.faulted_derived_same hk w c s).trans h.symm
  exact if_pos hd

/-- The record of an occurrence of STUCK_KEY, which has no condition. -/
theorem State.stuckKey_mem (s : State) (w : Option SlotId) (c : Option Code) :
    ∃ r ∈ s.listAfter .stuckKey w c, r.kind = .stuckKey ∧ r.last = s.seconds ∧ r.present = false := by
  unfold State.listAfter
  split
  · rename_i r hr
    have hk : r.kind = .stuckKey := by simpa using List.find?_some hr
    exact ⟨_, List.mem_map_of_mem (List.mem_of_find?_eq_some hr), by simp [hk, FaultRec.again]⟩
  · exact ⟨_, List.mem_append_right _ (List.mem_singleton_self _), rfl, rfl, rfl⟩

/-- The state whose timeline is flushed, with a local key that stays down suppressed. -/
def State.unkeyed (s : State) : State :=
  if s.flushKeys.keyState = .down then { s.flushKeys with ktl := { s.flushKeys.ktl with suppression := true } }
  else s.flushKeys

/-- The state whose local key is suppressed. -/
def State.suppressed (s : State) : State := { s with ktl := { s.ktl with suppression := true } }

theorem State.unkeyed_keys (s : State) : s.unkeyed = if s.flushKeys.keyState = .down then s.flushKeys.suppressed
    else s.flushKeys := rfl

theorem State.unkeyed_lifted (ht : s.turn = some t) : s.unkeyed.keyLifted t := by
  have hflush : s.flushKeys.turn = some t := ht
  rw [State.unkeyed_keys]
  split
  · have hsup : s.flushKeys.suppressed.turn = some t := ht
    refine ⟨rfl, .inr ?_⟩
    rw [State.localKeyDown_of_turn hsup]
    exact Bool.and_false _
  · rename_i hk
    refine ⟨rfl, or_iff_not_imp_left.mpr fun hpause => Bool.eq_false_iff.mpr fun hl => hk ?_⟩
    rw [State.keyState_of_turn hflush, if_neg hpause, hl, Bool.or_true]
    rfl

/-- What the flush and the suppression leave. -/
theorem State.unkeyed_frame (s : State) : ∃ p, s.unkeyed = { s with ktl := { s.flushKeys.ktl with suppression := p } } ∧
    (s.flushKeys.keyState = .up → p = s.ktl.suppression) ∧ (s.flushKeys.keyState = .down → p = true) := by
  rw [State.unkeyed_keys]
  split
  · rename_i hk
    exact ⟨true, rfl, fun h => absurd (hk.symm.trans h) nofun, fun _ => rfl⟩
  · rename_i hk
    exact ⟨s.ktl.suppression, rfl, fun _ => rfl, fun h => absurd h hk⟩

/-- The guard in a turn: the key is UP and at rest, and the fault is recorded and told. -/
theorem State.stuckKey_eq (ht : s.turn = some t) (hf : s.stationFollows) : s.stuckKey =
    ((s.unkeyed.rested t).faulted .stuckKey (some t.holder) none).raise
      (.keyingLoss .stuck (some t.holder) none none none) := by
  obtain ⟨p, hs, -⟩ := s.unkeyed_frame
  have hturn : s.unkeyed.turn = some t := by rw [hs]; exact ht
  have hrest : s.unkeyed.keyUpAtRest = s.unkeyed.rested t := State.keyUpAtRest_eq hturn (State.unkeyed_lifted ht)
  have hholder : (s.unkeyed.rested t).holder = some t.holder :=
    (State.holder_of_turn (t := t.rested) rfl).trans (congrArg some t.rested_keeps.1)
  have hfollows : (s.unkeyed.rested t).stationFollows := by rw [hs]; exact hf
  have hoccur : (s.unkeyed.rested t).occur .stuckKey (s.unkeyed.rested t).holder none =
      (s.unkeyed.rested t).faulted .stuckKey (some t.holder) none := by
    rw [State.occur_records rfl _ _ hfollows, hholder]
  have hafter : ((s.unkeyed.rested t).faulted .stuckKey (some t.holder) none).holder = some t.holder := hholder
  have hstuck : s.stuckKey = ((s.unkeyed.keyUpAtRest.occur .stuckKey s.unkeyed.keyUpAtRest.holder none).raise
      (.keyingLoss .stuck (s.unkeyed.keyUpAtRest.occur .stuckKey s.unkeyed.keyUpAtRest.holder none).holder none none none)) := rfl
  rw [hstuck, hrest, hoccur, hafter]

/-- From `s` to `u` the guard has ended the key's stroke: the key is UP and at rest, and the fault is recorded and told. -/
structure State.Guarded (s u : State) (t : Turn) : Prop where
  frame : { u with lnk := s.lnk, arb := s.arb, prt := { u.prt with faults := s.prt.faults } } =
    { s with ktl := s.unkeyed.restedKeys t }
  recorded : ∃ r ∈ u.prt.faults, r.kind = .stuckKey ∧ r.last = s.seconds ∧ r.present = false
  evolves : s.Evolves u
  told : s.raised u (.keyingLoss .stuck (some t.holder) none none none)

/-- Of what takes no time after it, the idle hang may start. -/
theorem State.stuckKey_settles (ht : s.turn = some t) (hf : s.stationFollows) (hset : s.settled) :
    s.Guarded s.stuckKey.settle t := by
  obtain ⟨p, hs, -⟩ := s.unkeyed_frame
  have ev : s.Evolves (s.unkeyed.rested t) := by rw [hs]; exact .same (.refl s)
  have hrested : s.unkeyed.rested t = { s with arb := (s.unkeyed.rested t).arb, ktl := s.unkeyed.restedKeys t } := by
    rw [hs]
    rfl
  have hz : zeroLength (s.unkeyed.rested t).arb.gap = false ∧ zeroLength (s.unkeyed.rested t).seq.step = false := by
    rw [hs]
    exact (State.settled_iff.mp hset).1.2
  have hq : (s.unkeyed.rested t).idu.quiet = none := by
    rw [hs]
    exact (show s.idu.quiet = none from State.quiet_of_turn ht hset)
  have hturn : (s.unkeyed.rested t).turn = some t.rested := rfl
  rw [State.stuckKey_eq ht hf]
  generalize s.unkeyed.rested t = u at *
  have hmem := u.stuckKey_mem (some t.holder) none
  have hgrows := (ev.trans (u.faulted_evolves .stuckKey (some t.holder) none))
  have hroom : (u.faulted .stuckKey (some t.holder) none).lnk.reports.length ≤ s.lnk.reports.length + 1 := by
    rw [← show u.lnk = s.lnk by rw [hrested]]
    exact Lnk.length_reports_raise _ _
  rw [State.settle_idles (s := State.raise _ (u.faulted _ _ _)) (t := t.rested) hturn hz hq]
  refine ⟨?_, ?_, ?_, ?_⟩
  · exact congrArg (fun w : State => { w with
      lnk := s.lnk, arb := s.arb, prt := { w.prt with faults := s.prt.faults } }) hrested
  · rw [show s.seconds = u.seconds by rw [hrested]]
    exact hmem
  · exact (hgrows.raise _).setArbiter _
  · exact State.raised_of_grows hgrows.link (by omega) (.refl _)

/-- The suppression after the guard: as it was, unless the local key stays down. -/
theorem State.unkeyed_suppression (ht : s.turn = some t) :
    (t.holder ≠ 0 → s.unkeyed.ktl.suppression = s.ktl.suppression) ∧
      (t.holder = 0 → t.emission = .cw → t.sub ≠ .paused → s.functionActive .localKey = true →
        s.unkeyed.ktl.suppression = true) := by
  obtain ⟨p, hs, hup, hdown⟩ := s.unkeyed_frame
  have hflush : s.flushKeys.turn = some t := ht
  have hp : s.unkeyed.ktl.suppression = p := by rw [hs]
  rw [hp]
  refine ⟨fun hw => hup ?_, fun hw he hsub hfa => ?_⟩
  · exact State.keyState_of_lifted hflush ⟨rfl, .inr (State.localKeyDown_of_foreign hflush hw)⟩
  · cases hsup : s.ktl.suppression with
    | true =>
      rw [hup, hsup]
      refine State.keyState_of_lifted hflush ⟨rfl, .inr ?_⟩
      rw [State.localKeyDown_of_turn hflush, show s.flushKeys.ktl.suppression = true from hsup]
      exact Bool.and_false _
    | false =>
      refine hdown ((State.keyState_of_press hflush hw he hsup hfa).trans (if_neg hsub))

end StuckKey

/-- Settles O55: a playout and the key's timers change KTL alone, and of what takes no time after them only the idle hang
may start. -/
theorem theTimelinePlays : Obligations.TheTimelinePlays := by
  refine ⟨fun e l tn s => ?_, fun e l tn s => ?_, fun e l tn r s => ?_, fun tm s => ?_, fun tm tn s => ?_,
    fun i y n tn s => ?_, fun i y n tn s => ?_, fun i y n tn s => ?_, fun i y n tn s => ?_, fun i y n tn s => ?_,
    fun i y n s => ?_, fun i y n s => ?_⟩
  · intro h hr hl ht hw hp hset hd hn
    obtain ⟨g, hplay⟩ := State.playOldest_down (s := h) (by simpa [h] using hl) hd (by simpa [h] using ht) hw hp
    have hset' : h.settled := State.settled_bringTo _ hset
    refine ⟨_, exec_playout hr hl hn, ?_⟩
    rw [show s.bringTo (s.playAt e) = h from rfl, hplay, State.settle_eq_self (State.settled_withKeys hset')]
    exact ⟨rfl, rfl, rfl, rfl, rfl, rfl, rfl, rfl, rfl, rfl, rfl, rfl, rfl, rfl, rfl⟩
  · intro h hr hl ht hw hp hset hd hne hn
    have hh : h.turn = some tn := by simpa [h] using ht
    obtain ⟨m, hm, ev⟩ := h.lifted_eq l
    have hplay : h.playOldest = (h.lifted l).syncKey := by
      rw [State.playOldest_up (by simpa [h] using hl) hd, if_neg]
      rw [hm]
      simp [State.keyAtRest, hne]
    have hturn : (h.lifted l).turn = some tn := by rw [hm]; exact hh
    have hkeys : (h.lifted l).syncKey = { h.lifted l with ktl := { (h.lifted l).ktl with stuck := none, hang := none } } := by
      have hlift : (h.lifted l).keyLifted tn := ⟨by rw [hm], .inr (State.localKeyDown_of_foreign hturn hw)⟩
      have hhang : (h.lifted l).hangMayRun = false := by rw [hm]; simp [State.hangMayRun, hne]
      rw [State.syncKey_of_up (State.keyState_of_lifted hturn hlift), hhang]
      rfl
    have hfixed := (ev.syncKey).fixed
    refine ⟨_, exec_playout hr hl hn, ?_⟩
    rw [show s.bringTo (s.playAt e) = h from rfl, hplay,
      State.settle_eq_self (State.settled_syncKey (State.settled_lifted l (State.settled_bringTo _ hset)))]
    rw [hkeys, hm] at hfixed ⊢
    exact ⟨rfl, rfl, rfl, rfl, rfl, rfl, rfl, hfixed, rfl, rfl, rfl, rfl, rfl, rfl⟩
  · intro h hr hl ht hw hp hset hd hnil he hb hn
    have hh : h.turn = some tn := by simpa [h] using ht
    have hset' : h.settled := State.settled_bringTo _ hset
    subst hnil
    obtain ⟨m, hm, ev⟩ := h.lifted_eq []
    have hturn : (h.lifted []).turn = some tn := by rw [hm]; exact hh
    have hlocal := State.localKeyDown_of_foreign hturn hw
    have hplay : h.playOldest = (h.lifted []).rested tn := by
      have hrest : (h.lifted []).keyAtRest = true := by
        rw [State.keyAtRest, hlocal, hm]
        rfl
      rw [State.playOldest_up (by simpa [h] using hl) hd, if_pos hrest,
        State.keyUpAtRest_eq hturn ⟨by rw [hm], .inr hlocal⟩]
    have hsettle := State.rested_settles hturn (State.settled_lifted [] hset')
    have hfixed : ((h.lifted []).rested tn).settle.fixed = h.fixed := by rw [hsettle]; exact ev.fixed
    refine ⟨_, exec_playout hr hl hn, ?_⟩
    rw [show s.bringTo (s.playAt e) = h from rfl, hplay]
    rw [hsettle, hm] at hfixed ⊢
    have hburst : h.ktl.burst = some r := by simpa [h] using hb
    refine ⟨rfl, rfl, hburst, rfl, ?_, ?_, ?_, rfl, hfixed, rfl, rfl, rfl, rfl, rfl, rfl⟩
    · exact if_pos (by rw [hburst]; rfl)
    · rw [show State.memberExciting h = (h.memberExciting && ([] : List KeyEntry).isEmpty && decide (tn.emission = .cw)) by
        simp [he]]
      rfl
    · exact congrArg (fun y : Turn => some y.pendingStart) (Turn.rested_cw he)
  · intro h hr hb hn
    exact congrArg Host.Outcome.next (State.onExpiry_taken hr hb hn (by rw [State.bringTo_ktl, hb]))
  · intro h hr hs ht hf hset hn
    have hh : h.turn = some tn := by simpa [h] using ht
    have hf' : h.stationFollows := by
      rw [State.stationFollows, State.derived_bringTo, State.bringTo_prt]
      exact hf
    obtain ⟨hframe, hmem, ev, hraised⟩ := State.stuckKey_settles hh hf' (State.settled_bringTo _ hset)
    obtain ⟨hother, hlocal⟩ := State.unkeyed_suppression hh
    obtain ⟨p, hp, -⟩ := h.unkeyed_frame
    have hfixed := ev.fixed
    refine ⟨_, congrArg Host.Outcome.next (State.onExpirySettled_taken hr hs hn (by rw [State.bringTo_ktl, hs])), ?_⟩
    rw [show s.bringTo tm.due = h from rfl]
    clear_value h
    generalize h.stuckKey.settle = v at hframe hmem hraised hfixed ⊢
    have hkeys : (h.unkeyed.restedKeys tn).timeline = [] ∧ (h.unkeyed.restedKeys tn).state = .up ∧
        (h.unkeyed.restedKeys tn).burst = none ∧ (h.unkeyed.restedKeys tn).burstGap = none := by
      rw [hp]
      exact ⟨rfl, rfl, rfl, rfl⟩
    obtain ⟨hline, hstate, hburst, hgap⟩ := hkeys
    have hktl : v.ktl = h.unkeyed.restedKeys tn := congrArg (·.ktl) hframe
    rw [hktl]
    exact ⟨hline, hstate, hburst, hgap, rfl, hother, hlocal, ⟨hmem, congrArg (·.prt.station) hframe⟩, hraised,
      congrArg (·.seq) hframe, congrArg (·.drv) hframe, congrArg (·.amg) hframe, congrArg (·.msr) hframe,
      congrArg (·.idu) hframe, congrArg (·.acu) hframe, hfixed⟩
  · intro h v u hr hy hs hf hl hfa hact ht hw he hsup hsub hst hq hrel hset
    obtain ⟨gturn, gseq, gktl, gready, gsettled⟩ := State.measured (h := h) rfl i y.taken
    have hh := gturn.trans ht
    have hsettled := gsettled hset
    have hready := gready.trans (decide_eq_true hst)
    have hsup' := (congrArg (·.suppression) gktl).trans hsup
    have hpress := State.debounced_presses (s := h) (by simpa [h] using hy) hf hl
      ((State.functionActive_congr (by simp [h])).trans hfa) hact
    have hdown := State.keyState_of_press hh hw he hsup' (State.functionActive_rises hf hl hact)
    rw [if_neg (by rw [hsub]; nofun)] at hdown
    have key := State.press_starts hh hw he hsup' hsub ((congrArg (·.state) gseq).trans hq) hready
      (by rw [gseq]; exact hrel) hsettled
    refine ⟨_, exec_debounceExpiry hr hy hs (State.tenthsDue_of_quiet (by simp [hq])), ?_⟩
    rw [show s.bringTo (n + BitVec.ofNat 32 y.debounce) = h from rfl, hpress]
    have hkey := key.keyState hh
    obtain ⟨kktl, kfixed, kdrv, kmsr, kprt, kidu, kacu, kinr⟩ := key.parts
    obtain ⟨kstate, ktrr, kstep, ktx, kturn, -⟩ := key
    rw [State.syncKey_of_down hdown] at kktl kfixed
    generalize (State.keyPressed _).settle = w at *
    clear_value h
    refine ⟨hkey.trans hdown, kktl, kstate, ktrr, kstep, ?_, kturn, kinr, ?_, kdrv, kmsr, kprt, kidu, kacu⟩
    · rw [ktx, hw, he]
    · rw [kfixed]
      rfl
  · intro h v u hr hy hs hf hl hfa hact ht hw he hsup hst hset hn
    obtain ⟨gturn, gseq, gktl, gready, gsettled⟩ := State.measured (h := h) rfl i y.taken
    have hh := gturn.trans ht
    have hsup' := (congrArg (·.suppression) gktl).trans hsup
    have hpress := State.debounced_presses (s := h) (by simpa [h] using hy) hf hl
      ((State.functionActive_congr (by simp [h])).trans hfa) hact
    have hkey := State.keyState_of_press hh hw he hsup' (State.functionActive_rises hf hl hact)
    rw [State.keyPressed_of_local hh hw he hsup', if_neg (by rw [gready]; simpa [State.ready] using hst)] at hpress
    refine ⟨_, exec_debounceExpiry hr hy hs hn, ?_⟩
    rw [show s.bringTo (n + BitVec.ofNat 32 y.debounce) = h from rfl, hpress,
      State.settle_eq_self (State.settled_syncKey (gsettled hset))]
    clear_value h
    refine ⟨⟨hkey, rfl, rfl, rfl⟩, fun hp => ?_, rfl, rfl, rfl, rfl, rfl, rfl, rfl⟩
    rw [State.syncKey_of_down (hkey.trans (if_neg hp))]
    rfl
  · intro h v u hr hy hs hf hl hfa hact ht hw he hsup hsub hst hm hset hn
    obtain ⟨gturn, gseq, gktl, gready, gsettled⟩ := State.measured (h := h) rfl i y.taken
    have hh := gturn.trans ht
    have hsup' := (congrArg (·.suppression) gktl).trans hsup
    have hpress := State.debounced_presses (s := h) (by simpa [h] using hy) hf hl
      ((State.functionActive_congr (by simp [h])).trans hfa) hact
    have hkey := State.keyState_of_press hh hw he hsup' (State.functionActive_rises hf hl hact)
    have key := State.press_pends hh hw he hsup' hsub ((State.memberTx_congr gseq).trans hm)
      (gready.trans (decide_eq_true hst)) (gsettled hset)
    refine ⟨_, exec_debounceExpiry hr hy hs hn, ?_⟩
    rw [show s.bringTo (n + BitVec.ofNat 32 y.debounce) = h from rfl, hpress, key]
    clear_value h
    exact ⟨(State.keyState_setArbiter (s := (h.setInputOf i y.taken).syncKey) hh ⟨rfl, rfl, rfl⟩).trans hkey,
      rfl, rfl, rfl, rfl, rfl, rfl, rfl, rfl, rfl, rfl⟩
  · intro h v u hr hy hs hf hl hfa hact ho ht hw he hsup hup hnil hset hn
    obtain ⟨gturn, gseq, gktl, gready, gsettled⟩ := State.measured (h := h) rfl i y.taken
    have hh := gturn.trans ht
    have hgo := State.debounced_letsGo (s := h) (by simpa [h] using hy) hf hl
      ((State.functionActive_congr (by simp [h])).trans hfa) hact (by simpa [h] using ho)
    have hfalls := State.functionActive_falls (s := h) (y := y.taken) (f := .localKey) hact (by simpa [h] using ho)
    have key := State.release_rests hh hw he ((congrArg (·.suppression) gktl).trans hsup) hfalls
      ((congrArg (·.state) gktl).trans hup) ((congrArg (·.timeline) gktl).trans hnil) (gsettled hset)
    refine ⟨_, exec_debounceExpiry hr hy hs hn, ?_⟩
    rw [show s.bringTo (n + BitVec.ofNat 32 y.debounce) = h from rfl, hgo, key]
    have hkeys := State.restedKeys_of_empty ((congrArg (·.timeline) gktl).trans hnil) he
    have hlift : (h.setInputOf i y.taken).keyLifted tn :=
      ⟨(congrArg (·.state) gktl).trans hup, .inr (by simp [State.localKeyDown_of_turn hh, hfalls])⟩
    clear_value h
    refine ⟨⟨(State.keyState_rested hh).trans (State.keyState_of_lifted hh hlift), hkeys⟩, ?_,
      rfl, rfl, rfl, rfl, rfl, rfl, rfl, rfl, rfl⟩
    · rw [Turn.rested_cw he]
      rfl
  · intro h v u hr hy hs hf hl hfa hact ho ht hw he hsup hsub hkey hset hn
    obtain ⟨gturn, gseq, gktl, gready, gsettled⟩ := State.measured (h := h) rfl i y.taken
    have hh := gturn.trans ht
    have hgo := State.debounced_letsGo (s := h) (by simpa [h] using hy) hf hl
      ((State.functionActive_congr (by simp [h])).trans hfa) hact (by simpa [h] using ho)
    have hfalls := State.functionActive_falls (s := h) (y := y.taken) (f := .localKey) hact (by simpa [h] using ho)
    have hdown : State.localKeyDown (h.setInputOf i y.taken) = false := by simp [State.localKeyDown_of_turn hh, hfalls]
    have hstate := State.keyState_of_local_up hh hsub hdown
    rw [State.release_follows hh hw he ((congrArg (·.suppression) gktl).trans hsup) (by rw [gktl]; exact hkey)] at hgo
    refine ⟨_, exec_debounceExpiry hr hy hs hn, ?_⟩
    rw [show s.bringTo (n + BitVec.ofNat 32 y.debounce) = h from rfl, hgo,
      State.settle_eq_self (State.settled_syncKey (gsettled hset))]
    clear_value h
    refine ⟨hstate, rfl, fun hup => ?_, rfl, rfl, rfl, rfl, rfl, rfl, rfl, rfl, rfl, rfl⟩
    rw [State.syncKey_of_up (hstate.trans hup)]
  · intro h v u hr hy hs hf hl hfa hact ho hsup hset hn
    obtain ⟨gturn, gseq, gktl, gready, gsettled⟩ := State.measured (h := h) rfl i y.taken
    have hgo := State.debounced_letsGo (s := h) (by simpa [h] using hy) hf hl
      ((State.functionActive_congr (by simp [h])).trans hfa) hact (by simpa [h] using ho)
    rw [State.keyReleased, (congrArg (·.suppression) gktl).trans hsup, if_pos rfl] at hgo
    rw [exec_debounceExpiry hr hy hs hn, show s.bringTo (n + BitVec.ofNat 32 y.debounce) = h from rfl, hgo,
      State.settle_eq_self (State.settled_withKeys (gsettled hset))]
    rfl
  · intro h v u hr hy hs hf hl hfa hact hor hset hn
    obtain ⟨gturn, gseq, gktl, gready, gsettled⟩ := State.measured (h := h) rfl i y.taken
    have hpress := State.debounced_presses (s := h) (by simpa [h] using hy) hf hl
      ((State.functionActive_congr (by simp [h])).trans hfa) hact
    rw [State.keyPressed_of_apart (by rw [gktl, gturn]; exact hor)] at hpress
    rw [exec_debounceExpiry hr hy hs hn, show s.bringTo (n + BitVec.ofNat 32 y.debounce) = h from rfl, hpress,
      State.settle_eq_self (gsettled hset)]
    rfl

end Sys2Proof.Machine
end

section
/-! The ends of SEQ's waits, and what QUIET takes up (R63, R67, R71, R160). -/

namespace Sys2Proof.Machine

set_option Elab.async false

/-! ### The end of a wait -/

section Waits

variable {s : State} {x : SeqState} {tm : Timer}

/-- The state whose wait is over. -/
def State.waited (s : State) : State := { s with seq := { s.seq with step := none } }

/-- Outside EXCITING a wait ends at its instant. -/
theorem State.stepExpiry_taken (hr : s.rst = false) (hx : s.seq.state = x) (he : x ≠ .exciting)
    (hs : s.seq.step = some tm) : s.onExpirySettled (fun s => s.stepIn x) State.stepEnds =
      (s.bringTo tm.due).waited.advance.settle := by
  have hin (u : State) (hu : u.seq = s.seq) : u.stepIn x = some tm := by rw [State.stepIn, hu, if_pos hx, hs]
  exact State.onExpirySettled_taken hr (hin s rfl) (State.tenthsDue_of_quiet (by rw [State.bringTo_seq, hx]; exact he))
    (hin _ (State.bringTo_seq ..))

/-- Nothing fixed moves. -/
theorem State.waited_evolves (s : State) : s.Evolves s.waited.advance.settle :=
  (State.Evolves.same (t := s.waited) (.refl s)).advance.settle

/-- SEQ in another state of a wait that takes time unsettles nothing. -/
theorem State.settled_waits {q : Seq} (h : s.settled) (hx : q.tx = s.seq.tx) (hb : q.currentBand = s.seq.currentBand)
    (hz : zeroLength q.step = false) : State.settled { s with seq := q } := by
  obtain ⟨⟨hdue, hgap, -⟩, hidle, hquiet⟩ := State.settled_iff.mp h
  have hm : State.memberTx { s with seq := q } = s.memberTx := by simp only [State.memberTx, hx]
  refine State.settled_iff.mpr ⟨⟨?_, hgap, hz⟩, fun t ht => ?_, ?_⟩
  · rwa [State.idTurnOpen, hb]
  · rw [State.idleMayRun, hm]
    exact hidle t ht
  · rwa [State.quietMayRun, hb]

theorem State.settle_of_none (h : s.settleStep = none) : s.settle = s.syncIdle.syncQuiet := by
  rw [State.settle, State.settleFor_of_none h]

/-- One thing that takes no time, and then nothing. -/
theorem State.settle_of_step {t : State} (hs : s.settleStep = some t) (ht : t.settleStep = none) :
    s.settle = t.syncIdle.syncQuiet := by
  have hstep : s.settleFor Config.settleFuel = t.settleFor (Config.settleFuel - 1) := by
    rw [show Config.settleFuel = (Config.settleFuel - 1) + 1 from rfl, State.settleFor, hs]
    rfl
  rw [State.settle, hstep, State.settleFor_of_none ht]

theorem State.settle_once {t : State} (hs : s.settleStep = some t) (ht : t.settled) : s.settle = t :=
  (State.settle_of_step hs ht.1).trans ((congrArg State.syncQuiet ht.2.1).trans ht.2.2)

/-- A change of the turn leaves the conditions of an ID turn and of the quiet timer. -/
theorem State.idTurnOpen_modTurn (f : Turn → Turn) (s : State) : (s.modTurn f).idTurnOpen = s.idTurnOpen := by
  cases ht : s.turn with
  | none => rw [State.modTurn_of_none _ ht]
  | some t => rw [State.modTurn_of_turn _ ht]; simp [State.idTurnOpen, State.setArbiter, State.turn_eq_some.mp ht]

theorem State.quietMayRun_modTurn (f : Turn → Turn) (s : State) : (s.modTurn f).quietMayRun = s.quietMayRun := by
  cases ht : s.turn with
  | none => rw [State.modTurn_of_none _ ht]
  | some t => rw [State.modTurn_of_turn _ ht]; simp [State.quietMayRun, State.setArbiter, State.turn_eq_some.mp ht]

theorem State.holder_syncIdle (s : State) : s.syncIdle.holder = s.holder :=
  State.holder_modTurn (f := fun t => { t with
    idleStart := if s.idleMayRun t then some (t.idleStart.getD s.clock) else none }) (fun _ => rfl) s

/-- While SEQ's wait takes time, at most ARB and IDU go on, and only where an identification was due at once. -/
theorem State.settle_busy (hq : s.seq.state ≠ .quiet) (hz : zeroLength s.arb.gap = false ∧ zeroLength s.seq.step = false) :
    { s.settle with arb := s.arb, idu := s.idu } = s ∧
      (¬(s.idu.due = true ∧ s.idTurnOpen = true) →
        s.settle.holder = s.holder ∧ (s.idu.quiet.isSome = s.quietMayRun → s.settle.idu = s.idu)) := by
  by_cases hopen : s.idu.due = true ∧ s.idTurnOpen = true
  · have hstep : s.settleStep = some s.enterIdTurn := if_pos hopen
    have hbegin : s.enterIdTurn = { s.setArbiter .idTurn with idu := { s.idu with
        cycle := .starting, context := some ⟨s.seconds, [], 0, 0, .idTurn, [], false⟩, startWaits := true } } :=
      State.beginCycle_of_busy (s := s.setArbiter .idTurn) _ hq
    have hnone : s.enterIdTurn.settleStep = none := by
      rw [State.settleStep_eq_none, hbegin]
      exact ⟨by simp [State.idTurnOpen, State.setArbiter], hz⟩
    rw [State.settle_of_step hstep hnone, hbegin]
    exact ⟨rfl, fun h => absurd hopen h⟩
  · have hnone : s.settleStep = none := State.settleStep_eq_none.mpr ⟨hopen, hz⟩
    rw [State.settle_of_none hnone]
    refine ⟨?_, fun _ => ⟨State.holder_syncIdle s, fun hquiet => ?_⟩⟩
    · rw [State.syncIdle, (s.modTurn_frame _).1]
      rfl
    · have hsync : s.syncIdle.idu = s.idu := by rw [State.syncIdle, (s.modTurn_frame _).1]; rfl
      rw [State.syncQuiet_eq_self.mpr, hsync]
      rw [hsync, hquiet]
      exact (State.quietMayRun_modTurn _ s).symm

end Waits

/-! ### The way down (R63) -/

section Down

variable {s : State} {x : Tx}

theorem State.enterDisarmAmp_eq (s : State) : s.enterDisarmAmp = { s with seq := { s.seq with
    state := .disarmAmp, ampkey := false
    step := some ⟨s.clock, if s.amplifiedTx then s.seq.active.ampOff else 0⟩ } } := rfl

/-- SEQ in DISARM_RELAY. -/
def State.relayOpened (s : State) : State := { s with seq := { s.seq with
  state := .disarmRelay, trr := false, idm := false, step := some ⟨s.clock, s.seq.active.relayOff⟩ } }

theorem State.settled_relayOpened (hset : s.settled) (hoff : s.seq.active.relayOff ≠ 0) : s.relayOpened.settled :=
  State.settled_waits hset rfl rfl (decide_eq_false hoff)

theorem State.tail_ends_amplified (hx : s.seq.state = .drain) (htx : s.seq.tx = some x) (hp : x.path = .amplified)
    (hoff : s.seq.active.ampOff ≠ 0) (hset : s.settled) : s.waited.advance.settle = { s with seq := { s.seq with
      state := .disarmAmp, ampkey := false, step := some ⟨s.clock, s.seq.active.ampOff⟩ } } := by
  have hamp : s.waited.amplifiedTx = true := by simp [State.amplifiedTx, State.waited, htx, hp]
  rw [State.advance_drain (s := s.waited) hx, State.enterDisarmAmp_eq, hamp]
  exact State.settle_eq_self (State.settled_waits (s := s) hset rfl rfl (decide_eq_false hoff))

/-- On the BAREFOOT path DISARM_AMP takes no time. -/
theorem State.tail_ends_barefoot (hx : s.seq.state = .drain) (htx : s.seq.tx = some x) (hp : x.path = .barefoot)
    (hoff : s.seq.active.relayOff ≠ 0) (hset : s.settled) : s.waited.advance.settle = { s with seq := { s.seq with
      state := .disarmRelay, ampkey := false, trr := false, idm := false
      step := some ⟨s.clock, s.seq.active.relayOff⟩ } } := by
  obtain ⟨⟨hdue, hgap, -⟩, -⟩ := State.settled_iff.mp hset
  have hamp : s.waited.amplifiedTx = false := by simp [State.amplifiedTx, State.waited, htx, hp]
  rw [State.advance_drain (s := s.waited) hx, State.enterDisarmAmp_eq, hamp]
  refine State.settle_once ?_ (State.settled_waits (s := s) hset rfl rfl (decide_eq_false hoff))
  exact (if_neg hdue).trans ((if_neg (Bool.eq_false_iff.mp hgap)).trans (if_pos rfl))

theorem State.ampOff_ends (hx : s.seq.state = .disarmAmp) (hoff : s.seq.active.relayOff ≠ 0) (hset : s.settled) :
    s.waited.advance.settle = s.relayOpened := by
  rw [State.advance_disarmAmp (s := s.waited) hx]
  exact State.settle_eq_self (s := s.relayOpened) (State.settled_relayOpened hset hoff)

end Down

/-! ### Entering QUIET (R52, R63, R106) -/

section Quiet

variable {s : State} {t : Turn}

/-- SEQ in QUIET: the staged profile is active, and an amplifier that is ON starts its idle timer. -/
def State.atQuiet (s : State) : State := { s with
  seq := { s.seq with
    state := .quiet, active := if s.seq.changePending then s.seq.staged else s.seq.active, changePending := false }
  amg := { s.amg with idle := if s.amg.state = .on then some ⟨s.clock, s.amg.ampIdleTime * 60000⟩ else s.amg.idle } }

theorem State.swapProfile_quieted (s : State) : s.swapProfile.quieted = s.atQuiet := by
  have hswap : s.swapProfile = { s with seq := { s.seq with
      active := if s.seq.changePending then s.seq.staged else s.seq.active, changePending := false } } := by
    unfold State.swapProfile
    cases hc : s.seq.changePending with
    | true => rfl
    | false => rw [if_neg nofun, if_neg nofun, ← hc]
  have hquiet (u : State) : u.quieted = { u with
      seq := { u.seq with state := .quiet }
      amg := { u.amg with idle := if u.amg.state = .on then some ⟨u.clock, u.amg.ampIdleTime * 60000⟩ else u.amg.idle } } := by
    unfold State.quieted State.startAmpIdle
    by_cases hon : u.amg.state = .on
    · rw [if_pos (by exact hon), if_pos hon]
      rfl
    · rw [if_neg (by exact hon), if_neg hon]
  rw [hswap, hquiet]
  rfl

/-- No cycle closes. -/
theorem State.closeCycle_of_open {n : Nat} (h : s.idu.cycle ≠ .closing) : s.closeCycle n = s := by
  unfold State.closeCycle
  split
  · rename_i hc _
    exact absurd hc h
  · rfl

theorem State.enterQuiet_of_open (h : s.idu.cycle ≠ .closing) : s.enterQuiet = s.overAndOut.atQuiet.takeUp := by
  rw [State.enterQuiet_eq, State.closeCycle_of_open (s := s.overAndOut) h, State.swapProfile_quieted]

/-- With no retune and no ID start waiting, QUIET takes up a pending start. -/
theorem State.takeUp_pending (hq : s.seq.queuedRetune = none) (hi : s.idu.startWaits = false) : s.takeUp = s.takePending := by
  rw [State.takeUp, hq, hi]
  rfl

theorem State.takeUp_retune {b : BandId} (hq : s.seq.queuedRetune = some b) : s.takeUp = s.enterRetune b := by
  rw [State.takeUp, hq]

theorem State.takeUp_ident (hq : s.seq.queuedRetune = none) (hi : s.idu.startWaits = true) (hr : s.ready = true) :
    s.takeUp = s.takeIdStart := by
  rw [State.takeUp, hq, hi, hr]
  rfl

/-- A turn without a pending start starts nothing. -/
theorem State.takePending_of_none (h : ∀ t ∈ s.turn, t.pendingStart = false) : s.takePending = s := by
  unfold State.takePending
  split
  · rename_i t ht
    exact if_neg fun c => absurd (c.1.symm.trans (h t ht)) nofun
  · rfl

theorem State.takePending_starts (ht : s.turn = some t) (hp : t.pendingStart = true) (ha : t.sub = .active)
    (hq : s.seq.state = .quiet) (hr : s.ready = true) : s.takePending = s.takeStart := by
  rw [State.takePending, ht]
  exact if_pos ⟨hp, ha, hq, hr⟩

/-- The turn as a transmission's end restarts its idle hang (R63). -/
def Turn.reidled (s : State) (t : Turn) : Turn :=
  if t.sub = .active ∧ t.pendingStart = false then { t with idleStart := some s.clock } else t

theorem State.restartIdle_of_turn (ht : s.turn = some t) : s.restartIdle = s.setArbiter (.turn (t.reidled s)) :=
  State.modTurn_of_turn _ ht

/-- The end of a transmission moves no more of ARB than the turn's idle hang. -/
theorem State.restartIdle_cases (s : State) :
    s.turn = none ∧ s.restartIdle = s ∨ ∃ t, s.turn = some t ∧ s.restartIdle = s.setArbiter (.turn (t.reidled s)) := by
  cases ht : s.turn with
  | none => exact .inl ⟨rfl, State.modTurn_of_none _ ht⟩
  | some t => exact .inr ⟨t, rfl, State.restartIdle_of_turn ht⟩

/-- Its end at QUIET with nothing to take up. -/
theorem State.relayOff_rests (hx : s.seq.state = .disarmRelay) (hq : s.seq.queuedRetune = none)
    (hc : s.idu.cycle ≠ .closing) (hi : s.idu.startWaits = false) (hp : ∀ t ∈ s.turn, t.pendingStart = false)
    (hset : s.settled) : s.waited.advance.settle = s.overAndOut.atQuiet.modTurn fun t =>
      { t with idleStart := if t.sub = .active then some s.clock else none } := by
  obtain ⟨⟨hdue, hgap, -⟩, -, hquiet⟩ := State.settled_iff.mp hset
  rw [State.advance_disarmRelay (s := s.waited) hx]
  rcases s.waited.restartIdle_cases with ⟨ht, hr⟩ | ⟨t, ht, hr⟩
  · rw [hr, State.enterQuiet_of_open (s := s.waited) hc, State.takeUp_pending (s := s.waited.overAndOut.atQuiet) hq hi,
      State.takePending_of_no_turn (s := s.waited.overAndOut.atQuiet) ht,
      State.modTurn_of_none (s := s.overAndOut.atQuiet) _ ht]
    refine State.settle_eq_self (State.settled_iff.mpr ⟨⟨hdue, hgap, rfl⟩, fun t k => ?_, hquiet⟩)
    exact absurd (ht.symm.trans k) nofun
  · have ht' : s.turn = some t := ht
    have hp' : t.pendingStart = false := hp t ht'
    have hp'' : (t.reidled s.waited).pendingStart = false := by
      unfold Turn.reidled
      split <;> exact hp'
    have hidle : (t.reidled s.waited).idling (s.waited.setArbiter (.turn (t.reidled s.waited))).overAndOut.atQuiet =
        { t with idleStart := if t.sub = .active then some s.clock else none } := by
      unfold Turn.reidled
      by_cases ha : t.sub = .active
      · rw [if_pos ⟨ha, hp'⟩]
        have hclock : s.waited.clock = s.clock := rfl
        simp [Turn.idling, State.idleMayRun, ha, hp', hclock, State.memberTx, State.atQuiet, State.overAndOut]
      · rw [if_neg fun c => ha c.1]
        simp [Turn.idling, State.idleMayRun, ha]
    rw [hr, State.enterQuiet_of_open (s := s.waited.setArbiter _) hc,
      State.takeUp_pending (s := (s.waited.setArbiter _).overAndOut.atQuiet) hq hi,
      State.takePending_of_none (s := (s.waited.setArbiter (.turn (t.reidled s.waited))).overAndOut.atQuiet)
        (fun y hy => Option.some.inj hy ▸ hp''),
      State.modTurn_of_turn (s := s.overAndOut.atQuiet) _ ht']
    refine (State.settle_idles (s := (s.waited.setArbiter (.turn (t.reidled s.waited))).overAndOut.atQuiet) rfl
      ⟨hgap, rfl⟩ (show s.idu.quiet = none from State.quiet_of_turn ht' hset)).trans ?_
    rw [hidle]
    rfl

theorem State.restartIdle_frame (s : State) : ∃ a, s.waited.restartIdle = s.waited.setArbiter a :=
  ⟨_, (s.waited.modTurn_frame _).1⟩

theorem State.atQuiet_active (h : s.seq.changePending = false) : s.atQuiet.seq.active = s.seq.active := by
  simp [State.atQuiet, h]

/-- Its end at QUIET with a pending start of an ACTIVE turn. -/
theorem State.relayOff_starts (hx : s.seq.state = .disarmRelay) (hq : s.seq.queuedRetune = none)
    (hc : s.idu.cycle ≠ .closing) (hi : s.idu.startWaits = false) (ht : s.turn = some t) (hp : t.pendingStart = true)
    (ha : t.sub = .active) (hr : s.ready = true) (hon : s.seq.active.relayOn ≠ 0) (hch : s.seq.changePending = false)
    (hset : s.settled) : s.overAndOut.atQuiet.Starts s.waited.advance.settle t := by
  have hidle : s.waited.restartIdle = s.waited := by
    have hkeep : t.reidled s.waited = t := by simp [Turn.reidled, hp]
    rw [State.restartIdle_of_turn (s := s.waited) ht, hkeep, ← State.turn_eq_some.mp ht]
    rfl
  rw [State.advance_disarmRelay (s := s.waited) hx, hidle, State.enterQuiet_of_open (s := s.waited) hc,
    State.takeUp_pending (s := s.waited.overAndOut.atQuiet) hq hi,
    State.takePending_starts (s := s.waited.overAndOut.atQuiet) ht hp ha rfl hr]
  refine State.takeStart_settles (s := s.overAndOut.atQuiet) ht ?_ (State.settled_iff.mp hset).1.2.1
    (show s.idu.quiet = none from State.quiet_of_turn ht hset)
  rw [State.atQuiet_active (s := s.overAndOut) hch]
  exact hon

/-- A retune that takes time: of what takes none, an ID turn may begin where there was no band before. -/
theorem State.enterRetune_settles {b : BandId} (hg : zeroLength s.arb.gap = false) (hon : s.seq.active.bandSettle ≠ 0) :
    { (s.enterRetune b).settle with arb := s.arb, idu := s.idu } = s.enterRetune b ∧
      (s.seq.currentBand ≠ none → ¬(s.idu.due = true ∧ s.idTurnOpen = true) → s.idu.quiet.isSome = s.quietMayRun →
        (s.enterRetune b).settle.idu = s.idu) := by
  have hstep : (s.enterRetune b).seq.step = some ⟨s.clock, s.seq.active.bandSettle * 10⟩ := rfl
  have hz : zeroLength (s.enterRetune b).seq.step = false := by
    rw [hstep]
    exact decide_eq_false fun k => hon (by simpa using k)
  obtain ⟨hframe, hidu⟩ := State.settle_busy (s := s.enterRetune b) nofun ⟨hg, hz⟩
  refine ⟨hframe, fun hb hopen hquiet => (hidu ?_).2 ?_⟩
  · have hsome : s.seq.currentBand.isSome = true := Option.isSome_iff_ne_none.mpr hb
    have hsame : (s.enterRetune b).idTurnOpen = s.idTurnOpen := by
      rw [State.idTurnOpen, State.idTurnOpen, hsome]
      rfl
    rwa [hsame]
  · have hsome : s.seq.currentBand.isSome = true := Option.isSome_iff_ne_none.mpr hb
    have hsame : (s.enterRetune b).quietMayRun = s.quietMayRun := by
      rw [State.quietMayRun, State.quietMayRun, hsome]
      rfl
    rwa [hsame]

/-- IDU's context as an ID start captures the callsign, the speed and the power (R158). -/
def Cycle.captured (s : State) (c : Cycle) : Cycle :=
  { c with callsign := s.idu.callsign.getD [], speed := s.idu.params.speed, power := s.idu.params.power }

theorem State.takeIdStart_eq {b : BandId} {c : Cycle} (hb : s.seq.currentBand = some b) (hc : s.idu.context = some c) :
    s.takeIdStart = { s with
      idu := { s.idu with context := some (c.captured s), startWaits := false }
      seq := { s.seq with
        state := .armRelay, trr := true, idm := true, step := some ⟨s.clock, s.seq.active.relayOn⟩
        tx := some ⟨.ident, b, .cw, s.choosePath (s.idUncapped b s.idu.params.power), 0, 0, none, none, false⟩ }
      amg := { s.amg with idle := none } } := by
  rw [State.takeIdStart, hb, hc]
  rfl

/-- An ID start that is taken in STARTING: of what takes no time, the idle hang may stop. -/
theorem State.takeIdStart_settles {b : BandId} {c : Cycle} (hb : s.seq.currentBand = some b)
    (hc : s.idu.context = some c) (hs : s.idu.cycle = .starting) (hg : zeroLength s.arb.gap = false)
    (hon : s.seq.active.relayOn ≠ 0) (hq : s.idu.quiet = none) :
    { s.takeIdStart.settle with arb := s.arb } = s.takeIdStart ∧ s.takeIdStart.settle.holder = s.holder := by
  have hcycle : s.takeIdStart.idu.cycle = .starting := by rw [State.takeIdStart_eq hb hc]; exact hs
  have hz : zeroLength s.takeIdStart.arb.gap = false ∧ zeroLength s.takeIdStart.seq.step = false := by
    rw [State.takeIdStart_eq hb hc]
    exact ⟨hg, decide_eq_false hon⟩
  obtain ⟨hframe, hrest⟩ := State.settle_busy (s := s.takeIdStart) (by rw [State.takeIdStart_eq hb hc]; nofun) hz
  obtain ⟨hholder, hidu⟩ := hrest (by simp [State.idTurnOpen, hcycle])
  have hquiet : s.takeIdStart.idu.quiet = none := by rw [State.takeIdStart_eq hb hc]; exact hq
  have hrun : s.takeIdStart.quietMayRun = false := by simp [State.quietMayRun, hcycle]
  have hidu' := hidu (by rw [hquiet, hrun]; rfl)
  rw [← hidu'] at hframe
  refine ⟨?_, hholder.trans ?_⟩
  · rw [← State.takeIdStart_arb s]
    exact hframe
  · rw [State.holder, State.turn, State.takeIdStart_arb]
    rfl

/-- The state at QUIET when the wait in DISARM_RELAY is over. -/
def State.disarmed (s : State) : State := s.waited.restartIdle.overAndOut.atQuiet

theorem State.disarmed_frame (s : State) : ∃ a, s.disarmed = { s.overAndOut.atQuiet with arb := { s.arb with arbiter := a } } := by
  obtain ⟨a, ha⟩ := s.restartIdle_frame
  rw [State.disarmed, ha]
  exact ⟨a, rfl⟩

theorem State.idTurnOpen_disarmed (s : State) : s.disarmed.idTurnOpen = s.idTurnOpen :=
  State.idTurnOpen_modTurn _ s.waited

theorem State.quietMayRun_disarmed (s : State) : s.disarmed.quietMayRun = s.quietMayRun :=
  State.quietMayRun_modTurn _ s.waited

theorem State.holder_disarmed (s : State) : s.disarmed.holder = s.holder :=
  State.holder_modTurn (fun t => by split <;> rfl) s.waited

theorem State.relayOff_takesUp (hx : s.seq.state = .disarmRelay) (hc : s.idu.cycle ≠ .closing) :
    s.waited.advance = s.disarmed.takeUp := by
  obtain ⟨a, ha⟩ := s.restartIdle_frame
  rw [State.advance_disarmRelay (s := s.waited) hx, State.enterQuiet_of_open (by rw [ha]; exact hc), State.disarmed]

/-- Its end at QUIET with an ID start waiting. -/
theorem State.relayOff_identifies {b : BandId} {c : Cycle} (hx : s.seq.state = .disarmRelay)
    (hq : s.seq.queuedRetune = none) (hs : s.idu.cycle = .starting) (hi : s.idu.startWaits = true)
    (hc : s.idu.context = some c) (hr : s.ready = true) (hb : s.seq.currentBand = some b)
    (hch : s.seq.changePending = false) (hon : s.seq.active.relayOn ≠ 0) (hset : s.settled) :
    { s.waited.advance.settle with arb := s.arb } = { s.disarmed.takeIdStart with arb := s.arb } ∧
      s.waited.advance.settle.holder = s.holder := by
  obtain ⟨⟨-, hgap, -⟩, -, hquiet⟩ := State.settled_iff.mp hset
  have hrun : s.quietMayRun = false := by simp [State.quietMayRun, hs]
  have hquiet' : s.idu.quiet = none := by
    rwa [hrun, Option.isSome_eq_false_iff, Option.isNone_iff_eq_none] at hquiet
  have hact : s.overAndOut.atQuiet.seq.active = s.seq.active := State.atQuiet_active (s := s.overAndOut) hch
  have hholder := s.holder_disarmed
  rw [State.relayOff_takesUp hx (by rw [hs]; nofun)]
  obtain ⟨a, ha⟩ := s.disarmed_frame
  have hseq : s.disarmed.seq = s.overAndOut.atQuiet.seq := by rw [ha]
  have hidu : s.disarmed.idu = s.idu := by rw [ha]; rfl
  have hprt : s.disarmed.prt = s.prt := by rw [ha]; rfl
  have harb : s.disarmed.arb.gap = s.arb.gap := by rw [ha]
  clear ha
  generalize s.disarmed = u at *
  have hb' : u.seq.currentBand = some b := by rw [hseq]; exact hb
  have hr' : u.ready = true := by rw [State.ready, hprt]; exact hr
  rw [State.takeUp_ident (by rw [hseq]; exact hq) (by rw [hidu]; exact hi) hr']
  obtain ⟨hframe, hh⟩ := State.takeIdStart_settles hb' (by rw [hidu]; exact hc) (by rw [hidu]; exact hs)
    (by rw [harb]; exact hgap) (by rw [hseq, hact]; exact hon) (by rw [hidu]; exact hquiet')
  exact ⟨congrArg (fun v : State => { v with arb := s.arb }) hframe, hh.trans hholder⟩

/-- The turn as it becomes ACTIVE (R32). -/
def Turn.activated (t : Turn) : Turn := { t with sub := .active }

/-- A turn that no claim awaits becomes ACTIVE, and starts nothing at once without a pending start or outside QUIET. -/
theorem State.enterActive_eq (ht : s.turn = some t) (hd : s.idu.due = false)
    (hp : t.pendingStart = false ∨ s.seq.state ≠ .quiet) :
    s.enterActive = (s.setArbiter (.turn t.activated)).syncKey := by
  have hmod : (s.modTurn fun t => { t with sub := .active }) = s.setArbiter (.turn t.activated) := State.modTurn_of_turn _ ht
  have hpend : (s.setArbiter (.turn t.activated)).syncKey.takePending = (s.setArbiter (.turn t.activated)).syncKey := by
    refine if_neg fun c => ?_
    obtain ⟨hpending, -, hquiet, -⟩ := c
    rcases hp with hp | hp
    · exact absurd (hpending.symm.trans hp) nofun
    · exact hp hquiet
  have hclaim : ¬((s.setArbiter (.turn t.activated)).syncKey.idu.due = true ∧
      (s.setArbiter (.turn t.activated)).syncKey.idu.claim = .atActive) := fun c => absurd (hd.symm.trans c.1) nofun
  rw [State.enterActive, hmod]
  exact (if_neg hclaim).trans hpend

/-- SEQ without the retune that settles. -/
def State.untuned (s : State) : State :=
  { s with seq := { s.seq with retuneBand := none, retuneCurrent := false } }

/-- The turn ACTIVE with its idle hang running from `c` on. -/
def Turn.atRest (c : Clock) (t : Turn) : Turn := { t with sub := .active, idleStart := some (t.idleStart.getD c) }

/-- Without a transmission the idle hang of the ACTIVE turn runs. -/
theorem Turn.idling_activated {u : State} (hm : u.memberTx = false) (hp : t.pendingStart = false) :
    t.activated.idling u = t.atRest u.clock := by
  simp [Turn.idling, Turn.activated, Turn.atRest, State.idleMayRun, hm, hp]

/-- The end of a band settle, with a turn that asked for it and nothing else to take up: the turn is ACTIVE. -/
theorem State.bandSettle_ends {b : BandId} (hx : s.seq.state = .retune) (hq : s.seq.queuedRetune = none)
    (hc : s.idu.cycle = .idle) (hi : s.idu.startWaits = false) (hd : s.idu.due = false) (ht : s.turn = some t)
    (hp : t.pendingStart = false) (hcur : s.seq.retuneCurrent = true) (hb : s.seq.retuneBand = some b)
    (hset : s.settled) :
    { s.waited.advance.settle with ktl := s.ktl } =
      (s.untuned.overAndOut.atQuiet.raise (.bandSet b s.seq.bandCode.val)).setArbiter (.turn (t.atRest s.clock)) := by
  have hquiet : s.idu.quiet = none := State.quiet_of_turn ht hset
  have hgap : zeroLength s.arb.gap = false := (State.settled_iff.mp hset).1.2.1
  have henter : s.waited.untuned.enterQuiet = s.untuned.overAndOut.atQuiet := by
    rw [State.enterQuiet_of_open (s := s.waited.untuned) (fun k => absurd (hc.symm.trans k) nofun),
      State.takeUp_pending (s := s.waited.untuned.overAndOut.atQuiet) hq hi]
    exact State.takePending_of_none fun y hy => Option.some.inj (ht.symm.trans hy) ▸ hp
  have hadv : s.waited.advance = (s.untuned.overAndOut.atQuiet.raise (.bandSet b s.seq.bandCode.val)).enterActive := by
    have hsettle : s.waited.settleBand = if s.seq.retuneCurrent then
        State.enterActive (match s.seq.retuneBand with
          | some b => s.waited.untuned.enterQuiet.raise (.bandSet b s.seq.bandCode.val)
          | none => s.waited.untuned.enterQuiet)
      else match s.seq.retuneBand with
          | some b => s.waited.untuned.enterQuiet.raise (.bandSet b s.seq.bandCode.val)
          | none => s.waited.untuned.enterQuiet := rfl
    rw [State.advance_retune (s := s.waited) hx, hsettle, hb, hcur, henter]
    rfl
  rw [hadv, State.enterActive_eq (s := s.untuned.overAndOut.atQuiet.raise _) ht hd (.inl hp)]
  obtain ⟨v, hv⟩ : ∃ v, v = ((s.untuned.overAndOut.atQuiet.raise (.bandSet b s.seq.bandCode.val)).setArbiter
    (.turn t.activated)).syncKey := ⟨_, rfl⟩
  have hclock : v.clock = s.clock := by rw [hv]; rfl
  rw [← hv, State.settle_idles (s := v) (t := t.activated) (by rw [hv]; rfl) (by rw [hv]; exact ⟨hgap, rfl⟩)
    (by rw [hv]; exact hquiet), Turn.idling_activated (by rw [hv]; rfl) hp, hclock, hv]
  rfl

end Quiet

/-! ### The slots that ask (R24, R25) -/

/-- From `s` to `t` nothing moved that a grant turns on but the arbiter state. -/
structure State.AsksAs (s t : State) : Prop where
  slots : t.arb.slots = s.arb.slots
  ranks : t.arb.ranks = s.arb.ranks
  clt : t.clt = s.clt
  drv : t.drv = s.drv
  used : t.acu.used = s.acu.used

namespace State.AsksAs

variable {s t : State}

theorem marked (e : s.AsksAs t) (w : SlotId) : t.marked w = s.marked w := by
  rw [State.marked, State.tenancy, e.slots]
  rfl

theorem classOf (e : s.AsksAs t) (w : SlotId) : t.classOf w = s.classOf w := by
  rw [State.classOf, State.identity, e.clt]
  rfl

theorem eligible (e : s.AsksAs t) (w : SlotId) : t.eligible w = s.eligible w := by
  have hpermit : t.permit = s.permit := by
    funext w b m
    rw [State.permit, e.classOf, e.drv]
    rfl
  have hexhausted : t.exhausted w = s.exhausted w := by
    rw [State.exhausted, State.identity, e.clt, e.used]
    rfl
  have htenancy : t.tenancy w = s.tenancy w := by rw [State.tenancy, e.slots]; rfl
  have hidentity : t.identity w = s.identity w := by rw [State.identity, e.clt]; rfl
  rw [State.eligible, hpermit, hexhausted, htenancy, hidentity]
  rfl

theorem winner (e : s.AsksAs t) : t.winner = s.winner := by
  have heligible : t.eligible = s.eligible := funext e.eligible
  have hbetter : t.better = s.better := by
    funext o w
    have hbeats (a b : SlotId) : t.beats a b = s.beats a b := by
      simp only [State.beats, e.marked, e.classOf, e.ranks]
    simp only [State.better, hbeats]
  rw [State.winner, heligible, hbetter]
  rfl

theorem trans {u : State} (a : s.AsksAs t) (b : t.AsksAs u) : s.AsksAs u :=
  ⟨b.slots.trans a.slots, b.ranks.trans a.ranks, b.clt.trans a.clt, b.drv.trans a.drv, b.used.trans a.used⟩

theorem bringTo (c : Clock) (s : State) : s.AsksAs (s.bringTo c) := by
  constructor <;> simp

end State.AsksAs

/-! ### A cycle that closes (R29, R160, R170) -/

section Closing

variable {s t : State} {tn : Turn} {x : Tx} {y : Cycle} {n : Nat}

/-- The state in which the identification of the context `y` is recorded COMPLETE and over. -/
def State.completed (n : Nat) (y : Cycle) (s : State) : State := { s with
  acu := (s.writeRecord (s.idRecord y n .complete)).acu
  idu := { s.idu with cycle := .idle, context := none, claim := .none } }

theorem State.writeRecord_eq (r : TurnRec) (s : State) : s.writeRecord r = { s with acu := (s.writeRecord r).acu } := by
  unfold State.writeRecord
  split <;> rfl

theorem State.closeCycle_member (hc : s.idu.cycle = .closing) (hy : s.idu.context = some y) (hh : y.home = .memberTurn) :
    s.closeCycle n = (s.completed n y).enterActive := by
  rw [State.closeCycle, hc, hy]
  dsimp only
  rw [hh, State.writeRecord_eq]
  rfl

theorem State.closeCycle_ident (hc : s.idu.cycle = .closing) (hy : s.idu.context = some y) (hh : y.home = .idTurn) :
    s.closeCycle n = (s.completed n y).idTurnOver := by
  rw [State.closeCycle, hc, hy]
  dsimp only
  rw [hh, State.writeRecord_eq]
  rfl

/-- The record of the identification, below the last number. -/
theorem State.completed_record (h : s.acu.number < max32) : (s.completed n y).acu.number = s.acu.number + 1 ∧
    (s.completed n y).acu.records.getLast? = some { s.idRecord y n .complete with number := s.acu.number + 1 } := by
  refine ⟨?_, State.writeRecord_newest _ h.ne⟩
  change (s.writeRecord _).acu.number = _
  rw [State.writeRecord, if_neg h.ne]

theorem State.completed_used (n : Nat) (y : Cycle) (s : State) : (s.completed n y).acu.used = s.acu.used := by
  change (s.writeRecord _).acu.used = _
  unfold State.writeRecord
  split <;> rfl

theorem State.completed_asks (n : Nat) (y : Cycle) (s : State) : s.AsksAs (s.overAndOut.completed n y) :=
  ⟨rfl, rfl, rfl, rfl, s.overAndOut.completed_used n y⟩

/-- The gap of an ID turn runs on where no seizer can be granted. -/
theorem State.idTurnOver_waits (ha : s.arb.arbiter = .idTurn) (hg : s.arb.gap ≠ none)
    (h : s.ready = false ∨ ∀ w, s.eligible w = true → s.marked w = false) : s.idTurnOver = s.setArbiter .gap := by
  rw [State.idTurnOver, if_neg (not_not.mpr ha), if_neg hg, if_neg hg]
  rcases h with h | h
  · exact if_neg (by rw [h]; nofun)
  · have hnone : ((numbers 32).any fun w => s.eligible w && s.marked w) = false := by
      refine List.any_eq_false.mpr fun w _ k => ?_
      rw [Bool.and_eq_true] at k
      exact absurd (k.2.symm.trans (h w k.1)) nofun
    rw [hnone]
    exact ite_self _

/-- Without a gap and without a winner the arbiter is FREE. -/
theorem State.idTurnOver_frees (ha : s.arb.arbiter = .idTurn) (hg : s.arb.gap = none)
    (h : s.ready = false ∨ s.winner = none) : s.idTurnOver = s.setArbiter .free := by
  have hnone : (if s.ready then s.winner else none) = none := by
    rcases h with h | h
    · rw [h]; rfl
    · rw [h, ite_self]
  rw [State.idTurnOver, if_neg (not_not.mpr ha), if_pos hg, if_pos hg, State.arbitrate, hnone, ite_self]

/-- With the station READY the winner is granted, where no gap runs or a seizer waits. -/
theorem State.idTurnOver_grants {w : SlotId} (ha : s.arb.arbiter = .idTurn) (hr : s.ready = true) (hw : s.winner = some w)
    (h : s.arb.gap = none ∨ ∃ v, s.eligible v = true ∧ s.marked v = true) :
    ∃ r, s.idTurnOver = s.stopGap.grantRequest w r := by
  obtain ⟨r, hgrant⟩ := State.arbitrate_grants (s := s.stopGap) hr hw
  refine ⟨r, ?_⟩
  rw [State.idTurnOver, if_neg (not_not.mpr ha), if_pos hr, ← hgrant]
  by_cases hg : s.arb.gap = none
  · have hstop : s.stopGap = s := by rw [State.stopGap, ← hg]
    rw [if_pos hg, hstop]
  · obtain ⟨v, hv, hm⟩ := h.resolve_left hg
    rw [if_neg hg, if_pos (List.any_eq_true.mpr ⟨v, mem_numbers v, by rw [hv, hm]; rfl⟩)]

/-- With no turn, and no identification due, only the quiet timer goes on where SEQ and the gap take time. -/
theorem State.settle_unturned (ht : s.turn = none) (hd : s.idu.due = false)
    (hz : zeroLength s.arb.gap = false ∧ zeroLength s.seq.step = false) : s.settle = s.syncQuiet := by
  have hnone : s.settleStep = none := State.settleStep_eq_none.mpr ⟨fun c => absurd (hd.symm.trans c.1) nofun, hz⟩
  rw [State.settle_of_none hnone, State.syncIdle_of_no_turn ht]

/-- Without an ACTIVE turn the end of a transmission restarts no idle hang. -/
theorem State.restartIdle_of_inactive (h : ∀ t, s.turn = some t → t.sub ≠ .active) : s.waited.restartIdle = s.waited := by
  rcases s.waited.restartIdle_cases with ⟨-, hr⟩ | ⟨t, ht, hr⟩
  · exact hr
  · have hkeep : t.reidled s.waited = t := by simp [Turn.reidled, h t ht]
    rw [hr, hkeep, ← State.turn_eq_some.mp ht]
    rfl

/-- The end of DISARM_RELAY closes the cycle before QUIET takes anything up. -/
theorem State.relayOff_closes (hx : s.seq.state = .disarmRelay) (h : ∀ t, s.turn = some t → t.sub ≠ .active) :
    s.waited.advance = (s.overAndOut.closeCycle s.txAirTime).atQuiet.takeUp := by
  rw [State.advance_disarmRelay (s := s.waited) hx, State.restartIdle_of_inactive h, State.enterQuiet_eq,
    State.swapProfile_quieted]
  rfl

/-- SEQ in DISARM_RELAY after the transmission `x` of the identification of the context `y`, the last of its cycle. -/
structure State.Closes (x : Tx) (y : Cycle) (s : State) : Prop where
  state : s.seq.state = .disarmRelay
  retune : s.seq.queuedRetune = none
  tx : s.seq.tx = some x
  cycle : s.idu.cycle = .closing
  context : s.idu.context = some y
  starts : s.idu.startWaits = false
  due : s.idu.due = false
  settled : s.settled

theorem State.Closes.bringTo (e : s.Closes x y) (c : Clock) : (s.bringTo c).Closes x y where
  state := by rw [State.bringTo_seq]; exact e.state
  retune := by rw [State.bringTo_seq]; exact e.retune
  tx := by rw [State.bringTo_seq]; exact e.tx
  cycle := by rw [State.bringTo_idu]; exact e.cycle
  context := by rw [State.bringTo_idu]; exact e.context
  starts := by rw [State.bringTo_idu]; exact e.starts
  due := by rw [State.bringTo_idu]; exact e.due
  settled := State.settled_bringTo c e.settled

/-- The identification of the context `y` with its transmission `x` is over in `t`, and its record is the newest. -/
def State.IdentOver (h : State) (x : Tx) (y : Cycle) (t : State) : Prop :=
  t.idu.cycle = .idle ∧ t.idu.context = none ∧ t.idu.claim = .none ∧
    (h.acu.number < max32 → t.acu.number = h.acu.number + 1 ∧ t.acu.records.getLast? =
      some ⟨h.acu.number + 1, true, none, none, none, h.seq.currentBand, .cw, y.startTime, h.seconds - y.startTime,
        if y.entered then 1 else 0, if y.entered then x.airTime else 0, .complete⟩)

theorem State.Closes.identOver (e : s.Closes x y)
    (hi : t.idu.cycle = .idle ∧ t.idu.context = none ∧ t.idu.claim = .none)
    (ha : t.acu = (s.overAndOut.completed s.txAirTime y).acu) : s.IdentOver x y t := by
  obtain ⟨hcycle, hcontext, hclaim⟩ := hi
  have hair : s.txAirTime = x.airTime := by rw [State.txAirTime, e.tx]; rfl
  rw [hair] at ha
  rw [State.IdentOver, ha]
  exact ⟨hcycle, hcontext, hclaim, State.completed_record (s := s.overAndOut)⟩

/-- An ID turn that closes without a grant. -/
theorem State.relayOff_endsIdTurn {a : Arbiter} (e : s.Closes x y) (hh : y.home = .idTurn) (ha : s.arb.arbiter = .idTurn)
    (hover : (s.overAndOut.completed s.txAirTime y).idTurnOver = (s.overAndOut.completed s.txAirTime y).setArbiter a)
    (hat : (s.setArbiter a).turn = none) :
    s.waited.advance.settle = ((s.overAndOut.completed s.txAirTime y).setArbiter a).atQuiet.syncQuiet := by
  obtain ⟨hx, hq, -, hc, hy, hi, hd, hset⟩ := e
  have hturn : s.turn = none := by simp [State.turn, ha]
  rw [State.relayOff_closes hx (by rw [hturn]; nofun), State.closeCycle_ident (s := s.overAndOut) hc hy hh, hover]
  obtain ⟨u, hu⟩ : ∃ u, u = ((s.overAndOut.completed s.txAirTime y).setArbiter a).atQuiet := ⟨_, rfl⟩
  have hnone : u.turn = none := by rw [hu]; exact hat
  rw [← hu, State.takeUp_pending (by rw [hu]; exact hq) (by rw [hu]; exact hi), State.takePending_of_no_turn hnone]
  exact State.settle_unturned hnone (by rw [hu]; exact hd) (by rw [hu]; exact ⟨(State.settled_iff.mp hset).1.2.1, rfl⟩)

/-- What such an end leaves. -/
theorem State.relayOff_arbiter {a : Arbiter} (e : s.Closes x y) (hh : y.home = .idTurn) (ha : s.arb.arbiter = .idTurn)
    (hover : (s.overAndOut.completed s.txAirTime y).idTurnOver = (s.overAndOut.completed s.txAirTime y).setArbiter a)
    (hat : (s.setArbiter a).turn = none) (ht : t = s.waited.advance.settle) :
    s.IdentOver x y t ∧ t.arb = { s.arb with arbiter := a } ∧ t.seq.state = .quiet ∧ t.drv = s.drv ∧
      t.amg.state = s.amg.state ∧ t.msr = s.msr ∧ t.prt = s.prt ∧ t.fixed = s.fixed := by
  have hfixed := s.waited_evolves.fixed
  rw [← ht] at hfixed
  rw [State.relayOff_endsIdTurn e hh ha hover hat] at ht
  refine ⟨e.identOver ?_ ?_, ?_, ?_, ?_, ?_, ?_, ?_, hfixed⟩ <;> rw [ht]
  · exact ⟨rfl, rfl, rfl⟩
  all_goals rfl

/-- The state at QUIET after a cycle in the PAUSED turn `tn` has closed, and the turn has become ACTIVE. -/
def State.resumed (tn : Turn) (y : Cycle) (s : State) : State :=
  ((s.overAndOut.completed s.txAirTime y).setArbiter (.turn tn.activated)).syncKey.atQuiet

theorem State.relayOff_resumes (e : s.Closes x y) (hh : y.home = .memberTurn) (ht : s.turn = some tn)
    (hp : tn.sub = .paused) : s.waited.advance = (s.resumed tn y).takePending := by
  obtain ⟨hx, hq, -, hc, hy, hi, hd, -⟩ := e
  have hactive := State.enterActive_eq (s := s.overAndOut.completed s.txAirTime y) ht hd
    (.inr (fun k => absurd (hx.symm.trans k) nofun))
  have hsub (z : Turn) (hz : s.turn = some z) : z.sub ≠ .active := by
    rw [← Option.some.inj (ht.symm.trans hz), hp]
    nofun
  rw [State.relayOff_closes hx hsub, State.closeCycle_member (s := s.overAndOut) hc hy hh, hactive]
  exact State.takeUp_pending (s := s.resumed tn y) hq hi

/-- What stays, and the identification that is over. -/
theorem State.resumed_keeps (tn : Turn) (e : s.Closes x y) : s.IdentOver x y (s.resumed tn y) ∧
    (s.resumed tn y).seq.state = .quiet ∧ (s.resumed tn y).drv = s.drv ∧ (s.resumed tn y).amg.state = s.amg.state ∧
      (s.resumed tn y).msr = s.msr ∧ (s.resumed tn y).prt = s.prt ∧ (s.resumed tn y).clock = s.clock :=
  ⟨e.identOver ⟨rfl, rfl, rfl⟩ rfl, rfl, rfl, rfl, rfl, rfl, rfl⟩

/-- With no start pending, the idle hang of the resumed turn runs. -/
theorem State.resumed_rests (ht : s.turn = some tn) (hp : tn.pendingStart = false) (hset : s.settled) :
    (s.resumed tn y).takePending.settle = (s.resumed tn y).setArbiter (.turn (tn.atRest s.clock)) := by
  have hturn : (s.resumed tn y).turn = some tn.activated := rfl
  have hnone : (s.resumed tn y).takePending = s.resumed tn y :=
    State.takePending_of_none fun z hz => Option.some.inj (hturn.symm.trans hz) ▸ hp
  rw [hnone, State.settle_idles hturn ⟨(State.settled_iff.mp hset).1.2.1, rfl⟩
    (show s.idu.quiet = none from State.quiet_of_turn ht hset), Turn.idling_activated rfl hp]
  rfl

theorem State.resumed_starts (ht : s.turn = some tn) (hp : tn.pendingStart = true) (hr : s.ready = true)
    (hch : s.seq.changePending = false) (hon : s.seq.active.relayOn ≠ 0) (hset : s.settled) :
    (s.resumed tn y).Starts (s.resumed tn y).takePending.settle tn.activated := by
  have hturn : (s.resumed tn y).turn = some tn.activated := rfl
  rw [State.takePending_starts hturn hp rfl rfl hr]
  refine State.takeStart_settles hturn ?_ (State.settled_iff.mp hset).1.2.1
    (show s.idu.quiet = none from State.quiet_of_turn ht hset)
  rw [State.resumed, State.atQuiet_active (by exact hch)]
  exact hon

/-- A cycle in a PAUSED turn that closes with no start pending. -/
theorem State.relayOff_reactivates (e : s.Closes x y) (hh : y.home = .memberTurn) (htn : s.turn = some tn)
    (hsub : tn.sub = .paused) (hp : tn.pendingStart = false) (ht : t = s.waited.advance.settle) :
    s.IdentOver x y t ∧ t.turn = some (tn.atRest s.clock) ∧ t.seq.state = .quiet ∧ t.drv = s.drv ∧
      t.amg.state = s.amg.state ∧ t.msr = s.msr ∧ t.prt = s.prt ∧ t.fixed = s.fixed := by
  have hfixed := s.waited_evolves.fixed
  rw [← ht] at hfixed
  rw [State.relayOff_resumes e hh htn hsub, State.resumed_rests htn hp e.settled] at ht
  obtain ⟨kover, kstate, kdrv, kamg, kmsr, kprt, -⟩ := State.resumed_keeps tn e
  generalize s.resumed tn y = v at *
  subst ht
  exact ⟨kover, rfl, kstate, kdrv, kamg, kmsr, kprt, hfixed⟩

/-- A cycle in a PAUSED turn that closes with a start pending. -/
theorem State.relayOff_restarts (e : s.Closes x y) (hh : y.home = .memberTurn) (htn : s.turn = some tn)
    (hsub : tn.sub = .paused) (hp : tn.pendingStart = true) (hr : s.ready = true) (hch : s.seq.changePending = false)
    (hon : s.seq.active.relayOn ≠ 0) (ht : t = s.waited.advance.settle) : s.IdentOver x y t ∧
      t.turn = some { tn with
        sub := .active, pendingStart := false, idleStart := none, txCount := countUp max16 tn.txCount } ∧
      t.seq.state = .armRelay ∧ t.seq.trr = true ∧ t.seq.step = some ⟨s.clock, s.seq.active.relayOn⟩ ∧
      (t.seq.tx.map fun z => (z.kind, z.band, z.emission, z.current)) =
        some (.member tn.holder, tn.band, tn.emission, true) ∧ t.prt = s.prt ∧ t.fixed = s.fixed := by
  have hfixed := s.waited_evolves.fixed
  rw [← ht] at hfixed
  rw [State.relayOff_resumes e hh htn hsub] at ht
  have key := State.resumed_starts (y := y) htn hp hr hch hon e.settled
  rw [← ht] at key
  have hact : (s.resumed tn y).seq.active = s.seq.active := State.atQuiet_active (by exact hch)
  obtain ⟨hover, -, -, -, -, hprt, hclock⟩ := State.resumed_keeps tn e
  obtain ⟨-, -, -, -, kprt, kidu, kacu, -⟩ := key.parts
  obtain ⟨kstate, ktrr, kstep, ktx, kturn, -, -⟩ := key
  rw [hact, hclock] at kstep
  rw [State.IdentOver, ← kidu, ← kacu] at hover
  exact ⟨hover, kturn, kstate, ktrr, kstep, ktx, kprt.trans hprt, hfixed⟩

end Closing

/-! ### Where no identification is concerned -/

/-- From `h` to `s` no record was written; in `s` no identification is due, claimed, waiting or under way, and no gap runs. -/
structure State.Unconcerned (h s : State) : Prop where
  due : s.idu.due = false
  cycle : s.idu.cycle = .idle
  context : s.idu.context = none
  claim : s.idu.claim = .none
  starts : s.idu.startWaits = false
  gap : s.arb.gap = none
  acu : s.acu = h.acu

/-- What of IDU an identification is told by. -/
def Idu.concern (i : Idu) : Bool × CycleState × Option Cycle × Claim × Bool := (i.due, i.cycle, i.context, i.claim, i.startWaits)

namespace State.Unconcerned

variable {h s t : State}

theorem same (e : h.Unconcerned s) (hi : t.idu.concern = s.idu.concern := by rfl)
    (hg : t.arb.gap = s.arb.gap := by rfl) (ha : t.acu = s.acu := by rfl) : h.Unconcerned t := by
  simp only [Idu.concern, Prod.mk.injEq] at hi
  obtain ⟨hdue, hcycle, hcontext, hclaim, hstarts⟩ := hi
  exact ⟨hdue.trans e.due, hcycle.trans e.cycle, hcontext.trans e.context, hclaim.trans e.claim,
    hstarts.trans e.starts, hg.trans e.gap, ha.trans e.acu⟩

theorem ite {c : Prop} [Decidable c] {a b : State} (ha : h.Unconcerned a) (hb : h.Unconcerned b) :
    h.Unconcerned (if c then a else b) := by split <;> assumption

theorem raise (e : h.Unconcerned s) (r : Report) : h.Unconcerned (s.raise r) := e.same

theorem modTurn (e : h.Unconcerned s) (f : Turn → Turn) : h.Unconcerned (s.modTurn f) := by
  rw [(s.modTurn_frame f).1]
  exact e.same

theorem takeStart (e : h.Unconcerned s) : h.Unconcerned s.takeStart := by
  cases ht : s.turn with
  | none => simpa only [State.takeStart, ht] using e
  | some t =>
    have k := State.takeStart_starts ht
    exact e.same (by rw [k.frame]) (by rw [k.frame]) (by rw [k.frame])

theorem takePending (e : h.Unconcerned s) : h.Unconcerned s.takePending := by
  unfold State.takePending; split
  · exact .ite e.takeStart e
  · exact e

theorem enterActive (e : h.Unconcerned s) : h.Unconcerned s.enterActive := by
  have e' := (e.modTurn fun t => { t with sub := .active }).same (t := State.syncKey _)
  unfold State.enterActive
  dsimp only
  rw [if_neg fun c => absurd (Eq.trans e'.due.symm c.1) Bool.false_ne_true]
  exact e'.takePending

theorem ampAtGrant (e : h.Unconcerned s) (u : Nat) : h.Unconcerned (s.ampAtGrant u) := by
  unfold State.ampAtGrant; refine .ite ?_ e
  split
  · exact .ite e.same e.same
  · exact .ite (.ite e.same e) e
  · exact e
  · exact e

theorem grantRequest (e : h.Unconcerned s) (w : SlotId) (r : RequestRec) : h.Unconcerned (s.grantRequest w r) := by
  have e : h.Unconcerned (s.grantSteps w r) := by
    have key : h.Unconcerned (State.setFactor Config.fullFactor { s.setTenancy w .holding with
        arb := { (s.setTenancy w .holding).arb with
          ranks := rotate s.arb.ranks w, arbiter := .turn ((s.setTenancy w .holding).newTurn w r), gap := none } }) :=
      ⟨e.due, e.cycle, e.context, e.claim, e.starts, rfl, e.acu⟩
    exact (key.ampAtGrant _).raise _
  have e' : h.Unconcerned ((s.grantSteps w r).flushTurnKeys.askRetune r.band) := .ite e.same e.same
  have hdue : ¬(s.grantSteps w r).idu.due = true := by rw [e.due]; nofun
  have hdue' : ¬((s.grantSteps w r).flushTurnKeys.askRetune r.band).idu.due = true := by rw [e'.due]; nofun
  unfold State.grantRequest State.enterGranted
  rw [if_neg hdue, if_neg hdue']
  exact .ite e.enterActive e'

theorem atQuiet (e : h.Unconcerned s) : h.Unconcerned s.atQuiet := e.same

theorem takeUp (e : h.Unconcerned s) : h.Unconcerned s.takeUp := by
  unfold State.takeUp; split
  · exact e.same
  · rw [if_neg fun c => absurd (Eq.trans e.starts.symm c.1) Bool.false_ne_true]
    exact e.takePending

theorem enterQuiet (e : h.Unconcerned s) : h.Unconcerned s.enterQuiet := by
  rw [State.enterQuiet_of_open (by rw [e.cycle]; nofun)]
  exact .takeUp (.atQuiet e.same)

theorem settleBand (e : h.Unconcerned s) : h.Unconcerned s.settleBand := by
  have e' : h.Unconcerned (State.enterQuiet { s with seq := { s.seq with retuneBand := none, retuneCurrent := false } }) :=
    .enterQuiet e.same
  unfold State.settleBand
  dsimp only
  cases s.seq.retuneBand with
  | none => exact .ite e'.enterActive e'
  | some b => exact .ite (e'.raise _).enterActive (e'.raise _)

theorem tellExit (e : h.Unconcerned s) {c : TxEndCause} (left : Bool) (hc : completesOver c = false) :
    h.Unconcerned (s.tellExit c left) := by
  have hclaim : ¬s.idu.claim = .atTxEnd := by rw [e.claim]; nofun
  have hruns : s.cycleRuns = false := by simp [State.cycleRuns, e.cycle]
  have hdrop : s.dropAbandons = s := if_neg (by rw [hruns]; nofun)
  simp only [State.tellExit, hc, Bool.and_false, Bool.false_and, Bool.false_eq_true, if_false, hclaim, hdrop, ite_self]
  exact e

theorem leaveExciting (e : h.Unconcerned s) (c : TxEndCause) (q : SeqState) : h.Unconcerned (s.leaveExciting c q) := by
  unfold State.leaveExciting; split
  · exact e
  · exact e.same

theorem disarm (e : h.Unconcerned s) : h.Unconcerned s.disarm := .ite e.same e.same

theorem cut (e : h.Unconcerned s) (c : CutCause) : h.Unconcerned (s.cut c) := by
  have hc : completesOver (cutEnd c) = false := by cases c <;> rfl
  unfold State.cut
  dsimp only
  generalize hq : State.cutFlush c _ = q
  have e : h.Unconcerned q := by
    rw [← hq]
    have e : h.Unconcerned s.clearPending := e.modTurn _
    unfold State.cutFlush; split
    · exact .ite e.same e.same
    · exact e.same
  have earm : h.Unconcerned (q.abandonArming (cutEnd c)) := .disarm e.same
  split
  · exact e
  · exact e
  · exact e
  · exact e
  · exact earm.tellExit _ hc
  · exact earm.tellExit _ hc
  · exact (e.leaveExciting _ _).disarm.tellExit _ hc
  · exact e.disarm

theorem enterArmAmp (e : h.Unconcerned s) : h.Unconcerned s.enterArmAmp :=
  .ite (.ite e.same (.cut e.same _)) e.same

theorem computeDrive (e : h.Unconcerned s) : h.Unconcerned s.computeDrive := by
  unfold State.computeDrive; split
  · exact e
  · split
    · exact e
    · exact e.same

theorem syncKey (e : h.Unconcerned s) : h.Unconcerned s.syncKey := e.same

/-- Without a context nothing is sent. -/
theorem beginSending (e : h.Unconcerned s) : h.Unconcerned s.beginSending := by
  unfold State.beginSending
  rw [e.context]
  exact e

theorem enterExciting (e : h.Unconcerned s) : h.Unconcerned s.enterExciting := by
  unfold State.enterExciting; split
  · exact e
  · dsimp only
    generalize hq : State.computeDrive _ = q
    have e : h.Unconcerned q := by rw [← hq]; exact .computeDrive e.same
    exact .syncKey (.ite (.raise (.ite e.same e) _) (.beginSending (.raise (.ite e.same e) _)))

/-- A wait's end keeps clear of it. -/
theorem advance (e : h.Unconcerned s) : h.Unconcerned s.advance := by
  unfold State.advance; split
  · exact e.settleBand
  · exact e.enterArmAmp
  · exact e.enterExciting
  · exact e.same
  · exact e.same
  · exact .enterQuiet (e.modTurn _)
  · exact e
  · exact e

theorem settle (e : h.Unconcerned s) : h.Unconcerned s.settle := by
  refine State.settle_induct (P := h.Unconcerned) (fun s t ht e => ?_) (fun _ e => e.modTurn _) (fun _ e => e.same) e
  rcases State.settleStep_cases ht with ⟨hdue, -⟩ | ⟨hgap, -⟩ | ⟨-, rfl⟩
  · exact absurd (e.due.symm.trans hdue) nofun
  · rw [e.gap] at hgap
    cases hgap
  · exact .advance e.same

end State.Unconcerned

@[simp] theorem State.ampAtGrant_prt (u : Nat) (s : State) : (s.ampAtGrant u).prt = s.prt := by
  unfold State.ampAtGrant State.warmAmp State.startAmpIdle
  split
  · cases s.amg.state <;> dsimp only <;> split <;> (try split) <;> rfl
  · rfl

theorem State.grantSteps_prt (w : SlotId) (r : RequestRec) (s : State) : (s.grantSteps w r).prt = s.prt := by
  simp only [State.grantSteps, State.raise_prt, State.ampAtGrant_prt]
  rfl

theorem State.stopGap_ranks (s : State) : s.stopGap.arb.ranks = s.arb.ranks := rfl

/-- An ID turn that closes with a grant: the winner holds the transmitter, whatever QUIET then takes up for it. -/
theorem State.relayOff_grants {s : State} {w : SlotId} {x : Tx} {y : Cycle} (e : s.Closes x y)
    (hh : y.home = .idTurn) (ha : s.arb.arbiter = .idTurn) (hr : s.ready = true)
    (hw : s.winner = some w) (hg : s.arb.gap = none ∨ ∃ v, s.eligible v = true ∧ s.marked v = true) :
    (s.overAndOut.completed s.txAirTime y).Unconcerned s.waited.advance.settle ∧
      s.waited.advance.settle.holder = some w ∧ s.waited.advance.settle.tenancy w = .holding ∧
      s.waited.advance.settle.arb.ranks = rotate s.arb.ranks w ∧ s.waited.advance.settle.prt = s.prt := by
  obtain ⟨hx, -, -, hc, hy, hi, hd, -⟩ := e
  have hturn : s.turn = none := by simp [State.turn, ha]
  obtain ⟨c, hcl⟩ : ∃ c, c = s.overAndOut.completed s.txAirTime y := ⟨_, rfl⟩
  have asks : s.AsksAs c := by
    rw [hcl]
    exact s.completed_asks s.txAirTime y
  have harb : c.arb = s.arb := by rw [hcl]; rfl
  have hprt : c.prt = s.prt := by rw [hcl]; rfl
  have hdue : c.idu.due = false := by rw [hcl]; exact hd
  have hstarts : c.idu.startWaits = false := by rw [hcl]; exact hi
  have hidle : c.idu.cycle = .idle ∧ c.idu.context = none ∧ c.idu.claim = .none := by rw [hcl]; exact ⟨rfl, rfl, rfl⟩
  obtain ⟨r, hover⟩ := State.idTurnOver_grants (s := c) (by rw [harb]; exact ha) (by rw [State.ready, hprt]; exact hr)
    (asks.winner.trans hw) (by
      rw [harb]
      refine hg.imp_right fun ⟨v, hv, hm⟩ => ⟨v, (asks.eligible v).trans hv, (asks.marked v).trans hm⟩)
  have hclose : s.waited.overAndOut.closeCycle s.waited.txAirTime = c.stopGap.grantRequest w r := by
    rw [← hover, hcl]
    exact State.closeCycle_ident (s := s.overAndOut) hc hy hh
  have hadv : s.waited.advance = s.waited.enterQuiet := by
    rw [State.advance_disarmRelay (s := s.waited) hx, State.restartIdle_of_inactive (by rw [hturn]; nofun)]
  have lasts : (c.stopGap.grantRequest w r).Lasts s.waited.enterQuiet := by
    rw [← hclose]
    exact s.waited.enterQuiet_lasts
  have unconcerned : c.Unconcerned s.waited.enterQuiet := by
    have e : c.Unconcerned c.stopGap := ⟨hdue, hidle.1, hidle.2.1, hidle.2.2, hstarts, rfl, rfl⟩
    rw [State.enterQuiet_eq, hclose, State.swapProfile_quieted]
    exact (e.grantRequest w r).atQuiet.takeUp
  have grants := (State.grantRequest_lasts w r c.stopGap).trans lasts
  have hsteps := c.stopGap.grantSteps_arb w r
  have hgranted : (c.stopGap.grantSteps w r).turn = some (c.stopGap.newTurn w r) := by rw [State.turn, hsteps]
  obtain ⟨v, hv, -⟩ : ∃ v, s.waited.enterQuiet.turn = some v ∧ v.terms = (c.stopGap.newTurn w r).terms := by
    have key := grants.turnTerms
    rw [hgranted] at key
    exact Option.map_eq_some_iff.mp key
  have key := grants.trans (State.lasts_settle_of_turn hv (by rw [unconcerned.gap]; rfl))
  rw [hadv, ← hcl]
  refine ⟨unconcerned.settle, ?_, ?_, ?_, ?_⟩
  · rw [key.holder, State.holder_of_turn hgranted]
    rfl
  · rw [key.tenancy, State.tenancy, hsteps]
    exact Table.read_write_same ..
  · rw [key.ranks, hsteps]
    rw [State.stopGap_ranks, harb]
  · rw [key.prt, State.grantSteps_prt]
    exact hprt

/-! ### The occurrences -/

section Occurrences

variable {s : State} {tm : Timer} {p : State → Prop}

theorem State.relayOff_answers (hr : s.rst = false) (hx : s.seq.state = .disarmRelay) (hs : s.seq.step = some tm)
    (hp : p (s.bringTo tm.due).waited.advance.settle) : Answers (.relayOffExpiry) s p :=
  ⟨_, congrArg Host.Outcome.next (State.stepExpiry_taken hr hx nofun hs), hp⟩

theorem State.bandSettle_answers (hr : s.rst = false) (hx : s.seq.state = .retune) (hs : s.seq.step = some tm)
    (hp : p (s.bringTo tm.due).waited.advance.settle) : Answers (.bandSettleExpiry) s p :=
  ⟨_, congrArg Host.Outcome.next (State.stepExpiry_taken hr hx nofun hs), hp⟩

/-- With a retune queued, QUIET enters it. -/
theorem State.relayOff_retunes {t : State} {b : BandId} (hx : s.seq.state = .disarmRelay)
    (hq : s.seq.queuedRetune = some b) (hc : s.idu.cycle ≠ .closing) (hon : s.seq.active.bandSettle ≠ 0)
    (hch : s.seq.changePending = false) (hset : s.settled) (ht : t = s.waited.advance.settle) :
    t.seq.state = .retune ∧ t.seq.tx = none ∧ t.seq.currentBand = some b ∧
      t.seq.bandCode = (s.drv.bands.read b).relayCode ∧ t.seq.queuedRetune = none ∧ t.seq.retuneBand = some b ∧
      t.seq.retuneCurrent = true ∧ t.seq.step = some ⟨s.clock, s.seq.active.bandSettle * 10⟩ ∧ t.msr.factor = 256 ∧
      t.amg.idle = none ∧ t.fixed = s.fixed ∧ t.drv = s.drv ∧ t.ktl = s.ktl ∧ t.prt = s.prt ∧ t.acu = s.acu ∧
      (s.seq.currentBand ≠ none → t.idu = s.idu) := by
  obtain ⟨⟨hdue, hgap, -⟩, -, hquiet⟩ := State.settled_iff.mp hset
  have hfixed := s.waited_evolves.fixed
  rw [← ht] at hfixed
  have hopen := s.idTurnOpen_disarmed
  have hrun := s.quietMayRun_disarmed
  obtain ⟨a, ha⟩ := s.disarmed_frame
  have hactive : s.disarmed.seq.active = s.seq.active := by
    rw [ha]
    exact State.atQuiet_active (s := s.overAndOut) hch
  have hq' : s.disarmed.seq.queuedRetune = some b := by rw [ha]; exact hq
  obtain ⟨hframe, hidu⟩ := State.enterRetune_settles (s := s.disarmed) (b := b) (by rw [ha]; exact hgap)
    (by rw [hactive]; exact hon)
  rw [State.relayOff_takesUp hx hc, State.takeUp_retune hq'] at ht
  rw [← ht] at hframe hidu
  have hkept : s.disarmed.seq.tx = none ∧ s.disarmed.drv = s.drv ∧ s.disarmed.ktl = s.ktl ∧ s.disarmed.prt = s.prt ∧
      s.disarmed.acu = s.acu ∧ s.disarmed.seq.currentBand = s.seq.currentBand ∧ s.disarmed.idu = s.idu ∧
      s.disarmed.clock = s.clock := by
    rw [ha]
    exact ⟨rfl, rfl, rfl, rfl, rfl, rfl, rfl, rfl⟩
  obtain ⟨htx, hdrv, hktl, hprt, hacu, hband, hiduq, hclock⟩ := hkept
  rw [hiduq, hopen, hrun, hband] at hidu
  generalize s.disarmed = u at *
  have hstep : (u.enterRetune b).seq.step = some ⟨s.clock, s.seq.active.bandSettle * 10⟩ := by
    rw [← hclock, ← hactive]
    rfl
  have vseq : t.seq = (u.enterRetune b).seq := congrArg (·.seq) hframe
  have vmsr : t.msr = (u.enterRetune b).msr := congrArg (·.msr) hframe
  have vamg : t.amg = (u.enterRetune b).amg := congrArg (·.amg) hframe
  have vdrv : t.drv = u.drv := congrArg (·.drv) hframe
  have vktl : t.ktl = u.ktl := congrArg (·.ktl) hframe
  have vprt : t.prt = u.prt := congrArg (·.prt) hframe
  have vacu : t.acu = u.acu := congrArg (·.acu) hframe
  rw [vseq, vmsr, vamg]
  exact ⟨rfl, htx, rfl, by rw [← hdrv]; rfl, rfl, rfl, rfl, hstep, rfl, rfl, hfixed, vdrv.trans hdrv, vktl.trans hktl,
    vprt.trans hprt, vacu.trans hacu, fun hb => hidu hb hdue hquiet⟩

/-- The turn that the end of the band settle makes ACTIVE, and the report of it. -/
theorem State.bandSettle_activates {t : State} {tn : Turn} {b : BandId} (hx : s.seq.state = .retune)
    (hq : s.seq.queuedRetune = none) (hc : s.idu.cycle = .idle) (hi : s.idu.startWaits = false) (hd : s.idu.due = false)
    (htn : s.turn = some tn) (hp : tn.pendingStart = false) (hcur : s.seq.retuneCurrent = true)
    (hb : s.seq.retuneBand = some b) (hset : s.settled) (ht : t = s.waited.advance.settle) :
    t.seq.state = .quiet ∧ t.seq.tx = none ∧ t.seq.retuneCurrent = false ∧ t.seq.retuneBand = none ∧
      t.seq.currentBand = s.seq.currentBand ∧ t.seq.bandCode = s.seq.bandCode ∧ t.turn = some (tn.atRest s.clock) ∧
      s.raised t (.bandSet b s.seq.bandCode.val) ∧ t.fixed = s.fixed ∧ t.drv = s.drv ∧ t.msr = s.msr ∧ t.prt = s.prt ∧
      t.idu = s.idu ∧ t.acu = s.acu := by
  have hfixed := s.waited_evolves.fixed
  have key := State.bandSettle_ends hx hq hc hi hd htn hp hcur hb hset
  rw [← ht] at hfixed key
  have vseq : t.seq = s.untuned.overAndOut.atQuiet.seq := congrArg (·.seq) key
  have vlnk : t.lnk = s.lnk.raise (.bandSet b s.seq.bandCode.val) := congrArg (·.lnk) key
  have vturn : t.turn = some (tn.atRest s.clock) := congrArg (·.turn) key
  rw [vseq]
  exact ⟨rfl, rfl, rfl, rfl, rfl, rfl, vturn,
    State.raised_of_grows (.refl _) (Nat.le_add_right _ _) (by rw [vlnk]; exact .refl _), hfixed,
    congrArg (·.drv) key, congrArg (·.msr) key, congrArg (·.prt) key, congrArg (·.idu) key, congrArg (·.acu) key⟩

/-- The identification that starts, with what it captures. -/
theorem State.relayOff_startsIdent {t : State} {b : BandId} {y : Cycle} {c : List Char}
    (hx : s.seq.state = .disarmRelay) (hq : s.seq.queuedRetune = none) (hc : s.idu.cycle = .starting)
    (hi : s.idu.startWaits = true) (hy : s.idu.context = some y) (hr : s.ready = true)
    (hb : s.seq.currentBand = some b) (hcs : s.idu.callsign = some c) (hch : s.seq.changePending = false)
    (hon : s.seq.active.relayOn ≠ 0) (hset : s.settled) (ht : t = s.waited.advance.settle) :
    t.idu.cycle = .starting ∧ t.seq.state = .armRelay ∧ t.seq.trr = true ∧ t.seq.idm = true ∧
      (t.seq.tx.map fun z => (z.kind, z.band, z.emission)) = some (.ident, b, .cw) ∧
      (t.idu.context.map fun z => (z.callsign, z.speed, z.power)) = some (c, s.idu.params.speed, s.idu.params.power) ∧
      t.drv = s.drv ∧ t.msr = s.msr ∧ t.prt = s.prt ∧ t.acu = s.acu ∧ t.fixed = s.fixed ∧ t.idu.startWaits = false ∧
      t.holder = s.holder := by
  have hfixed := s.waited_evolves.fixed
  obtain ⟨hframe, hholder⟩ := State.relayOff_identifies hx hq hc hi hy hr hb hch hon hset
  rw [← ht] at hfixed hframe hholder
  obtain ⟨a, ha⟩ := s.disarmed_frame
  have hstart := State.takeIdStart_eq (s := s.disarmed) (b := b) (c := y) (by rw [ha]; exact hb) (by rw [ha]; exact hy)
  rw [hstart, ha] at hframe
  have vseq : t.seq = _ := congrArg (·.seq) hframe
  have vidu : t.idu = _ := congrArg (·.idu) hframe
  rw [vseq, vidu]
  have hcaptured : (y.captured { s.overAndOut.atQuiet with arb := { s.arb with arbiter := a } }).callsign = c :=
    congrArg (fun o : Option (List Char) => o.getD []) hcs
  exact ⟨hc, rfl, rfl, rfl, rfl, congrArg (fun z => some (z, s.idu.params.speed, s.idu.params.power)) hcaptured,
    congrArg (·.drv) hframe, congrArg (·.msr) hframe, congrArg (·.prt) hframe, congrArg (·.acu) hframe, hfixed, rfl,
    hholder⟩

/-- The member's transmission that starts. -/
theorem State.relayOff_takesPending {t : State} {tn : Turn} (hx : s.seq.state = .disarmRelay)
    (hq : s.seq.queuedRetune = none) (hc : s.idu.cycle ≠ .closing) (hi : s.idu.startWaits = false)
    (htn : s.turn = some tn) (hp : tn.pendingStart = true) (ha : tn.sub = .active) (hr : s.ready = true)
    (hon : s.seq.active.relayOn ≠ 0) (hch : s.seq.changePending = false) (hset : s.settled)
    (ht : t = s.waited.advance.settle) :
    t.seq.state = .armRelay ∧ t.seq.trr = true ∧ t.seq.step = some ⟨s.clock, s.seq.active.relayOn⟩ ∧
      (t.seq.tx.map fun z => (z.kind, z.band, z.emission, z.current)) =
        some (.member tn.holder, tn.band, tn.emission, true) ∧
      t.turn = some { tn with pendingStart := false, idleStart := none, txCount := countUp max16 tn.txCount } ∧
      t.fixed = s.fixed ∧ t.drv = s.drv ∧ t.ktl = s.ktl ∧ t.prt = s.prt ∧ t.idu = s.idu ∧ t.acu = s.acu ∧
      t.msr = s.msr := by
  have hfixed := s.waited_evolves.fixed
  have key := State.relayOff_starts hx hq hc hi htn hp ha hr hon hch hset
  rw [← ht] at hfixed key
  have hact : s.overAndOut.atQuiet.seq.active = s.seq.active := State.atQuiet_active (s := s.overAndOut) hch
  obtain ⟨kktl, -, kdrv, kmsr, kprt, kidu, kacu, -⟩ := key.parts
  obtain ⟨kstate, ktrr, kstep, ktx, kturn, -, -⟩ := key
  rw [hact] at kstep
  exact ⟨kstate, ktrr, kstep, ktx, kturn, hfixed, kdrv, kktl, kprt, kidu, kacu, kmsr⟩

/-- Nothing is taken up. -/
theorem State.relayOff_leaves {t : State} (hx : s.seq.state = .disarmRelay) (hq : s.seq.queuedRetune = none)
    (hc : s.idu.cycle ≠ .closing) (hi : s.idu.startWaits = false) (hp : ∀ tn ∈ s.turn, tn.pendingStart = false)
    (hset : s.settled) (ht : t = s.waited.advance.settle) :
    t.seq = { s.seq with
      state := .quiet, step := none, tx := none
      active := if s.seq.changePending then s.seq.staged else s.seq.active, changePending := false } ∧
    t.amg = { s.amg with idle := if s.amg.state = .on then some ⟨s.clock, s.amg.ampIdleTime * 60000⟩ else s.amg.idle } ∧
    (t.turn = s.turn.map fun y => { y with idleStart := if y.sub = .active then some s.clock else none }) ∧
    { t.arb with arbiter := s.arb.arbiter } = s.arb ∧ t.drv = s.drv ∧ t.ktl = s.ktl ∧ t.msr = s.msr ∧ t.prt = s.prt ∧
      t.idu = s.idu ∧ t.acu = s.acu ∧ t.fixed = s.fixed := by
  have hfixed := s.waited_evolves.fixed
  rw [← ht] at hfixed
  rw [State.relayOff_rests hx hq hc hi hp hset] at ht
  subst ht
  refine ⟨?_, ?_, State.turn_modTurn .., ?_, ?_, ?_, ?_, ?_, ?_, ?_, hfixed⟩ <;> rw [(State.modTurn_frame _ _).1] <;> rfl

end Occurrences

/-- Settles O54: the state at QUIET after the end of each wait, and what it takes up. -/
theorem theSequencerDisarms : Obligations.TheSequencerDisarms := by
  refine ⟨fun tm x s => ?_, fun tm x s => ?_, fun tm s => ?_, fun tm s => ?_, fun tm tn s => ?_, fun tm b s => ?_,
    fun tm tn b s => ?_, fun tm y b c s => ?_, fun tm x y s => ?_, fun tm x y s => ?_, fun tm x y w s => ?_,
    fun tm x y tn s => ?_, fun tm x y tn s => ?_⟩ <;> intro h hr hx hs <;>
    have hseq : h.seq = s.seq := State.bringTo_seq .. <;> have hidu : h.idu = s.idu := State.bringTo_idu .. <;>
    have hturn : h.turn = s.turn := State.turn_bringTo .. <;>
    have hready : h.ready = decide (s.prt.station = .ready) := State.ready_bringTo .. <;>
    have hx' : h.seq.state = s.seq.state := congrArg Seq.state hseq <;> rw [hx] at hx'
  · intro htx hp hoff hset
    refine congrArg Host.Outcome.next ((State.stepExpiry_taken hr hx nofun hs).trans ?_)
    exact State.tail_ends_amplified (s := h) hx' (by rw [hseq]; exact htx) hp (by rw [hseq]; exact hoff)
      (State.settled_bringTo _ hset)
  · intro htx hp hoff hset
    refine congrArg Host.Outcome.next ((State.stepExpiry_taken hr hx nofun hs).trans ?_)
    exact State.tail_ends_barefoot (s := h) hx' (by rw [hseq]; exact htx) hp (by rw [hseq]; exact hoff)
      (State.settled_bringTo _ hset)
  · intro hoff hset
    refine congrArg Host.Outcome.next ((State.stepExpiry_taken hr hx nofun hs).trans ?_)
    exact State.ampOff_ends (s := h) hx' (by rw [hseq]; exact hoff) (State.settled_bringTo _ hset)
  · intro hq hc hi hp hset
    exact State.relayOff_answers hr hx hs (State.relayOff_leaves hx' (by rw [hseq]; exact hq) (by rw [hidu]; exact hc)
      (by rw [hidu]; exact hi) (by rw [hturn]; exact hp) (State.settled_bringTo _ hset) rfl)
  · intro hq hc hi ht hp ha hst hon hch hset
    exact State.relayOff_answers hr hx hs (State.relayOff_takesPending hx' (by rw [hseq]; exact hq)
      (by rw [hidu]; exact hc) (by rw [hidu]; exact hi) (hturn.trans ht) hp ha (hready.trans (decide_eq_true hst))
      (by rw [hseq]; exact hon) (by rw [hseq]; exact hch) (State.settled_bringTo _ hset) rfl)
  · intro hq hc hon hch hset
    exact State.relayOff_answers hr hx hs (State.relayOff_retunes hx' (by rw [hseq]; exact hq) (by rw [hidu]; exact hc)
      (by rw [hseq]; exact hon) (by rw [hseq]; exact hch) (State.settled_bringTo _ hset) rfl)
  · intro hq hc hi hd ht hp hcur hb hm hset
    exact State.bandSettle_answers hr hx hs (State.bandSettle_activates hx' (by rw [hseq]; exact hq)
      (by rw [hidu]; exact hc) (by rw [hidu]; exact hi) (by rw [hidu]; exact hd) (hturn.trans ht) hp
      (by rw [hseq]; exact hcur) (by rw [hseq]; exact hb) (State.settled_bringTo _ hset) rfl)
  · intro hq hc hi hy hst hb hcs hch hon hset
    exact State.relayOff_answers hr hx hs (State.relayOff_startsIdent hx' (by rw [hseq]; exact hq)
      (by rw [hidu]; exact hc) (by rw [hidu]; exact hi) (by rw [hidu]; exact hy) (hready.trans (decide_eq_true hst))
      (by rw [hseq]; exact hb) (by rw [hidu]; exact hcs) (by rw [hseq]; exact hch) (by rw [hseq]; exact hon)
      (State.settled_bringTo _ hset) rfl)
  · intro hq htx hc hy hi hd hset hh ha hno hg
    have e : h.Closes x y := .bringTo ⟨hx, hq, htx, hc, hy, hi, hd, hset⟩ _
    have asks := (State.AsksAs.bringTo tm.due s).trans (State.completed_asks h.txAirTime y h)
    have ha' : h.arb.arbiter = .idTurn := by simpa [h] using ha
    have hg' : h.arb.gap ≠ none := by simpa [h] using hg
    have hover := State.idTurnOver_waits (s := h.overAndOut.completed h.txAirTime y) ha' hg'
      (hno.imp (fun k => hready.trans (decide_eq_false k))
        fun k w hw => (asks.marked w).trans (k w ((asks.eligible w).symm.trans hw)))
    exact State.relayOff_answers hr hx hs (State.relayOff_arbiter e hh ha' hover rfl rfl)
  · intro hq htx hc hy hi hd hset hh ha hno hg
    have e : h.Closes x y := .bringTo ⟨hx, hq, htx, hc, hy, hi, hd, hset⟩ _
    have asks := (State.AsksAs.bringTo tm.due s).trans (State.completed_asks h.txAirTime y h)
    have ha' : h.arb.arbiter = .idTurn := by simpa [h] using ha
    have hg' : h.arb.gap = none := by simpa [h] using hg
    have hover := State.idTurnOver_frees (s := h.overAndOut.completed h.txAirTime y) ha' hg'
      (hno.imp (fun k => hready.trans (decide_eq_false k)) fun k => asks.winner.trans k)
    exact State.relayOff_answers hr hx hs (State.relayOff_arbiter e hh ha' hover rfl rfl)
  · intro hq htx hc hy hi hd hset hh ha hst hw hg
    have e : h.Closes x y := .bringTo ⟨hx, hq, htx, hc, hy, hi, hd, hset⟩ _
    have asks := State.AsksAs.bringTo tm.due s
    obtain ⟨k, hholder, htenancy, hranks, hprt⟩ := State.relayOff_grants e hh (by simpa [h] using ha)
      (hready.trans (decide_eq_true hst)) (asks.winner.trans hw)
      (hg.imp (fun k => by simpa [h] using k)
        fun ⟨v, hv, hm⟩ => ⟨v, (asks.eligible v).trans hv, (asks.marked v).trans hm⟩)
    exact State.relayOff_answers hr hx hs ⟨e.identOver ⟨k.cycle, k.context, k.claim⟩ k.acu, hholder, htenancy, k.gap,
      hranks, hprt, h.waited_evolves.fixed⟩
  · intro hq htx hc hy hi hd hset hh ht hsub hp
    have e : h.Closes x y := .bringTo ⟨hx, hq, htx, hc, hy, hi, hd, hset⟩ _
    exact State.relayOff_answers hr hx hs (State.relayOff_reactivates e hh (hturn.trans ht) hsub hp rfl)
  · intro hq htx hc hy hi hd hset hh ht hsub hp hst hch hon
    have e : h.Closes x y := .bringTo ⟨hx, hq, htx, hc, hy, hi, hd, hset⟩ _
    exact State.relayOff_answers hr hx hs (State.relayOff_restarts e hh (hturn.trans ht) hsub hp
      (hready.trans (decide_eq_true hst)) (by rw [hseq]; exact hch) (by rw [hseq]; exact hon) rfl)

end Sys2Proof.Machine
end

section
/-! The lines, the sequencer's and the amplifier's states behind them, and the station state: every way in which what turns,
transmissions and identifications do can change them. -/

namespace Sys2Proof.Machine

set_option Elab.async false

/-! ### What is wired together, and its moves -/

/-- What R50's table, R101 and R142 speak of: RST, the sequencer's state, whether a transmission stands in it and whether
that is an identification's and AMPLIFIED, the lines and DRIVE, the amplifier's state with AMPPWR, and the station state
with the one derived. -/
structure Wiring where
  rst : Bool
  seq : SeqState
  tx : Option (Bool × Bool)
  trr : Bool
  ampkey : Bool
  exc : Bool
  idm : Bool
  keyGate : Bool
  drive : Bool
  amp : AmpState
  amppwr : Bool
  station : StationState
  derived : StationState

/-- The wiring of a state. -/
def State.wiring (s : State) : Wiring where
  rst := s.rst
  seq := s.seq.state
  tx := s.seq.tx.map fun x => (decide (x.kind = .ident), decide (x.path = .amplified))
  trr := s.seq.trr
  ampkey := s.seq.ampkey
  exc := s.seq.exc
  idm := s.seq.idm
  keyGate := s.seq.keyGate
  drive := s.drv.applied.active
  amp := s.amg.state
  amppwr := s.amg.amppwr
  station := s.prt.station
  derived := s.derived

/-- The transmission in SEQ is AMPLIFIED. -/
def Wiring.amplified (v : Wiring) : Bool := v.tx.any (·.2)

/-- The transmission in SEQ is an identification's. -/
def Wiring.ident (v : Wiring) : Bool := v.tx.any (·.1)

/-- AMPPWR is asserted exactly in WARMING and ON (R101). -/
def Wiring.powered (v : Wiring) : Prop := v.amppwr = decide (v.amp = .warming ∨ v.amp = .on)

/-- In the disarm step that AMPKEY calls for (R62, R69). -/
def Wiring.disarmed (v : Wiring) : Wiring :=
  if v.ampkey then { v with seq := .disarmAmp, ampkey := false }
  else { v with seq := .disarmRelay, trr := false, idm := false }

/-- Off the air (R61). -/
def Wiring.offAir (v : Wiring) : Wiring := { v with exc := false, keyGate := false, drive := false }

/-- One thing that turns, transmissions and identifications can do to the wiring, with what it finds before; the station
state and RST stay. -/
inductive Wiring.Move : Wiring → Wiring → Prop
  /-- The amplifier changes state, and AMPPWR with it (R101). -/
  | amp (v : Wiring) (x : AmpState) : Move v { v with amp := x, amppwr := decide (x = .warming ∨ x = .on) }
  /-- DRIVE is computed while EXCITING (R112). -/
  | drives (v : Wiring) (h : v.seq = .exciting) : Move v { v with drive := true }
  /-- A start is taken (R53, R58, R71). -/
  | starts (v : Wiring) (i a : Bool) (h : v.seq = .quiet) (hr : v.station = .ready) :
      Move v { v with seq := .armRelay, tx := some (i, a), trr := true, idm := i }
  /-- The relays have settled (R59). -/
  | relayOn (v : Wiring) (h : v.seq = .armRelay) :
      Move v { v with seq := .armAmp, ampkey := v.ampkey || v.amplified }
  /-- A transmission goes on the air, from ARM_AMP or again from DRAIN (R56, R60). -/
  | onAir (v : Wiring) (d : Bool) (hx : v.tx.isSome = true)
      (h : v.seq = .armAmp ∨ (v.seq = .drain ∧ v.station = .ready)) :
      Move v { v with seq := .exciting, exc := true, keyGate := true, drive := d }
  /-- A transmission ends normally (R61). -/
  | drains (v : Wiring) (h : v.seq = .exciting) (hx : v.tx.isSome = true) : Move v { v.offAir with seq := .drain }
  /-- A cut takes a transmission off the air (R69). -/
  | cuts (v : Wiring) (h : v.seq = .exciting) (hx : v.tx.isSome = true) : Move v v.offAir.disarmed
  /-- Without a transmission there is nothing to take off the air. -/
  | cutsNothing (v : Wiring) (h : v.seq = .exciting) (hx : v.tx = none) : Move v v.disarmed
  /-- An arming is abandoned, or a tail is cut short (R62, R69). -/
  | disarms (v : Wiring) (h : v.seq = .armRelay ∨ v.seq = .armAmp ∨ v.seq = .drain) : Move v v.disarmed
  /-- The tail is over (R63). -/
  | ampOff (v : Wiring) (h : v.seq = .drain) : Move v { v with seq := .disarmAmp, ampkey := false }
  /-- The amp-off wait is over (R63). -/
  | relayOff (v : Wiring) (h : v.seq = .disarmAmp) : Move v { v with seq := .disarmRelay, trr := false, idm := false }
  /-- A retune begins (R67). -/
  | tunes (v : Wiring) (h : v.seq = .quiet) : Move v { v with seq := .retune }
  /-- SEQ enters QUIET, and what the end of a cycle asks for there has come about (R63). -/
  | quiets (v w : Wiring) (h : v.seq = .disarmRelay ∨ v.seq = .retune) (hp : v.powered → w.powered)
      (hw : w = { v with seq := .quiet, tx := w.tx, amp := w.amp, amppwr := w.amppwr }) : Move v w

/-- From `h` to `s` the wiring moved. -/
def State.Runs (h s : State) : Prop := Relation.ReflTransGen Wiring.Move h.wiring s.wiring

/-! ### What every move keeps -/

namespace Wiring

variable {v w : Wiring}

@[simp] theorem disarmed_rst (v : Wiring) : v.disarmed.rst = v.rst := by unfold disarmed; split <;> rfl
@[simp] theorem disarmed_station (v : Wiring) : v.disarmed.station = v.station := by unfold disarmed; split <;> rfl
@[simp] theorem disarmed_derived (v : Wiring) : v.disarmed.derived = v.derived := by unfold disarmed; split <;> rfl
@[simp] theorem disarmed_calm (v : Wiring) : v.disarmed.seq.calm = true := by unfold disarmed; split <;> rfl
theorem disarmed_powered (v : Wiring) : v.disarmed.powered ↔ v.powered := by unfold disarmed; split <;> exact .rfl

namespace Move

/-- RST and the station state stay, and AMPPWR goes on following the amplifier. -/
theorem keeps (m : v.Move w) :
    (w.rst = v.rst ∧ w.station = v.station ∧ w.derived = v.derived) ∧ (v.powered → w.powered) := by
  cases m with
  | amp x => exact ⟨⟨rfl, rfl, rfl⟩, fun _ => rfl⟩
  | cuts => exact ⟨by simp [offAir], fun h => v.offAir.disarmed_powered.mpr h⟩
  | cutsNothing => exact ⟨by simp, v.disarmed_powered.mpr⟩
  | disarms => exact ⟨by simp, v.disarmed_powered.mpr⟩
  | quiets _ h hp hw =>
    rw [hw]
    exact ⟨⟨rfl, rfl, rfl⟩, fun k => hw ▸ hp k⟩
  | _ => exact ⟨⟨rfl, rfl, rfl⟩, id⟩

/-- Out of READY nothing is armed or goes on the air. -/
theorem calm (m : v.Move w) (hr : v.station ≠ .ready) (hc : v.seq.calm = true) : w.seq.calm = true := by
  cases m with
  | starts i a h hq => exact absurd hq hr
  | relayOn h => rw [h] at hc; cases hc
  | onAir d hx h =>
    rcases h with h | ⟨-, h⟩
    · rw [h] at hc; cases hc
    · exact absurd h hr
  | cuts => simp
  | cutsNothing => simp
  | disarms => simp
  | quiets _ h hp hw => rw [hw]; rfl
  | amp => exact hc
  | drives => exact hc
  | _ => rfl

end Move

/-- RST and the station state stay through any number of moves, and AMPPWR goes on following the amplifier. -/
theorem moves_keep (m : Relation.ReflTransGen Move v w) :
    (w.rst = v.rst ∧ w.station = v.station ∧ w.derived = v.derived) ∧ (v.powered → w.powered) := by
  induction m with
  | refl => exact ⟨⟨rfl, rfl, rfl⟩, id⟩
  | tail _ m ih =>
    obtain ⟨⟨hrst, hstation, hderived⟩, hp⟩ := m.keeps
    obtain ⟨⟨hrst', hstation', hderived'⟩, hp'⟩ := ih
    exact ⟨⟨hrst.trans hrst', hstation.trans hstation', hderived.trans hderived'⟩, hp ∘ hp'⟩

/-- Out of READY nothing is armed or goes on the air in any number of moves. -/
theorem moves_calm (m : Relation.ReflTransGen Move v w) (hr : v.station ≠ .ready) (hc : v.seq.calm = true) :
    w.seq.calm = true := by
  induction m with
  | refl => exact hc
  | tail e m ih => exact m.calm (by rw [(moves_keep e).1.2.1]; exact hr) ih

end Wiring

/-! ### What each operation does to the wiring -/

theorem State.wiring_tx_isSome (s : State) : s.wiring.tx.isSome = s.seq.tx.isSome := by simp [State.wiring]

theorem State.wiring_modTurn (f : Turn → Turn) (s : State) : (s.modTurn f).wiring = s.wiring := by
  unfold State.modTurn; split <;> rfl

theorem State.wiring_ready {s : State} (h : s.ready = true) : s.wiring.station = .ready := of_decide_eq_true h

theorem State.wiring_takeStart {s : State} {t : Turn} (ht : s.turn = some t) : ∃ a, s.takeStart.wiring =
    { s.wiring with seq := .armRelay, tx := some (false, a), trr := true, idm := false } := by
  simp only [State.takeStart, ht]
  generalize hx : Tx.mk _ _ _ _ _ _ _ _ _ = x
  generalize hu : State.modTurn _ _ = u
  have hw : u.wiring = { s with seq := { s.seq with tx := some x } }.wiring := by rw [← hu, State.wiring_modTurn]
  have hq : u.seq = { s.seq with tx := some x } := by rw [← hu, State.modTurn_seq]
  have hi : u.identTx = false := by rw [← hx] at hq; simp [State.identTx, hq]
  refine ⟨decide (x.path = .amplified), ?_⟩
  have key : u.enterArmRelay.wiring = { u.wiring with seq := .armRelay, trr := true, idm := u.identTx } := rfl
  rw [key, hi, hw, ← hx]
  rfl

theorem State.wiring_disarm (s : State) : s.disarm.wiring = s.wiring.disarmed := by
  by_cases hk : s.seq.ampkey = true
  · have hk' : s.wiring.ampkey = true := hk
    rw [State.disarm, if_pos hk, Wiring.disarmed, if_pos hk']
    rfl
  · have hk' : ¬s.wiring.ampkey = true := hk
    rw [State.disarm, if_neg hk, Wiring.disarmed, if_neg hk']
    rfl

/-- A change of the transmission context that leaves its kind and its path. -/
theorem State.wiring_of_tx {s t : State} {f : Tx → Tx} (hk : ∀ x, (f x).kind = x.kind ∧ (f x).path = x.path)
    (ht : t.wiring = { s with seq := { s.seq with tx := s.seq.tx.map f } }.wiring) : t.wiring = s.wiring := by
  rw [ht]
  cases hx : s.seq.tx with
  | none => simp [State.wiring, hx, State.derived]
  | some x => simp [State.wiring, hx, State.derived, hk x]

/-- Clearing a fault's condition leaves the faults listed. -/
theorem State.wiring_conditionGone (k : FaultKind) (s : State) : (s.conditionGone k).wiring = s.wiring := by
  have hany : ((clearPresent k s.prt.faults).any fun r => tripKind r.kind) = s.prt.faults.any fun r => tripKind r.kind := by
    unfold clearPresent
    rw [List.any_map]
    congr 1
    funext r
    simp only [Function.comp]
    split <;> rfl
  have hd : (s.conditionGone k).derived = s.derived := by
    simp only [State.derived, State.conditionGone, hany]
    rfl
  unfold State.wiring
  rw [hd]
  rfl

theorem State.wiring_computeDrive (s : State) :
    ∃ d, (d = true ∨ d = s.drv.applied.active) ∧ s.computeDrive.wiring = { s.wiring with drive := d } := by
  unfold State.computeDrive
  split
  · exact ⟨_, .inr rfl, rfl⟩
  · split
    · exact ⟨_, .inr rfl, rfl⟩
    · exact ⟨true, .inl rfl, rfl⟩

@[simp] theorem State.wiring_syncKey (s : State) : s.syncKey.wiring = s.wiring := rfl

@[simp] theorem State.wiring_raise (r : Report) (s : State) : (s.raise r).wiring = s.wiring := rfl

theorem State.wiring_beginSending (s : State) : s.beginSending.wiring = s.wiring := by
  unfold State.beginSending
  split
  · unfold State.startElement; split <;> rfl
  · rfl

/-- A transmission goes on the air: SEQ's lines, and DRIVE as it is computed. -/
theorem State.wiring_enterExciting {s : State} (hx : s.seq.tx.isSome = true) : ∃ d, s.enterExciting.wiring =
    { s.wiring with seq := .exciting, exc := true, keyGate := true, drive := d } := by
  obtain ⟨x, hx⟩ := Option.isSome_iff_exists.mp hx
  simp only [State.enterExciting, hx]
  generalize hu : ({ s with seq := _, msr := _ } : State) = u
  obtain ⟨d, -, hd⟩ := u.wiring_computeDrive
  refine ⟨d, ?_⟩
  have hw : u.computeDrive.wiring = { s.wiring with seq := .exciting, exc := true, keyGate := true, drive := d } := by
    rw [hd, ← hu]
    simp [State.wiring, hx, State.derived]
  generalize u.computeDrive = c at hw
  cases hk : decide (x.kind ≠ .ident) with
  | true => exact hw
  | false => exact (State.wiring_beginSending _).trans hw

theorem State.wiring_leaveExciting {s : State} (hx : s.seq.tx.isSome = true) (c : TxEndCause) (q : SeqState) :
    (s.leaveExciting c q).wiring = { s.wiring.offAir with seq := q } := by
  obtain ⟨x, hx⟩ := Option.isSome_iff_exists.mp hx
  simp only [State.leaveExciting, hx, State.wiring_syncKey, State.wiring_conditionGone, State.wiring_raise]
  simp [State.wiring, Wiring.offAir, hx, State.derived]

theorem State.leaveExciting_of_none {s : State} (hx : s.seq.tx = none) (c : TxEndCause) (q : SeqState) :
    s.leaveExciting c q = s := by simp [State.leaveExciting, hx]

theorem State.amplifiedTx_eq (s : State) : s.amplifiedTx = s.wiring.amplified := by
  cases hx : s.seq.tx <;> simp [State.amplifiedTx, Wiring.amplified, State.wiring, hx]

/-- A cut before SEQ's state decides: the pending start and the PTT demand are gone, and a CW turn's timeline may be. -/
def State.beforeCut (c : CutCause) (s : State) : State :=
  State.cutFlush c { s.clearPending with seq := { s.clearPending.seq with pttDemand := false } }

theorem State.cut_eq (c : CutCause) (s : State) : s.cut c =
    match (s.beforeCut c).seq.state with
    | .quiet | .retune | .disarmAmp | .disarmRelay => s.beforeCut c
    | .armRelay | .armAmp => ((s.beforeCut c).abandonArming (cutEnd c)).tellExit (cutEnd c) false
    | .exciting => (((s.beforeCut c).leaveExciting (cutEnd c) .disarmRelay).disarm).tellExit (cutEnd c) true
    | .drain => (s.beforeCut c).disarm := rfl

theorem State.wiring_beforeCut (c : CutCause) (s : State) : (s.beforeCut c).wiring = s.wiring := by
  have hw : { s.clearPending with seq := { s.clearPending.seq with pttDemand := false } : State }.wiring = s.wiring :=
    State.wiring_modTurn (fun t => { t with pendingStart := false }) s
  unfold State.beforeCut State.cutFlush
  split
  · split <;> exact hw
  · exact hw

namespace State.Runs

variable {h s t : State}

theorem refl (s : State) : s.Runs s := Relation.ReflTransGen.refl

theorem trans (a : h.Runs s) (b : s.Runs t) : h.Runs t := Relation.ReflTransGen.trans a b

/-- A change outside the wiring. -/
theorem same (e : h.Runs s) (hw : t.wiring = s.wiring := by rfl) : h.Runs t := by
  unfold State.Runs at e ⊢
  rwa [hw]

/-- One move. -/
theorem move {w : Wiring} (e : h.Runs s) (m : s.wiring.Move w) (hw : t.wiring = w := by rfl) : h.Runs t := by
  unfold State.Runs at e ⊢
  rw [hw]
  exact e.tail m

theorem ite {c : Prop} [Decidable c] {a b : State} (ha : c → h.Runs a) (hb : ¬c → h.Runs b) :
    h.Runs (if c then a else b) := by
  split
  · exact ha ‹_›
  · exact hb ‹_›

theorem modTurn (e : h.Runs s) (f : Turn → Turn) : h.Runs (s.modTurn f) := e.same (State.wiring_modTurn f s)

theorem raise (e : h.Runs s) (r : Report) : h.Runs (s.raise r) := e.same

theorem writeRecord (e : h.Runs s) (r : TurnRec) : h.Runs (s.writeRecord r) := .ite (fun _ => e) fun _ => e.same

/-! #### Amplifier, drive and key -/

theorem ampTo (e : h.Runs s) (a : AmpState) (c : AmpCause) : h.Runs (s.ampTo a c) := e.move (.amp _ a)

theorem warmAmp (e : h.Runs s) (c : AmpCause) : h.Runs (s.warmAmp c) :=
  .ite (fun _ => (e.ampTo _ _).ampTo _ _) fun _ => e.ampTo _ _

theorem startAmpIdle (e : h.Runs s) : h.Runs s.startAmpIdle := .ite (fun _ => e.same) fun _ => e

theorem ampAtGrant (e : h.Runs s) (u : Nat) : h.Runs (s.ampAtGrant u) := by
  refine .ite (fun _ => ?_) fun _ => e
  split
  · exact e.warmAmp _
  · exact .ite (fun _ => e.startAmpIdle) fun _ => e
  · exact e
  · exact e

theorem recompute (e : h.Runs s) : h.Runs s.recompute := by
  refine .ite (fun hs => ?_) fun _ => e
  obtain ⟨d, rfl | rfl, hd⟩ := s.wiring_computeDrive
  · exact e.move (.drives _ hs) hd
  · exact e.same hd

theorem recomputeMember (e : h.Runs s) : h.Runs s.recomputeMember := .ite (fun _ => e.recompute) fun _ => e

theorem flushTurnKeys (e : h.Runs s) : h.Runs s.flushTurnKeys := e.same

theorem keyUpAtRest (e : h.Runs s) : h.Runs s.keyUpAtRest := by
  unfold State.keyUpAtRest
  dsimp only
  generalize hq : ({ s with ktl := _ } : State) = q
  have e : h.Runs q := by rw [← hq]; exact e.same
  exact .same (e.modTurn _)

theorem raiseGated (e : h.Runs s) : h.Runs s.raiseGated := by
  unfold State.raiseGated
  split
  · exact e.raise _
  · exact e

theorem playEvent (e : h.Runs s) (k : KeyEntry) : h.Runs (s.playEvent k) := by
  unfold State.playEvent
  split
  · exact e.same
  · exact .ite (fun _ => .keyUpAtRest e.raiseGated.same) fun _ => e.raiseGated.same

theorem playDue (n : Nat) : ∀ {s : State}, h.Runs s → h.Runs (s.playDue n) := by
  induction n with
  | zero => exact id
  | succ n ih =>
    intro s e
    unfold State.playDue
    split
    · exact e
    · exact .ite (fun _ => ih (State.Runs.playEvent e.same _)) fun _ => e

theorem playAllDue (e : h.Runs s) : h.Runs s.playAllDue := e.playDue _

/-! #### Starts of transmissions -/

theorem takeStart (e : h.Runs s) (hq : s.seq.state = .quiet) (hr : s.ready = true) : h.Runs s.takeStart := by
  cases ht : s.turn with
  | none => simpa [State.takeStart, ht] using e
  | some t =>
    obtain ⟨a, ha⟩ := State.wiring_takeStart ht
    exact e.move (.starts _ false a hq (State.wiring_ready hr)) ha

theorem takeIdStart (e : h.Runs s) (hq : s.seq.state = .quiet) (hr : s.ready = true) : h.Runs s.takeIdStart := by
  unfold State.takeIdStart
  split
  · rename_i b c _ _
    exact e.move (.starts _ true (decide (s.choosePath (s.idUncapped b s.idu.params.power) = .amplified)) hq
      (State.wiring_ready hr))
  · exact e

theorem takePending (e : h.Runs s) : h.Runs s.takePending := by
  unfold State.takePending
  split
  · exact .ite (fun c => e.takeStart c.2.2.1 c.2.2.2) fun _ => e
  · exact e

theorem setPending (e : h.Runs s) : h.Runs s.setPending := e.modTurn _

theorem clearPending (e : h.Runs s) : h.Runs s.clearPending := e.modTurn _

theorem enterExciting (e : h.Runs s)
    (hq : s.seq.state = .armAmp ∨ (s.seq.state = .drain ∧ s.ready = true)) : h.Runs s.enterExciting := by
  cases hx : s.seq.tx with
  | none => simpa [State.enterExciting, hx] using e
  | some x =>
    have hx : s.seq.tx.isSome = true := by rw [hx]; rfl
    obtain ⟨d, hd⟩ := State.wiring_enterExciting hx
    exact e.move (.onAir _ d (s.wiring_tx_isSome.trans hx) (hq.imp_right fun ⟨hs, hr⟩ => ⟨hs, State.wiring_ready hr⟩)) hd

/-! #### Ends of transmissions -/

theorem normalEnd (e : h.Runs s) (c : TxEndCause) : h.Runs (s.normalEnd c) := by
  refine .ite (fun hs => ?_) fun _ => e
  cases hx : s.seq.tx with
  | none => rw [State.leaveExciting_of_none hx]; exact e.same
  | some x =>
    have hx : s.seq.tx.isSome = true := by rw [hx]; rfl
    exact e.move (.drains _ hs (s.wiring_tx_isSome.trans hx)) (State.wiring_leaveExciting hx c .drain)

/-- An arming is abandoned; also one in ARM_AMP that has only just been entered from `s` (R59). -/
theorem abandonArming (e : h.Runs s) (c : TxEndCause) (hs : s.seq.state = .armRelay ∨ s.seq.state = .armAmp)
    {u : State} (hu : u.wiring = { s.wiring with seq := u.seq.state } := by rfl) : h.Runs (u.abandonArming c) := by
  have hw : ((u.modTx fun x => { x with endCause := some c }).clearPttFor c).wiring = u.wiring :=
    State.wiring_of_tx (f := fun x => { x with endCause := some c }) (fun _ => ⟨rfl, rfl⟩) rfl
  refine e.move (.disarms _ (hs.imp_right .inl)) ?_
  rw [State.abandonArming, State.wiring_disarm, hw, hu]
  unfold Wiring.disarmed
  split <;> rfl

theorem enterRetune (e : h.Runs s) (b : BandId) (hs : s.seq.state = .quiet) : h.Runs (s.enterRetune b) :=
  e.move (.tunes _ hs)

theorem askRetune (e : h.Runs s) (b : BandId) : h.Runs (s.askRetune b) := .ite (e.enterRetune b) fun _ => e.same

/-! #### Claims, grants and the turn end -/

theorem beginCycle (e : h.Runs s) (c : CycleHome) : h.Runs (s.beginCycle c) := by
  have e : h.Runs (s.starting c) := e.same
  exact .ite (fun hq => e.takeIdStart hq.1 hq.2) fun _ => e

theorem claimPause (e : h.Runs s) : h.Runs s.claimPause := by
  have e := (e.modTurn fun t => { t with sub := .paused, idleStart := none }).flushTurnKeys
  exact .ite (fun _ => .beginCycle e.same _) fun _ => e.same

theorem claimTurn (e : h.Runs s) : h.Runs s.claimTurn := by
  unfold State.claimTurn
  split
  · exact e
  · split
    · exact .ite (fun _ => e.same) fun _ => e.claimPause
    · exact e.same
    · exact e

theorem enterActive (e : h.Runs s) : h.Runs s.enterActive := by
  have e := (e.modTurn fun t => { t with sub := .active }).same (t := State.syncKey _)
  exact .ite (fun _ => e.claimPause) fun _ => e.takePending

theorem grantRequest (e : h.Runs s) (w : SlotId) (r : RequestRec) : h.Runs (s.grantRequest w r) := by
  have e : h.Runs (s.grantSteps w r) := .raise (.ampAtGrant e.same _) _
  have e' := e.flushTurnKeys.askRetune r.band
  exact .ite (fun _ => .ite (fun _ => e.claimTurn) fun _ => e.enterActive) fun _ => .ite (fun _ => e'.claimTurn) fun _ => e'

theorem arbitrate (e : h.Runs s) : h.Runs s.arbitrate := by
  unfold State.arbitrate
  split
  · unfold State.grant
    split
    · exact e.grantRequest _ _
    · exact e
  · exact e.same

theorem arbitrateIfFree (e : h.Runs s) : h.Runs s.arbitrateIfFree := .ite (fun _ => e.arbitrate) fun _ => e

theorem endTurnTx (e : h.Runs s) : h.Runs s.endTurnTx :=
  .ite (fun _ => .ite (fun _ => e.normalEnd _) fun _ =>
    .ite (fun ha => e.abandonArming _ (by simpa [State.arming] using ha)) fun _ => e) fun _ => e

theorem leaveHolding (e : h.Runs s) (t : Turn) (again : Bool) : h.Runs (s.leaveHolding t again) :=
  .ite (fun _ => e.same) fun _ => e.same

theorem turnEnd (e : h.Runs s) (c : TurnEndCause) : h.Runs (s.turnEnd c) := by
  unfold State.turnEnd
  split
  · exact e
  · have e : h.Runs s.endTurnTx.forgetTurn :=
      e.endTurnTx.same (State.wiring_of_tx (f := fun x => { x with current := false }) (fun _ => ⟨rfl, rfl⟩) rfl)
    have e : h.Runs s.endTurnTx.forgetTurn.flushKeys := e.same
    exact .leaveHolding (.ite (fun _ => .beginCycle (.same (e.writeRecord _)) _) fun _ => .same (e.writeRecord _)) _ _

/-! #### Ends of identifications, the cut -/

theorem idTurnOver (e : h.Runs s) : h.Runs s.idTurnOver :=
  .ite (fun _ => e) fun _ => .ite (fun _ => .ite (fun _ => e.arbitrate) fun _ =>
    .ite (fun _ => .arbitrate e.same) fun _ => e.same) fun _ => .ite (fun _ => e.same) fun _ => e.same

theorem abandonCycle (e : h.Runs s) : h.Runs s.abandonCycle := by
  unfold State.abandonCycle
  split
  · exact .same (e.writeRecord _)
  · exact e

theorem dropAbandons (e : h.Runs s) : h.Runs s.dropAbandons := by
  refine .ite (fun _ => ?_) fun _ => e
  split
  · exact e.abandonCycle.beginCycle _
  · exact e

theorem tellExit (e : h.Runs s) (c : TxEndCause) (left : Bool) : h.Runs (s.tellExit c left) :=
  .ite (fun _ => .ite (fun _ => e.turnEnd _) fun _ => .ite (fun _ => e.claimPause) fun _ => e) fun _ =>
    .ite (fun _ => e.dropAbandons) fun _ => e

theorem endMemberTx (e : h.Runs s) (c : TxEndCause) : h.Runs (s.endMemberTx c) :=
  .ite (fun _ => .ite (fun _ => (e.normalEnd c).tellExit _ _) fun _ =>
    .ite (fun ha => (e.abandonArming c (by simpa [State.arming] using ha)).tellExit _ _) fun _ => e) fun _ => e

theorem cut (e : h.Runs s) (c : CutCause) : h.Runs (s.cut c) := by
  have e : h.Runs (s.beforeCut c) := e.same (s.wiring_beforeCut c)
  rw [State.cut_eq]
  generalize s.beforeCut c = u at e
  split
  · exact e
  · exact e
  · exact e
  · exact e
  · exact (e.abandonArming _ (.inl ‹_›)).tellExit _ _
  · exact (e.abandonArming _ (.inr ‹_›)).tellExit _ _
  · rename_i hs
    refine tellExit ?_ _ _
    cases hx : u.seq.tx with
    | none =>
      rw [State.leaveExciting_of_none hx]
      exact e.move (.cutsNothing _ hs (by simp [State.wiring, hx])) u.wiring_disarm
    | some x =>
      have hx : u.seq.tx.isSome = true := by rw [hx]; rfl
      refine e.move (.cuts _ hs (u.wiring_tx_isSome.trans hx)) ?_
      rw [State.wiring_disarm, State.wiring_leaveExciting hx]
      unfold Wiring.disarmed
      split <;> rfl
  · exact e.move (.disarms _ (.inr (.inr ‹_›))) u.wiring_disarm

/-! #### The waits' ends and what settles at once -/

theorem enterArmAmp (e : h.Runs s) (hs : s.seq.state = .armRelay) : h.Runs s.enterArmAmp := by
  have hon (b : Bool) (hb : b = (s.seq.ampkey || s.amplifiedTx)) {t : State}
      (ht : t.wiring = { s.wiring with seq := .armAmp, ampkey := b }) : h.Runs t :=
    e.move (.relayOn _ hs) (by rw [ht, hb, s.amplifiedTx_eq]; rfl)
  refine .ite (fun hx => .ite (fun _ => hon true ?_ rfl) fun _ => ?_) fun hx => hon s.seq.ampkey ?_ rfl
  · change s.amplifiedTx = true at hx
    rw [hx, Bool.or_true]
  · rw [State.cut_eq]
    have hu := State.wiring_beforeCut .ampDrop { s with seq := { s.seq with state := .armAmp } }
    have hq : (State.beforeCut .ampDrop { s with seq := { s.seq with state := .armAmp } }).seq.state = .armAmp :=
      congrArg Wiring.seq hu
    generalize State.beforeCut _ _ = u at hu hq
    simp only [hq]
    exact (e.abandonArming _ (.inl hs) (by rw [hu, hq]; rfl)).tellExit _ _
  · change ¬s.amplifiedTx = true at hx
    rw [Bool.not_eq_true] at hx
    rw [hx, Bool.or_false]

theorem closeCycle (e : h.Runs s) (n : Nat) : h.Runs (s.closeCycle n) := by
  unfold State.closeCycle
  split
  · rename_i c _ _
    have e := e.writeRecord (s.idRecord c n .complete)
    dsimp only
    split
    · exact .enterActive e.same
    · exact .idTurnOver e.same
    · exact e.same
  · exact e

/-- Entering QUIET: what the end of a cycle asks for leaves SEQ and DRV as they stand, and its amplifier powered as it should
be. -/
theorem enterQuiet (e : h.Runs s) (hs : s.seq.state = .disarmRelay ∨ s.seq.state = .retune) : h.Runs s.enterQuiet := by
  have hb : s.overAndOut.seq.state ≠ .quiet := by rcases hs with hs | hs <;> simp [State.overAndOut, hs]
  obtain ⟨-, hseq, hdrv, -⟩ := (State.SeqStays.refl hb).closeCycle s.txAirTime
  obtain ⟨⟨hrst, hstation, hderived⟩, hpower⟩ := Wiring.moves_keep ((refl s.overAndOut).closeCycle s.txAirTime)
  rw [State.enterQuiet_eq]
  generalize State.closeCycle _ _ = u at hseq hdrv hrst hstation hderived hpower
  have e : h.Runs u.swapProfile.quieted := by
    refine e.move (.quiets _ u.swapProfile.quieted.wiring hs ?_ ?_)
    · intro hp
      have hu : u.swapProfile.quieted.amg.state = u.amg.state ∧ u.swapProfile.quieted.amg.amppwr = u.amg.amppwr := by
        unfold State.quieted State.startAmpIdle State.swapProfile
        split <;> split <;> exact ⟨rfl, rfl⟩
      have := hpower hp
      unfold Wiring.powered State.wiring at this ⊢
      dsimp only at this ⊢
      rw [hu.1, hu.2]
      exact this
    · have hw : u.swapProfile.quieted.wiring = { u.wiring with seq := .quiet } := by
        unfold State.quieted State.startAmpIdle State.swapProfile
        split <;> split <;> rfl
      rw [hw]
      have hseq' (f : Seq → Bool) := congrArg f hseq
      have htrr := hseq' (·.trr)
      have hampkey := hseq' (·.ampkey)
      have hexc := hseq' (·.exc)
      have hidm := hseq' (·.idm)
      have hgate := hseq' (·.keyGate)
      dsimp only [State.overAndOut] at htrr hampkey hexc hidm hgate
      dsimp only [State.wiring] at hrst hstation hderived ⊢
      simp only [htrr, hampkey, hexc, hidm, hgate, hdrv, hrst, hstation, hderived]
      rfl
  have hquiet : u.swapProfile.quieted.seq.state = .quiet := u.swapProfile.quieted_state
  unfold State.takeUp
  split
  · exact e.enterRetune _ hquiet
  · exact .ite (fun hi => e.takeIdStart hquiet hi.2) fun _ => e.takePending

theorem settleBand (e : h.Runs s) (hs : s.seq.state = .retune) : h.Runs s.settleBand := by
  unfold State.settleBand
  dsimp only
  have e : h.Runs (State.enterQuiet { s with seq := { s.seq with retuneBand := none, retuneCurrent := false } }) :=
    .enterQuiet e.same (.inr hs)
  generalize State.enterQuiet _ = u at e
  cases s.seq.retuneBand with
  | none => exact .ite (fun _ => e.enterActive) fun _ => e
  | some b => exact .ite (fun _ => (e.raise _).enterActive) fun _ => e.raise _

theorem advance (e : h.Runs s) : h.Runs s.advance := by
  unfold State.advance
  split
  · exact e.settleBand ‹_›
  · exact e.enterArmAmp ‹_›
  · exact e.enterExciting (.inl ‹_›)
  · exact e.move (.ampOff _ ‹_›)
  · exact e.move (.relayOff _ ‹_›)
  · exact .enterQuiet (e.modTurn _) (.inl (by rwa [State.restartIdle, State.modTurn_seq]))
  · exact e
  · exact e

theorem enterIdTurn (e : h.Runs s) : h.Runs s.enterIdTurn := .beginCycle e.same _

theorem gapExpires (e : h.Runs s) : h.Runs s.gapExpires := .ite (fun _ => .arbitrate e.same) fun _ => e.same

theorem settle (e : h.Runs s) : h.Runs s.settle := by
  refine State.settle_induct (P := h.Runs) (fun s t ht e => ?_) (fun _ e => e.modTurn _) (fun _ e => e.same) e
  rcases State.settleStep_cases ht with ⟨-, -, rfl⟩ | ⟨-, rfl⟩ | ⟨-, rfl⟩
  · exact e.enterIdTurn
  · exact e.gapExpires
  · exact .advance e.same

/-! #### Member starts -/

theorem memberStart (e : h.Runs s) : h.Runs s.memberStart.1 := by
  unfold State.memberStart
  split
  · exact e
  · split
    · split
      · exact e.takeStart ‹_› (And.right ‹_›)
      · exact e.setPending
    · split <;> [exact e; exact e.setPending]
    · split <;> [exact e; exact e.setPending]
    · split <;> [exact e; exact e.setPending]
    · rename_i hs
      split
      · rename_i hc
        have hr : s.ready = true := by
          simp only [State.canReturn, Bool.and_eq_true] at hc
          exact hc.2.1.2
        refine .enterExciting (e.modTurn _) (.inr ⟨by rwa [State.modTurn_seq], ?_⟩)
        have hp := congrArg Wiring.station (State.wiring_modTurn (fun t => { t with txCount := countUp max16 t.txCount }) s)
        exact decide_eq_true (hp.trans (State.wiring_ready hr))
      · exact e.setPending
    · exact e.setPending
    · exact e.setPending
    · exact e.setPending

theorem demandInactive (e : h.Runs s) (c : TxEndCause) : h.Runs (s.demandInactive c) := (e.endMemberTx c).clearPending

/-! #### What the entries of the station states do (R143 to R146) -/

theorem dropRequest (e : h.Runs s) (c : DropCause) (w : SlotId) : h.Runs (s.dropRequest c w) := by
  unfold State.dropRequest
  split <;> exact e.same

theorem killFlush (e : h.Runs s) : h.Runs s.killFlush := List.foldlRecOn _ _ e fun _ e w _ => e.dropRequest _ w

theorem stationAbandons (e : h.Runs s) : h.Runs s.stationAbandons :=
  .ite (fun _ => .ite (fun _ => e.abandonCycle.idTurnOver) fun _ => e.abandonCycle) fun _ => e

theorem resumeClaim (e : h.Runs s) : h.Runs s.resumeClaim := by
  unfold State.resumeClaim
  split
  · exact .ite (fun _ => e.beginCycle _) fun _ => e
  · exact e

/-! #### Air time (R165) -/

theorem exhaustionEffects (e : h.Runs s) (w : SlotId) : h.Runs (s.exhaustionEffects w) :=
  .raise (.ite (fun _ => .turnEnd (.ite (fun _ => e.endMemberTx _) fun _ => e) _) fun _ => e) _

theorem addAir (e : h.Runs s) (k : Nat) : h.Runs (s.addAir k) :=
  e.same (State.wiring_of_tx (f := fun x => { x with airTime := x.airTime + k }) (fun _ => ⟨rfl, rfl⟩) rfl)

theorem onTime (e : h.Runs s) : h.Runs s.onTime := by
  refine .ite (fun _ => e) fun _ => settle ?_
  unfold State.airTenths
  split
  · rename_i t _
    refine .ite (fun _ => ?_) fun _ => e.addAir _
    have e (n : Nat) : h.Runs (s.chargeTenths t.holder n) :=
      .same ((e.addAir n).modTurn fun t => { t with airTime := t.airTime + n })
    rw [State.memberTenths_eq]
    exact .ite (fun _ => (e _).exhaustionEffects _) fun _ => e _
  · exact e.addAir _

theorem bringTo (e : h.Runs s) (c : Clock) : h.Runs (s.bringTo c) := .ite (fun _ => e) fun _ => e.same

/-! #### Wired inputs that ask for the transmitter (R45, R46, R55, R91) -/

theorem wiredActive (e : h.Runs s) (o : Origin) : h.Runs (s.wiredActive o) := by
  unfold State.wiredActive
  split
  · exact .ite (fun _ => e.raise _) fun _ => .ite (fun _ => e.raise _) fun _ =>
      .ite (fun _ => .arbitrate e.same) fun _ => e.same
  · exact e

theorem wiredInactive (e : h.Runs s) (o : Origin) : h.Runs (s.wiredInactive o) := by
  unfold State.wiredInactive
  split
  · exact .ite (fun _ => e.same) fun _ => e
  · exact e

theorem pttPressed (e : h.Runs s) : h.Runs s.pttPressed :=
  .ite (fun _ => .ite (fun _ => e.memberStart) fun _ => e) fun _ => e.wiredActive _

theorem pttReleased (e : h.Runs s) : h.Runs s.pttReleased :=
  .ite (fun _ => .ite (fun _ => e) fun _ => e.demandInactive _) fun _ => e.wiredInactive _

theorem keyPressed (e : h.Runs s) : h.Runs s.keyPressed :=
  .ite (fun _ => .ite (fun _ => .memberStart e.same) fun _ => e.same) fun _ => e

theorem keyReleased (e : h.Runs s) : h.Runs s.keyReleased :=
  .ite (fun _ => e.same) fun _ => .ite (fun _ => .ite (fun _ => e.keyUpAtRest) fun _ => e.same) fun _ => e

end State.Runs
end Sys2Proof.Machine
end

section
/-! What drives the lines and the station state through every step (O15, O16). -/

namespace Sys2Proof.Machine

set_option Elab.async false

/-! ### The occurrences and the requests that leave the station state -/

namespace State.Runs

variable {h s t : State}

theorem presenceLost (e : h.Runs s) (w : SlotId) : h.Runs (s.presenceLost w) :=
  .ite (fun _ => .turnEnd e.same _) fun _ => .dropRequest e.same _ _

theorem stepEnds (e : h.Runs s) : h.Runs s.stepEnds := .advance e.same

theorem playOldest (e : h.Runs s) : h.Runs s.playOldest := by
  unfold State.playOldest
  split
  · exact e
  · exact .playEvent e.same _

theorem fallsDue (e : h.Runs s) : h.Runs s.fallsDue := by
  refine .ite (fun _ => ?_) fun _ => e.same
  dsimp only
  generalize hu : State.claimTurn _ = u
  have e : h.Runs u := by
    rw [← hu]
    exact .claimTurn (.raise (.same e) _)
  exact .ite (fun _ => e.endMemberTx _) fun _ => e

theorem deadline (e : h.Runs s) : h.Runs s.deadline := .ite (fun _ => .endMemberTx e.same _) fun _ => e.same

theorem quietEnds (e : h.Runs s) : h.Runs s.quietEnds := .ite (fun _ => .enterIdTurn e.same) fun _ => e.same

theorem startElement (e : h.Runs s) : h.Runs s.startElement := by
  unfold State.startElement
  split <;> exact e.same

theorem completeId (e : h.Runs s) : h.Runs s.completeId := by
  unfold State.completeId
  split
  · exact .raise e.same _
  · exact e

theorem elementEnds (e : h.Runs s) : h.Runs s.elementEnds := by
  unfold State.elementEnds
  split
  · exact .ite (fun _ => (State.Runs.normalEnd e.same _).completeId) fun _ => .startElement e.same
  · exact e

/-! #### Requests of STATION -/

theorem setStation (e : h.Runs s) (a : StationArgs) : h.Runs (s.setStation a).state := by
  unfold State.setStation
  split
  · exact e
  · split
    · exact e
    · split
      · exact e
      · exact .ite (fun _ => .recompute e.same) fun _ => e.same

theorem recheckSlot (e : h.Runs s) (w : SlotId) : h.Runs (s.recheckSlot w) := by
  unfold State.recheckSlot
  split
  · exact .ite (fun _ => e) fun _ => e.dropRequest _ w
  · exact e

theorem recheck (e : h.Runs s) (p : SlotId → Bool) : h.Runs (s.recheck p) := by
  have e : h.Runs (((numbers 32).filter p).foldl (fun s w => s.recheckSlot w) s) :=
    List.foldlRecOn _ _ e fun _ e w _ => e.recheckSlot w
  unfold State.recheck State.recheckHolder
  split
  · exact .ite (fun _ => e.turnEnd _) fun _ => e
  · exact e

theorem unmark (e : h.Runs s) (w : SlotId) : h.Runs (s.unmark w) := by
  unfold State.unmark
  split
  · exact .ite (fun _ => e) fun _ => e.same
  · exact e

theorem compareLimits (e : h.Runs s) (old new : ClassRec) : h.Runs (s.compareLimits old new) := by
  unfold State.compareLimits
  split
  · exact e
  · exact .ite (fun _ => e.turnEnd _) fun _ => .ite (fun _ => e.turnEnd _) fun _ => .ite (fun _ => e.endMemberTx _) fun _ => e

theorem classEffects (e : h.Runs s) (p : SlotId → Bool) (old new : ClassRec) : h.Runs (s.classEffects p old new) := by
  have e : h.Runs ((s.recheck p).unmarkAll p) := List.foldlRecOn _ _ (e.recheck p) fun _ e w _ => e.unmark w
  unfold State.classEffects
  dsimp only
  split
  · exact .ite (fun _ => .compareLimits (.ite (fun _ => e) fun _ => e.recomputeMember) _ _) fun _ => e
  · exact e

theorem setClass (e : h.Runs s) (a : ClassArgs) : h.Runs (s.setClass a).state := by
  unfold State.setClass
  split
  · exact .settle (.classEffects e.same _ _ _)
  · exact e

/-- A configuration is stored unless a commission check fails. -/
theorem unlessInvalid {p : Handled} (e : h.Runs s) (f : Option (ConfigReason × Option BandId)) (hp : h.Runs p.state) :
    h.Runs (match f with
      | some x => configInvalid x s
      | none => p).state := by
  cases f with
  | some x => exact e
  | none => exact hp

theorem setBand (e : h.Runs s) (a : BandArgs) : h.Runs (s.setBand a).state := by
  unfold State.setBand
  split
  · exact e
  · rename_i b r _
    split
    · exact e
    · refine e.unlessInvalid _ (.settle (.ite (fun _ => .same ?_) fun _ => ?_))
      · exact .ite (fun _ => .recheck e.same _) fun _ => e.same
      · exact .ite (fun _ => .recheck e.same _) fun _ => e.same

theorem setCalibration (e : h.Runs s) (a : CalArgs) : h.Runs (s.setCalibration a).state := by
  unfold State.setCalibration
  split
  · split
    · exact e
    · split
      · exact e
      · split
        · exact e
        · rename_i b p _ _ _ _ _ _
          refine e.unlessInvalid _ (e.same ?_)
          cases p <;> rfl
  · exact e

theorem setLimits (e : h.Runs s) (a : LimitsArgs) : h.Runs (s.setLimits a).state :=
  .ite (fun _ => .recompute e.same) fun _ => e.same

theorem clearCounters (e : h.Runs s) (l : List Nat) : h.Runs (s.clearCounters l).state := by
  unfold State.clearCounters
  split
  · exact e
  · exact e.same

theorem openSlot (e : h.Runs s) (a : OpenArgs) : h.Runs (s.openSlot a).state := by
  unfold State.openSlot
  split
  · exact e
  · split
    · exact e
    · exact e.same

theorem closeSlot (e : h.Runs s) (n : Nat) : h.Runs (s.closeSlot n).state := by
  unfold State.closeSlot
  split
  · exact e
  · split
    · exact e
    · exact .settle (.same (.ite (fun _ => e.turnEnd _) fun _ => e))

theorem reclass (e : h.Runs s) (n c : Nat) : h.Runs (s.reclass n c).state := by
  unfold State.reclass
  split
  · split
    · exact e
    · exact .settle (.classEffects e.same _ _ _)
  · exact e

theorem setAllowance (e : h.Runs s) (n p a : Nat) : h.Runs (s.setAllowance n p a).state := by
  unfold State.setAllowance
  split
  · split
    · exact e
    · exact .settle (.ite (fun _ => .exhaustionEffects e.same _) fun _ => e.same)
  · exact e

theorem clearAirtime (e : h.Runs s) (n : Nat) : h.Runs (s.clearAirtime n).state := by
  unfold State.clearAirtime
  split
  · exact e.same
  · split
    · exact e.same
    · exact e

/-! #### Control operations -/

theorem startPresence (e : h.Runs s) (w : SlotId) : h.Runs (s.startPresence w) := .ite (fun _ => e) fun _ => e.same

theorem leaveOpen (e : h.Runs s) (w : SlotId) : h.Runs (s.leaveOpen w) := by
  unfold State.leaveOpen
  split
  · exact e.startPresence w
  · exact e

theorem seizeNow (e : h.Runs s) (w : SlotId) (r : RequestRec) : h.Runs (s.seizeNow w r).1 := by
  have e := (e.leaveOpen w).turnEnd .seized
  unfold State.seizeNow
  dsimp only
  split
  · exact e.same
  · exact .grantRequest e.same w r

theorem seize (e : h.Runs s) (n b m p : Nat) (a : Actor) : h.Runs (s.seize n b m p a).state := by
  unfold State.seize
  split
  · split
    · exact e
    · split
      · exact e
      · split
        · exact e
        · dsimp only
          split
          · exact e
          · exact (e.seizeNow _ _).settle
  · exact e

theorem endTurn (e : h.Runs s) (n : Nat) : h.Runs (s.endTurn n).state := by
  unfold State.endTurn
  split
  · exact e
  · split
    · exact (e.turnEnd _).settle
    · exact e

theorem holdSlot (e : h.Runs s) (n : Nat) : h.Runs (s.holdSlot n).state := by
  unfold State.holdSlot
  split
  · exact e
  · split
    · exact e
    · exact e.same

theorem unholdSlot (e : h.Runs s) (n : Nat) : h.Runs (s.unholdSlot n).state := by
  unfold State.unholdSlot
  split
  · exact e
  · split
    · exact e
    · exact .settle (.arbitrateIfFree e.same)

theorem ampOn (e : h.Runs s) : h.Runs s.ampOn.state := by
  unfold State.ampOn
  split
  · exact e.warmAmp _
  · exact e
  · exact e
  · exact e

theorem ampOff (e : h.Runs s) : h.Runs s.ampOff.state := by
  unfold State.ampOff
  split
  · exact e
  · exact e
  · split
    · exact e
    · exact e.ampTo _ _
  · split
    · exact e
    · exact e.ampTo _ _

theorem ampReset (e : h.Runs s) : h.Runs s.ampReset.state := by
  unfold State.ampReset
  split
  · exact ((e.ampTo .off .reset).same (State.wiring_conditionGone .ampNoReady _)).same (State.wiring_conditionGone .ampDrop _)
  · exact e
  · exact e
  · exact e

/-! #### Member requests -/

theorem request (e : h.Runs s) (b m p k : Nat) (w : SlotId) : h.Runs (s.request b m p k w).state := by
  unfold State.request
  split
  · exact e
  · split
    · exact e
    · exact .settle (.arbitrateIfFree (e.leaveOpen w).same)

theorem withdraw (e : h.Runs s) (w : SlotId) : h.Runs (s.withdraw w).state := by
  unfold State.withdraw
  split <;> exact e.same

theorem release (e : h.Runs s) (w : SlotId) : h.Runs (s.release w).state := by
  unfold State.release
  split
  · exact (e.turnEnd _).settle
  · exact e

theorem pttOn (e : h.Runs s) (w : SlotId) : h.Runs (s.pttOn w).state := by
  unfold State.pttOn
  split
  · exact e
  · split
    · exact e
    · split
      · exact e
      · exact .settle (.memberStart e.same)

theorem pttOff (e : h.Runs s) (w : SlotId) : h.Runs (s.pttOff w).state := by
  unfold State.pttOff
  split
  · exact e
  · split
    · exact e
    · exact .settle (.ite (fun _ => e.same) fun _ => .demandInactive e.same _)

theorem setPower (e : h.Runs s) (p : Nat) (w : SlotId) : h.Runs (s.setPower p w).state := by
  unfold State.setPower
  split
  · exact e
  · exact .recomputeMember (e.modTurn _)

theorem changeEmission (e : h.Runs s) (old new : Emission) : h.Runs (s.changeEmission old new) := by
  have e := e.modTurn fun t => { t with emission := new }
  exact .ite (fun _ => e) fun _ => .ite (fun _ => e.flushTurnKeys) fun _ => .ite (fun _ => e.same) fun _ => e

theorem changeBand (e : h.Runs s) (b : BandId) (hs : s.seq.state = .quiet) : h.Runs (s.changeBand b) :=
  .enterRetune (e.modTurn fun t => { t with band := b, sub := .tuning, idleStart := none }).flushTurnKeys b
    ((congrArg Seq.state (State.modTurn_seq (fun t => { t with band := b, sub := .tuning, idleStart := none }) s)).trans hs)

theorem retune (e : h.Runs s) (b m : Nat) (w : SlotId) : h.Runs (s.retune b m w).state := by
  unfold State.retune
  split
  · split
    · exact e
    · split
      · exact e
      · split
        · exact e
        · rename_i hq
          have hq : s.seq.state = .quiet := by
            by_contra hn
            exact hq (.inr hn)
          refine .settle (.ite (fun _ => e.changeEmission _ _) fun _ => (e.changeEmission _ _).changeBand _ ?_)
          exact ((State.Moves.refl s).changeEmission _ _).2.trans hq
  · exact e

/-! #### Key events (R75) -/

theorem loseKey (e : h.Runs s) (r : LossReason) (d : Key) (k : KeyTime) (v : Option Nat) :
    h.Runs (s.loseKey r d k v) := .ite (fun _ => e.raise _) fun _ => e

theorem startFor (e : h.Runs s) (d : Key) : h.Runs (s.startFor d) := .ite (fun _ => e.memberStart.settle) fun _ => e

theorem timeKey (e : h.Runs s) (now : KeyTime) (k : KeyEntry) : h.Runs (s.timeKey now k).1 := by
  unfold State.timeKey
  dsimp only
  split
  · split
    · exact e.loseKey _ _ _ _
    · exact .playAllDue (.startFor e.same _)
  · split
    · exact .playEvent (.startFor e.same _) _
    · exact e.loseKey _ _ _ _

theorem takeKey (e : h.Runs s) (now : KeyTime) (d : Key) (k : KeyTime) : h.Runs (s.takeKey now d k).1 := by
  unfold State.takeKey
  split
  · exact e
  · split
    · exact e.loseKey _ _ _ _
    · split
      · exact e
      · split
        · exact .timeKey e.same _ _
        · dsimp only
          split
          · exact e.loseKey _ _ _ _
          · exact e.timeKey _ _

theorem takeKeys (now : KeyTime) (l : List (Key × KeyTime)) : ∀ {s : State}, h.Runs s → h.Runs (s.takeKeys now l).1 := by
  induction l with
  | nil => exact id
  | cons p l ih => exact fun e => ih (e.takeKey now p.1 p.2)

theorem keyEvents (e : h.Runs s) (l : List (Nat × KeyTime)) (w : SlotId) : h.Runs (s.keyEvents l w).state := by
  unfold State.keyEvents
  split
  · exact e
  · split
    · exact e
    · split
      · exact e
      · split
        · exact e
        · split
          · exact e
          · exact .settle (.takeKeys _ _ e.playAllDue)

/-! #### The link -/

theorem completeFrame (e : h.Runs s) (f : RawFrame) : h.Runs (s.completeFrame f) :=
  .ite (fun _ => e.same) fun _ => .ite (fun _ => e.same) fun _ => e.same

theorem byteArrives (e : h.Runs s) (b : Byte) (f : Bool) : h.Runs (s.byteArrives b f) := by
  unfold State.byteArrives
  split
  · exact .ite (fun _ => e) fun _ => e.same
  · refine .ite (fun _ => .ite (fun _ => e.same) fun _ => e.same) fun _ =>
      .ite (fun _ => e.same) fun _ => .ite (fun _ => e.same) fun _ => ?_
    split
    · exact e.completeFrame _
    · exact e.same

end State.Runs

end Sys2Proof.Machine
end

section
/-! Every step keeps the lines and the station state (O15, O16). -/

namespace Sys2Proof.Machine

set_option Elab.async false

/-! ### The derivation of the station state (R142) -/

/-- One thing that a step can do to the wiring outside RST. -/
inductive Wiring.Pass : Wiring → Wiring → Prop
  /-- The station state stays. -/
  | move (v w : Wiring) (m : Move v w) : Pass v w
  /-- The state derived becomes the one that stands. -/
  | agrees (v : Wiring) : Pass v { v with derived := v.station }
  /-- The station enters a state: unless that is READY, its entry leaves nothing armed or on the air (R143 to R146). -/
  | enters (v w : Wiring) (x : StationState)
      (m : Relation.ReflTransGen Move { v with station := x, derived := x } w)
      (h : w.seq.calm = true ∨ x = .ready) : Pass v w
  /-- A station that is not READY goes to a state whose entry does nothing. -/
  | retires (v : Wiring) (x : StationState) (h : v.derived ≠ .ready) : Pass v { v with station := x, derived := x }

/-- From `h` to `s` the wiring moved, and the station state may have been derived. -/
def State.Passes (h s : State) : Prop := Relation.ReflTransGen Wiring.Pass h.wiring s.wiring

/-- A commissioned station is never derived UNCOMMISSIONED. -/
theorem State.derived_of_commissioned {s : State} (h : s.prt.commissioned = true) : s.derived ≠ .uncommissioned := by
  unfold State.derived
  split_ifs <;> simp_all

theorem State.commissioned_of_ready {s : State} (h : s.derived = .ready) : s.prt.commissioned = true := by
  unfold State.derived at h
  split_ifs at h
  simp_all

/-- Flushing the WAITING slots moves nothing. -/
theorem State.wiring_quietFlush (s : State) : s.quietFlush.wiring = s.wiring := by
  refine List.foldlRecOn (motive := fun v : State => v.wiring = s.wiring) _ _ rfl fun v hv w _ => ?_
  split <;> exact hv

/-- Step 5 of R149 moves nothing. -/
theorem State.wiring_emptied (s : State) : s.emptyArbiter.flushKeys.restFoldback.wiring = s.wiring := by
  unfold State.emptyArbiter
  dsimp only
  generalize hu : ({ s with idu := _, seq := _ } : State) = u
  have hw : u.wiring = s.wiring := by rw [← hu]; rfl
  rw [← hw, ← u.wiring_quietFlush]
  generalize u.quietFlush = q
  rfl

namespace State.Passes

variable {h s t : State}

theorem refl (s : State) : s.Passes s := Relation.ReflTransGen.refl

theorem trans (a : h.Passes s) (b : s.Passes t) : h.Passes t := Relation.ReflTransGen.trans a b

theorem same (e : h.Passes s) (hw : t.wiring = s.wiring := by rfl) : h.Passes t := by
  unfold State.Passes at e ⊢
  rwa [hw]

theorem raise (e : h.Passes s) (r : Report) : h.Passes (s.raise r) := e.same

theorem pass {w : Wiring} (e : h.Passes s) (m : s.wiring.Pass w) (hw : t.wiring = w := by rfl) : h.Passes t := by
  unfold State.Passes at e ⊢
  rw [hw]
  exact e.tail m

/-- What leaves the station state. -/
theorem runs (e : h.Passes s) (r : s.Runs t) : h.Passes t := by
  unfold State.Passes State.Runs at *
  exact e.trans (r.lift id fun _ _ m => .move _ _ m)

theorem ite {c : Prop} [Decidable c] {a b : State} (ha : c → h.Passes a) (hb : ¬c → h.Passes b) :
    h.Passes (if c then a else b) := by
  split
  · exact ha ‹_›
  · exact hb ‹_›

/-- The derivation after a change from `s` to `u` of what the station state is derived from. -/
theorem derive (e : h.Passes s) {u : State} (c : StationCause) (f : Option FaultKind)
    (hu : u.wiring = { s.wiring with derived := u.derived } := by rfl)
    (hc : s.prt.commissioned = true → u.prt.commissioned = true := by exact id) : h.Passes (u.derive c f) := by
  unfold State.derive
  by_cases hd : u.derived = u.prt.station
  · rw [if_pos hd]
    have hstation : u.prt.station = s.prt.station := congrArg Wiring.station hu
    exact e.pass (.agrees _) (by rw [hu, hd, hstation]; rfl)
  · rw [if_neg hd]
    generalize hx : u.derived = x at hu
    generalize hv : State.raise _ _ = v
    have hw : v.wiring = { s.wiring with station := x, derived := x } := by
      have : v.wiring = { u.wiring with station := x } := by rw [← hv]; rfl
      rw [this, hu]
    have enters {t : State} (m : v.Runs t) (ht : t.seq.state.calm = true ∨ x = .ready) : h.Passes t := by
      unfold State.Runs at m
      rw [hw] at m
      exact e.pass (.enters _ _ x m ht)
    have calm {t : State} (c : CutCause) (hr : x ≠ .ready) (m : (v.cut c).Runs t) : t.seq.state.calm = true := by
      have hstation := (Wiring.moves_keep ((State.Runs.refl v).cut c)).1.2.1
      rw [hw] at hstation
      exact Wiring.moves_calm m (by rw [hstation]; exact hr) (v.cut_calm c)
    have r := State.Runs.refl
    unfold State.enterStation
    cases x with
    | killed =>
      have m := ((r (v.cut .kill)).stationAbandons.turnEnd .kill).killFlush
      exact enters (((r v).cut .kill).trans m) (.inl (calm .kill nofun m))
    | uncommissioned =>
      refine e.pass (.retires _ _ fun hr => ?_) hw
      exact State.derived_of_commissioned (hc (State.commissioned_of_ready hr)) hx
    | tripped =>
      have m := (r (v.cut .fault)).stationAbandons.turnEnd .fault
      exact enters (((r v).cut .fault).trans m) (.inl (calm .fault nofun m))
    | held =>
      have m := (r (v.cut .held)).stationAbandons
      exact enters (((r v).cut .held).trans m) (.inl (calm .held nofun m))
    | ready => exact enters (.resumeClaim (.ite (fun _ => (r v).arbitrate) fun _ => r v)) (.inr rfl)

theorem occur (e : h.Passes s) (k : FaultKind) (w : Option SlotId) (c : Option Code) : h.Passes (s.occur k w c) :=
  e.derive _ _

theorem ampDrop (e : h.Passes s) : h.Passes s.ampDrop := by
  have m : s.Runs (s.ampTo .failed .drop) := (State.Runs.refl s).ampTo _ _
  exact .occur (e.runs (.ite (fun _ => m.cut _) fun _ => m)) _ _ _

theorem killAsserted (e : h.Passes s) : h.Passes s.killAsserted := .ite (fun _ => e) fun _ => e.derive _ _

/-! ### Wired inputs (chapter 10) -/

theorem ampReadyChange (e : h.Passes s) (a b : Reading) : h.Passes (s.ampReadyChange a b) := by
  unfold State.ampReadyChange
  split
  · exact .ite (fun _ => e.runs (.ampTo (.refl _) _ _)) fun _ => e
  · exact .ite (fun _ => e.ampDrop) fun _ => e
  · exact e

theorem deliver (e : h.Passes s) (f : InputFunction) (b : Reading) : h.Passes (s.deliver f b) := by
  have r := State.Runs.refl s
  cases f with
  | none => exact e
  | ampReady => exact e.ampReadyChange _ _
  | localPtt => exact .ite (fun _ => e) fun _ => .ite (fun _ => e.runs r.pttPressed) fun _ => e.runs r.pttReleased
  | localKey => exact .ite (fun _ => e) fun _ => .ite (fun _ => e.runs r.keyPressed) fun _ => e.runs r.keyReleased
  | localRequest =>
    exact .ite (fun _ => e) fun _ => .ite (fun _ => e.runs (r.wiredActive _)) fun _ => e.runs (r.wiredInactive _)
  | extFault =>
    exact .ite (fun _ => e) fun _ => .ite (fun _ => e.occur _ _ _) fun _ => e.same (State.wiring_conditionGone _ _)

theorem debounced (e : h.Passes s) (i : InputId) : h.Passes (s.debounced i) := by
  have m (u : State) : u.Runs (u.wiredActive .localRequestEdge) := (State.Runs.refl u).wiredActive _
  exact .deliver (.ite (fun _ => .runs e.same (m _)) fun _ => e.same) _ _

theorem inputLevel (e : h.Passes s) (i : InputId) (b : Bool) : h.Passes (s.inputLevel i b) :=
  .ite (fun _ => .debounced e.same i) fun _ => e.same

theorem levelChanges (e : h.Passes s) (c : LevelChange) : h.Passes (s.levelChanges c) := by
  cases c with
  | wired i b => exact e.inputLevel i b
  | kill b => exact e.same

theorem killDebounced (e : h.Passes s) : h.Passes s.killDebounced :=
  .ite (fun _ => .killAsserted e.same) fun _ => e.same

theorem route (e : h.Passes s) (i : InputId) (y : Input) : h.Passes (s.route i y) := by
  have e : h.Passes (if y.function = (s.inr.inputs.read i).function then
      (s.setInputOf i y).deliver (s.inr.inputs.read i).function (s.reading (s.inr.inputs.read i).function)
      else ((s.setInputOf i y).deliver (s.inr.inputs.read i).function
        (s.reading (s.inr.inputs.read i).function)).deliver y.function (s.reading y.function)) :=
    .ite (fun _ => .deliver e.same _ _) fun _ => .deliver (.deliver e.same _ _) _ _
  exact .ite (fun _ => e.debounced i) fun _ => e

/-! ### The occurrences with a fault, and the scan (R90, R104, R118) -/

theorem settle (e : h.Passes s) : h.Passes s.settle := e.runs (.settle (.refl _))

theorem onTime (e : h.Passes s) : h.Passes s.onTime := e.runs (.onTime (.refl _))

theorem stuckKey (e : h.Passes s) : h.Passes s.stuckKey := by
  have m (u : State) : u.Runs u.keyUpAtRest := (State.Runs.refl u).keyUpAtRest
  exact .raise (.occur (.runs (.ite (fun _ => e.same) fun _ => e.same) (m _)) _ _ _) _

theorem warmEnds (e : h.Passes s) : h.Passes s.warmEnds :=
  .ite (fun _ => .occur (e.runs (.ampTo (.refl _) _ _)) _ _ _) fun _ => e.runs (.ampTo (.refl _) _ _)

theorem judgeReflection (e : h.Passes s) (j : Judged) (f r : Code) : h.Passes (s.judgeReflection j f r) := by
  have m (u : State) : u.Runs u.recompute := (State.Runs.refl u).recompute
  exact .ite (fun _ => e) fun _ => .ite (fun _ => .occur e.same _ _ _) fun _ =>
    .ite (fun _ => e.same) fun _ => .runs e.same (m _)

theorem scanExciting (e : h.Passes s) (j : Judged) (f r : Code) : h.Passes (s.scanExciting j f r) := by
  have e : h.Passes (s.updatePeak f) := by
    unfold State.updatePeak
    split
    · exact e.same
    · exact e
  have e := e.judgeReflection j f r
  exact .ite (fun _ => e.same) fun _ => e

/-- Following the over-current condition leaves the faults listed. -/
theorem followCurrent (e : h.Passes s) (c : Code) : h.Passes (s.followCurrent c) := by
  have hd : (s.followCurrent c).derived = s.derived := by
    unfold State.derived State.followCurrent
    dsimp only
    rw [List.any_map]
    congr! 5
    funext r
    simp only [Function.comp]
    split <;> rfl
  refine e.same ?_
  unfold State.wiring
  rw [hd]
  rfl

theorem judgeCurrent (e : h.Passes s) (j : Option Judged) (c : Code) : h.Passes (s.judgeCurrent j c) := by
  have e := e.followCurrent c
  unfold State.judgeCurrent
  cases j with
  | none => exact e.same
  | some j => exact .ite (fun _ => e.same) fun _ => .ite (fun _ => .occur e.same _ _ _) fun _ => e.same

theorem judgeTemp (e : h.Passes s) (c : Code) : h.Passes (s.judgeTemp c) :=
  .ite (fun _ => e.same) fun _ => .ite (fun _ => e.same) fun _ =>
    .ite (fun _ => e.derive _ _) fun _ => e.derive _ _

theorem judgeSupply (e : h.Passes s) (c : Code) : h.Passes (s.judgeSupply c) :=
  .ite (fun _ => e.same) fun _ => .ite (fun _ => e.same) fun _ =>
    .ite (fun _ => e.derive _ _) fun _ => e.derive _ _

theorem completeScan (e : h.Passes s) (f r pai pat vsup : Code) : h.Passes (s.completeScan f r pai pat vsup) := by
  have e := (e.runs (.bringTo (.refl s) s.scanStart)).onTime
  refine .judgeSupply (.judgeTemp (.judgeCurrent ?_ _ _) _) _
  split
  · exact .scanExciting e.same _ _ _
  · exact e.same

/-! ### The requests that derive the station state -/

theorem commission (e : h.Passes s) : h.Passes s.commission.state := by
  unfold State.commission
  split
  · exact e
  · split
    · exact e
    · split
      · exact e
      · exact .settle (e.derive _ _ rfl fun _ => rfl)

/-- Out of service nothing is armed or on the air after the cut (R149). -/
theorem decommission (e : h.Passes s) : h.Passes s.decommission.state := by
  unfold State.decommission
  split
  · exact e
  · dsimp only
    have hr : s.outOfService.derived ≠ .ready := fun c => by
      have := State.commissioned_of_ready c
      unfold State.outOfService at this
      dsimp only at this
      split at this <;> cases this
    have hw : s.outOfService.wiring =
        { s.wiring with station := s.outOfService.derived, derived := s.outOfService.derived } := by
      unfold State.outOfService
      dsimp only
      split
      · rename_i hd
        rw [hd]
        exact congrArg (fun d => { s.wiring with derived := d }) hd
      · rfl
    have r := State.Runs.refl (s.outOfService.cut .decommission)
    have m : (s.outOfService.cut .decommission).Runs ((s.outOfService.cut .decommission).dropCycle.turnEnd .decommission) :=
      .turnEnd (.ite (fun _ => r.abandonCycle) fun _ => r) _
    generalize State.turnEnd _ _ = u at m
    have m := m.same u.wiring_emptied
    generalize u.emptyArbiter.flushKeys.restFoldback = q at m
    have m := m.settle
    have hstation := (Wiring.moves_keep ((State.Runs.refl s.outOfService).cut .decommission)).1.2.1
    have hcalm : q.settle.seq.state.calm = true :=
      Wiring.moves_calm m (by rw [hstation, hw]; exact hr) (State.cut_calm _ _)
    have m := ((State.Runs.refl s.outOfService).cut .decommission).trans m
    unfold State.Runs at m
    rw [hw] at m
    exact e.pass (.enters _ _ _ m (.inl hcalm))

theorem setInput (e : h.Passes s) (a : InputArgs) : h.Passes (s.setInput a).state := by
  unfold State.setInput
  split
  · split
    · exact e
    · exact .settle (e.route _ _)
  · exact e

theorem clearFault (e : h.Passes s) (k : Nat) : h.Passes (s.clearFault k).state := by
  unfold State.clearFault
  split
  · exact e
  · split
    · exact e
    · split
      · exact e
      · exact .settle (e.derive _ _)

theorem resume (e : h.Passes s) : h.Passes s.resume.state := by
  unfold State.resume
  split
  · exact e
  · split
    · exact e
    · exact .settle (e.derive _ _)

end State.Passes

end Sys2Proof.Machine
end

section
/-! Every step, in terms of the wiring (O15, O16). -/

namespace Sys2Proof.Machine

set_option Elab.async false

/-! ### Requests and occurrences at their instants -/

namespace State.Passes

variable {h s t : State}

/-- What turns, transmissions and identifications do leaves the station state. -/
theorem of (r : h.Runs s) : h.Passes s := (refl h).runs r

/-- A change outside the wiring. -/
theorem stays (hw : t.wiring = s.wiring := by rfl) : s.Passes t := (refl s).same hw

theorem atInstant (due : State → Option Clock) {act : State → State} (ha : ∀ u : State, u.Passes (act u)) :
    s.Passes (s.atInstant due act) := by
  unfold State.atInstant
  split
  · rename_i c _
    have e : s.Passes (s.bringTo c).onTime := of (.onTime (.bringTo (.refl s) c))
    exact .ite (fun _ => refl s) fun _ => .ite (fun _ => e.trans (ha _)) fun _ => e
  · exact refl s

theorem onExpiry (timer : State → Option Timer) {act : State → State} (ha : ∀ u : State, u.Passes (act u)) :
    s.Passes (s.onExpiry timer act) := atInstant _ ha

theorem onExpirySettled (timer : State → Option Timer) {act : State → State} (ha : ∀ u : State, u.Passes (act u)) :
    s.Passes (s.onExpirySettled timer act) := atInstant _ fun u => (ha u).settle

theorem presence (e : h.Passes s) (a : Actor) : h.Passes (a.presence s) := by
  unfold Actor.presence
  split
  · unfold State.restartPresence
    split
    · exact e.runs (.startPresence (.refl s) _)
    · exact e
  · exact e

theorem takeRequest {f : Actor → State → Handled} (hf : ∀ (a : Actor) (u : State), u.Passes (f a u).state) (kind tag actor : Nat)
    (who : Allowed) : s.Passes (s.takeRequest kind tag actor who f) := by
  refine .ite (fun _ => refl s) fun _ => ?_
  have e : s.Passes s.onTime.readyToTake := (refl s).onTime.same
  dsimp only
  generalize s.onTime.readyToTake = u at e
  split
  · exact e.same
  · rename_i a _
    exact .ite (fun _ => .same ((e.presence a).trans (hf a _))) fun _ => e.same

theorem takeStation {f : State → Handled} (hf : ∀ u : State, u.Passes (f u).state) (kind tag actor : Nat) :
    s.Passes (s.takeStation kind tag actor f) := takeRequest (fun _ => hf) _ _ _ _

theorem takeControl {f : State → Handled} (hf : ∀ u : State, u.Passes (f u).state) (kind tag actor : Nat) :
    s.Passes (s.takeControl kind tag actor f) := takeRequest (fun _ => hf) _ _ _ _

/-- A Query's block only reads. -/
theorem takeQuery {f : State → Handled} (hf : ∀ u, (f u).state = u) (tag actor : Nat) :
    s.Passes (s.takeQuery tag actor f) :=
  takeRequest (fun _ u => by rw [hf u]; exact refl u) _ _ _ _

theorem takeOwn {f : SlotId → State → Handled} (hf : ∀ (w : SlotId) (u : State), u.Passes (f w u).state) (kind tag actor : Nat) :
    s.Passes (s.takeOwn kind tag actor f) := by
  refine takeRequest (fun a u => ?_) _ _ _ _
  cases a with
  | slot w => exact hf w u
  | station => exact refl u

theorem turnAway (kind tag : Nat) (x : Status) : s.Passes (s.turnAway kind tag x) :=
  .ite (fun _ => refl s) fun _ => (refl s).same

end State.Passes

/-! ### Every command -/

/-- With RST every line is deasserted (R150). -/
def Wiring.silenced (v : Wiring) : Wiring :=
  { v with
    rst := true, trr := false, ampkey := false, exc := false, idm := false, keyGate := false, drive := false
    amppwr := false }

/-- What a step can do to the wiring: passes, which RST prevents, its assertion, and the full reset. -/
inductive Wiring.Step : Wiring → Wiring → Prop
  | passes (v w : Wiring) (p : Relation.ReflTransGen Pass v w) (h : v.rst = true → w = v) : Step v w
  | silences (v : Wiring) : Step v v.silenced
  | resets (v : Wiring) (kill : Bool) : Step v (State.afterReset (fun _ => false) kill []).wiring

/-- Nothing comes about at an instant while RST is asserted. -/
theorem State.atInstant_of_rst {s : State} (h : s.rst = true) (due : State → Option Clock) (act : State → State) :
    s.atInstant due act = s := by
  unfold State.atInstant
  split <;> simp [h]

theorem State.closed_of_rst {s : State} (h : s.rst = true) : s.closed = true := by simp [State.closed, h]

/-- While RST is asserted a command other than RST's own moves nothing (R150). -/
theorem exec_of_rst {i : Instr} {s t : State} (h : s.rst = true) (ha : i ≠ .rstAsserted) (hd : i ≠ .rstDeasserted)
    (hi : exec i s = .next t) : t.wiring = s.wiring := by
  have hc := State.closed_of_rst h
  cases i
  case rstAsserted => exact absurd rfl ha
  case rstDeasserted => exact absurd rfl hd
  case inputLevelChange c =>
    obtain rfl := Host.Outcome.next.inj hi
    rw [if_pos h]
    cases c <;> rfl
  all_goals
    obtain rfl := Host.Outcome.next.inj hi
    simp only [State.takeStation, State.takeControl, State.takeOwn, State.takeQuery, State.takeRequest_closed _ _ _ _ _ hc,
      State.turnAway, State.onExpirySettled, State.onExpiry, State.atInstant_of_rst h, h, hc, if_true, ite_self]

open State.Passes in
/-- Every command passes, but for RST's own and for one that completes the full reset. -/
theorem exec_passes {i : Instr} {s t : State} (ha : i ≠ .rstAsserted) (hi : exec i s = .next t) :
    s.Passes t ∨ s.wiring.Step t.wiring := by
  have stepEnds (x : SeqState) : s.Passes (s.onExpirySettled (fun s => s.stepIn x) State.stepEnds) :=
    onExpirySettled _ fun u => of (.stepEnds (.refl u))
  cases i <;> obtain rfl := Host.Outcome.next.inj hi
  case rstAsserted => exact absurd rfl ha
  case rstDeasserted => exact .inr (.resets _ s.inr.kill.raw)
  case replySent =>
    split
    · exact .inl (.refl s)
    · split
      · split
        · exact .inr (.resets _ s.inr.kill.raw)
        · exact .inl stays
      · exact .inl (.refl s)
  all_goals refine .inl ?_
  case restart => exact takeStation (fun u => stays) _ _ _
  case decommission => exact takeStation (fun u => .decommission (.refl u)) _ _ _
  case commission => exact takeStation (fun u => .commission (.refl u)) _ _ _
  case setStation a => exact takeStation (fun u => of (.setStation (.refl u) a)) _ _ _
  case setClass a => exact takeStation (fun u => of (.setClass (.refl u) a)) _ _ _
  case setBand a => exact takeStation (fun u => of (.setBand (.refl u) a)) _ _ _
  case setCalibration a => exact takeStation (fun u => of (.setCalibration (.refl u) a)) _ _ _
  case stageProfile => exact takeStation (fun u => stays) _ _ _
  case setInput a => exact takeStation (fun u => .setInput (.refl u) a) _ _ _
  case setLimits a => exact takeStation (fun u => of (.setLimits (.refl u) a)) _ _ _
  case setEvents => exact takeStation (fun u => stays) _ _ _
  case clearEvents => exact takeStation (fun u => stays) _ _ _
  case clearCounters l => exact takeStation (fun u => of (.clearCounters (.refl u) l)) _ _ _
  case clearFault k => exact takeControl (fun u => .clearFault (.refl u) k) _ _ _
  case resume => exact takeControl (fun u => .resume (.refl u)) _ _ _
  case openSlot a => exact takeStation (fun u => of (.openSlot (.refl u) a)) _ _ _
  case closeSlot n => exact takeStation (fun u => of (.closeSlot (.refl u) n)) _ _ _
  case reclass n c => exact takeStation (fun u => of (.reclass (.refl u) n c)) _ _ _
  case setAllowance n p a => exact takeStation (fun u => of (.setAllowance (.refl u) n p a)) _ _ _
  case clearAirtime n => exact takeStation (fun u => of (.clearAirtime (.refl u) n)) _ _ _
  case request b m p k => exact takeOwn (fun w u => of (.request (.refl u) b m p k w)) _ _ _
  case withdraw => exact takeOwn (fun w u => of (.withdraw (.refl u) w)) _ _ _
  case release => exact takeOwn (fun w u => of (.release (.refl u) w)) _ _ _
  case presence => exact takeOwn (fun _ u => .refl u) _ _ _
  case pttOn => exact takeOwn (fun w u => of (.pttOn (.refl u) w)) _ _ _
  case pttOff => exact takeOwn (fun w u => of (.pttOff (.refl u) w)) _ _ _
  case keyEvents l => exact takeOwn (fun w u => of (.keyEvents (.refl u) l w)) _ _ _
  case setPower p => exact takeOwn (fun w u => of (.setPower (.refl u) p w)) _ _ _
  case retune b m => exact takeOwn (fun w u => of (.retune (.refl u) b m w)) _ _ _
  case seize n b m p => exact takeRequest (fun a u => of (.seize (.refl u) n b m p a)) _ _ _ _
  case endTurn n => exact takeControl (fun u => of (.endTurn (.refl u) n)) _ _ _
  case holdSlot n => exact takeControl (fun u => of (.holdSlot (.refl u) n)) _ _ _
  case unholdSlot n => exact takeControl (fun u => of (.unholdSlot (.refl u) n)) _ _ _
  case ampOn => exact takeControl (fun u => of (.ampOn (.refl u))) _ _ _
  case ampOff => exact takeControl (fun u => of (.ampOff (.refl u))) _ _ _
  case ampReset => exact takeControl (fun u => of (.ampReset (.refl u))) _ _ _
  case unknownKindRequest => exact .ite (fun _ => .refl s) fun _ => turnAway _ _ _
  case frameReceived f =>
    exact .ite (fun _ => .refl s) fun _ => .ite (fun _ => stays) fun _ => of (.completeFrame (.refl s) f)
  case interByteGap =>
    refine .ite (fun _ => .refl s) fun _ => ?_
    split
    · exact .same (of (.bringTo (.refl s) _))
    · exact .refl s
  case reportSent => exact .ite (fun _ => .refl s) fun _ => .ite (fun _ => stays) fun _ => .refl s
  case stationSecondTick => exact .ite (fun _ => .refl s) fun _ => .same (of (.onTime (.bringTo (.refl s) _)))
  case presenceExpiry w => exact onExpirySettled _ fun u => of (.presenceLost (.refl u) w)
  case gapExpiry => exact onExpirySettled _ fun u => of (.gapExpires (.refl u))
  case turnLimitExpiry => exact onExpirySettled _ fun u => of (.turnEnd (.refl u) _)
  case idleHangExpiry => exact onExpirySettled _ fun u => of (.turnEnd (.refl u) _)
  case relayOnExpiry => exact stepEnds _
  case ampOnExpiry => exact stepEnds _
  case tailExpiry => exact stepEnds _
  case ampOffExpiry => exact stepEnds _
  case relayOffExpiry => exact stepEnds _
  case bandSettleExpiry => exact stepEnds _
  case txLimitExpiry => exact onExpirySettled _ fun u => of (.endMemberTx (.refl u) _)
  case playout => exact atInstant _ fun u => of (.settle (.playOldest (.refl u)))
  case hangExpiry => exact onExpirySettled _ fun u => of (.endMemberTx (.refl u) _)
  case burstGapExpiry => exact onExpiry _ fun u => stays
  case stuckKeyExpiry => exact onExpirySettled _ fun u => .stuckKey (.refl u)
  case warmUpExpiry => exact onExpirySettled _ fun u => .warmEnds (.refl u)
  case ampIdleExpiry => exact onExpiry _ fun u => of (.ampTo (.refl u) _ _)
  case scanCompletion => exact .ite (fun _ => .refl s) fun _ => .settle (.completeScan (.refl s) _ _ _ _ _)
  case intervalExpiry => exact onExpirySettled _ fun u => of (.fallsDue (.refl u))
  case deadlineExpiry => exact atInstant _ fun u => of (.settle (.deadline (.refl u)))
  case quietExpiry => exact onExpirySettled _ fun u => of (.quietEnds (.refl u))
  case idElementTimer => exact onExpirySettled _ fun u => of (.elementEnds (.refl u))
  case airTimeTenth => exact atInstant _ .refl
  case residencyTenth r =>
    have e : s.Passes (s.toTenth r) := .ite (fun _ => stays) fun _ => .refl s
    exact .ite (fun _ => .refl s) fun _ => .ite (fun _ => e.onTime.same) fun _ => e.onTime
  case inputLevelChange c =>
    refine .ite (fun _ => stays ?_) fun _ => .settle (.levelChanges (.onTime (.refl s)) c)
    cases c <;> rfl
  case debounceExpiry i => exact onExpirySettled _ fun u => .debounced (.refl u) i
  case killDebounceExpiry => exact onExpirySettled _ fun u => .killDebounced (.refl u)
  case byteReceived b f => exact .ite (fun _ => .refl s) fun _ => of (.byteArrives (.refl s) b f)
  case queryStation => exact takeQuery (fun _ => rfl) _ _
  case querySlot => exact takeQuery (fun u => by split <;> rfl) _ _
  case queryClass => exact takeQuery (fun u => by split <;> rfl) _ _
  case queryBand => exact takeQuery (fun u => by split <;> rfl) _ _
  case queryCal => exact takeQuery (fun u => by split <;> rfl) _ _
  case queryMeasure => exact takeQuery (fun _ => rfl) _ _
  case queryFaults => exact takeQuery (fun _ => rfl) _ _
  case queryCounters => exact takeQuery (fun _ => rfl) _ _
  case queryRecords => exact takeQuery (fun _ => rfl) _ _
  case queryQueue => exact takeQuery (fun u => by split <;> rfl) _ _
  case queryEvents => exact takeQuery (fun _ => rfl) _ _
  case queryProfile => exact takeQuery (fun _ => rfl) _ _
  case queryInputs => exact takeQuery (fun _ => rfl) _ _

end Sys2Proof.Machine
end

section
/-! The lines follow the sequencer (O15), and only a station that is READY transmits (O16). -/

namespace Sys2Proof.Machine

set_option Elab.async false

/-! ### Every step -/

theorem exec_wiring {i : Instr} {s t : State} (hi : exec i s = .next t) : s.wiring.Step t.wiring := by
  by_cases ha : i = .rstAsserted
  · subst ha
    obtain rfl := Host.Outcome.next.inj hi
    exact .silences s.wiring
  · by_cases hd : i = .rstDeasserted
    · subst hd
      obtain rfl := Host.Outcome.next.inj hi
      exact .resets s.wiring s.inr.kill.raw
    · rcases exec_passes ha hi with p | r
      · exact .passes _ _ p fun h => exec_of_rst h ha hd hi
      · exact r

theorem State.takeFrame_wiring {s t : State} {f : RawFrame} (hf : s.takeFrame f = .next t) :
    s.wiring.Step t.wiring := by
  unfold State.takeFrame at hf
  dsimp only at hf
  generalize hu : ({ s with lnk := _ } : State) = u at hf
  have hw : s.wiring = u.wiring := by rw [← hu]; rfl
  rw [hw]
  have hc (h : u.wiring.rst = true) : u.closed = true := State.closed_of_rst h
  split at hf
  · exact exec_wiring hf
  · obtain rfl := Host.Outcome.next.inj hf
    exact .passes _ _ (State.Passes.turnAway _ _ _) fun h => by simp [State.turnAwayFrame, State.turnAway, hc h]
  · obtain rfl := Host.Outcome.next.inj hf
    exact .passes _ _ (State.Passes.takeQuery (fun _ => rfl) _ _) fun h => by
      simp only [State.turnAwayFrame, if_true, State.takeQuery, State.takeRequest_closed _ _ _ _ _ (hc h)]

theorem State.idle_wiring {s t : State} (hi : s.idle = .next t) : s.wiring.Step t.wiring := by
  have stays : s.wiring.Step s.wiring := .passes _ _ .refl fun _ => rfl
  unfold State.idle at hi
  split at hi
  · obtain rfl := Host.Outcome.next.inj hi
    exact stays
  · split at hi
    · exact exec_wiring hi
    · split at hi
      · exact State.takeFrame_wiring hi
      · obtain rfl := Host.Outcome.next.inj hi
        exact stays

theorem step_wiring {s t : State} (hs : step s = .next t) : s.wiring.Step t.wiring := by
  unfold step at hs
  split at hs
  · rename_i rest _
    exact exec_wiring (s := { s with pending := rest }) hs
  · exact State.idle_wiring hs

/-! ### The lines (R50) -/

/-- The table of R50 with R101 and R114, while RST is not asserted. -/
structure Wiring.Lines (v : Wiring) : Prop where
  trr : v.trr = v.seq.keepsRelay
  exc : v.exc = decide (v.seq = .exciting)
  keyGate : v.keyGate = decide (v.seq = .exciting)
  ampkey : v.ampkey = (v.seq.mayKeyAmp && v.amplified)
  idm : v.idm = (v.seq.keepsRelay && v.ident)
  drive : v.drive = true → v.seq = .exciting
  powered : v.powered
  tx : v.seq ≠ .quiet → v.seq ≠ .retune → v.tx.isSome = true

namespace Wiring

variable {v w : Wiring}

/-- The disarm step that AMPKEY calls for, with nothing on the air, from a state in which it may be called for. -/
theorem Lines.disarmed (l : v.Lines) (h : v.seq = .armRelay ∨ v.seq = .armAmp ∨ v.seq = .drain) : v.disarmed.Lines := by
  obtain ⟨trr, exc, gate, ampkey, idm, drive, powered, tx⟩ := l
  have hx : v.tx.isSome = true := by rcases h with h | h | h <;> exact tx (by simp [h]) (by simp [h])
  unfold Wiring.disarmed
  split
  · refine ⟨?_, ?_, ?_, rfl, ?_, ?_, powered, fun _ _ => hx⟩ <;>
      rcases h with h | h | h <;> simp_all [SeqState.keepsRelay, Wiring.ident]
  · refine ⟨rfl, ?_, ?_, ?_, rfl, ?_, powered, fun _ _ => hx⟩ <;>
      rcases h with h | h | h <;> simp_all [SeqState.mayKeyAmp]

/-- A normal end leaves the lines as in DRAIN. -/
theorem Lines.drained (l : v.Lines) (h : v.seq = .exciting) : ({ v.offAir with seq := .drain } : Wiring).Lines := by
  obtain ⟨trr, exc, gate, ampkey, idm, drive, powered, tx⟩ := l
  rw [h] at trr ampkey idm
  exact ⟨trr, rfl, rfl, ampkey, idm, nofun, powered, fun _ _ => tx (by simp [h]) (by simp [h])⟩

/-- Every move keeps the table. -/
theorem Move.lines (m : v.Move w) (l : v.Lines) : w.Lines := by
  cases m with
  | cuts h hx => exact (l.drained h).disarmed (.inr (.inr rfl))
  | cutsNothing h hx =>
    have := l.tx (by simp [h]) (by simp [h])
    rw [hx] at this
    cases this
  | disarms h => exact l.disarmed h
  | drains h hx => exact l.drained h
  | amp x =>
    obtain ⟨trr, exc, gate, ampkey, idm, drive, -, tx⟩ := l
    exact ⟨trr, exc, gate, ampkey, idm, drive, rfl, tx⟩
  | drives h =>
    obtain ⟨trr, exc, gate, ampkey, idm, -, powered, tx⟩ := l
    exact ⟨trr, exc, gate, ampkey, idm, fun _ => h, powered, tx⟩
  | starts i a h hr =>
    obtain ⟨trr, exc, gate, ampkey, idm, drive, powered, tx⟩ := l
    rw [h] at exc gate ampkey drive
    exact ⟨rfl, exc, gate, ampkey, by simp [Wiring.ident, SeqState.keepsRelay], fun hd => (nomatch drive hd), powered,
      fun _ _ => rfl⟩
  | relayOn h =>
    obtain ⟨trr, exc, gate, ampkey, idm, drive, powered, tx⟩ := l
    rw [h] at trr exc gate ampkey idm drive
    exact ⟨trr, exc, gate, by rw [ampkey]; rfl, idm, fun hd => (nomatch drive hd), powered,
      fun _ _ => tx (by simp [h]) (by simp [h])⟩
  | onAir d hx h =>
    obtain ⟨trr, -, -, ampkey, idm, -, powered, -⟩ := l
    rcases h with h | ⟨h, -⟩ <;> rw [h] at trr ampkey idm <;>
      exact ⟨trr, rfl, rfl, ampkey, idm, fun _ => rfl, powered, fun _ _ => hx⟩
  | ampOff h =>
    obtain ⟨trr, exc, gate, -, idm, drive, powered, tx⟩ := l
    rw [h] at trr exc gate idm drive
    exact ⟨trr, exc, gate, rfl, idm, fun hd => (nomatch drive hd), powered, fun _ _ => tx (by simp [h]) (by simp [h])⟩
  | relayOff h =>
    obtain ⟨-, exc, gate, ampkey, -, drive, powered, tx⟩ := l
    rw [h] at exc gate ampkey drive
    exact ⟨rfl, exc, gate, ampkey, rfl, fun hd => (nomatch drive hd), powered,
      fun _ _ => tx (by simp [h]) (by simp [h])⟩
  | tunes h =>
    obtain ⟨trr, exc, gate, ampkey, idm, drive, powered, -⟩ := l
    rw [h] at trr exc gate ampkey idm drive
    exact ⟨trr, exc, gate, ampkey, idm, fun hd => (nomatch drive hd), powered, fun _ hn => absurd rfl hn⟩
  | quiets _ h hp hw =>
    obtain ⟨trr, exc, gate, ampkey, idm, drive, powered, -⟩ := l
    have powered := hp powered
    rw [hw]
    rcases h with h | h <;> rw [h] at trr exc gate ampkey idm drive <;>
      exact ⟨trr, exc, gate, ampkey, idm, fun hd => (nomatch drive hd), hw ▸ powered, fun hn => absurd rfl hn⟩

theorem moves_lines (m : Relation.ReflTransGen Move v w) (l : v.Lines) : w.Lines := by
  induction m with
  | refl => exact l
  | tail _ m ih => exact m.lines ih

/-- The station state drives no line. -/
theorem Lines.of_station (l : v.Lines) (x y : StationState) : ({ v with station := x, derived := y } : Wiring).Lines := by
  obtain ⟨trr, exc, gate, ampkey, idm, drive, powered, tx⟩ := l
  exact ⟨trr, exc, gate, ampkey, idm, drive, powered, tx⟩

theorem passes_lines (p : Relation.ReflTransGen Pass v w) (l : v.Lines) : w.rst = v.rst ∧ w.Lines := by
  induction p with
  | refl => exact ⟨rfl, l⟩
  | tail _ m ih =>
    obtain ⟨hr, l⟩ := ih
    cases m with
    | move _ m => exact ⟨m.keeps.1.1.trans hr, m.lines l⟩
    | agrees => exact ⟨hr, l.of_station _ _⟩
    | enters _ x m h => exact ⟨(moves_keep m).1.1.trans hr, moves_lines m (l.of_station _ _)⟩
    | retires x h => exact ⟨hr, l.of_station _ _⟩

/-- The lines with RST and without it. -/
def lines (v : Wiring) : Prop := if v.rst = true then v.silenced = v else v.Lines

/-- The reset state is at rest. -/
theorem lines_reset (kill : Bool) : (State.afterReset (fun _ => false) kill []).wiring.lines :=
  ⟨rfl, rfl, rfl, rfl, rfl, nofun, rfl, fun h => absurd rfl h⟩

theorem Step.lines (m : v.Step w) (l : v.lines) : w.lines := by
  cases m with
  | passes _ p h =>
    by_cases hr : v.rst = true
    · rwa [h hr]
    · rw [Wiring.lines, if_neg hr] at l
      obtain ⟨hw, l⟩ := passes_lines p l
      rwa [Wiring.lines, hw, if_neg hr]
  | silences => exact rfl
  | resets kill => exact lines_reset kill

/-! ### The station state (R142) -/

/-- The station state is the one derived, and nothing is armed or on the air unless it is READY. -/
def stations (v : Wiring) : Prop := (v.seq.calm = false → v.station = .ready) ∧ v.station = v.derived

/-- Moves leave what the station state was derived as, and out of READY they arm nothing. -/
theorem moves_stations (m : Relation.ReflTransGen Move v w) (h : v.stations) : w.stations := by
  obtain ⟨⟨-, hs, hd⟩, -⟩ := moves_keep m
  refine ⟨fun hc => ?_, by rw [hs, hd]; exact h.2⟩
  rw [hs]
  by_contra hr
  have : v.seq.calm = true := by
    by_contra hv
    exact hr (h.1 (Bool.eq_false_iff.mpr hv))
  rw [moves_calm m hr this] at hc
  cases hc

theorem Pass.stations (m : v.Pass w) (h : v.stations) : w.stations := by
  cases m with
  | move _ m => exact moves_stations (.single m) h
  | agrees => exact ⟨h.1, rfl⟩
  | enters _ x m hx =>
    obtain ⟨⟨-, hs, hd⟩, -⟩ := moves_keep m
    refine ⟨fun hc => ?_, by rw [hs, hd]⟩
    rcases hx with hx | hx
    · rw [hx] at hc
      cases hc
    · exact hs.trans hx
  | retires x hr => exact ⟨fun hc => absurd (h.2.symm.trans (h.1 hc)) hr, rfl⟩

theorem passes_stations (p : Relation.ReflTransGen Pass v w) (h : v.stations) : w.stations := by
  induction p with
  | refl => exact h
  | tail _ m ih => exact m.stations ih

theorem Step.stations (m : v.Step w) (h : v.stations) : w.stations := by
  cases m with
  | passes _ p => exact passes_stations p h
  | silences => exact h
  | resets kill => exact ⟨nofun, by cases kill <;> rfl⟩

end Wiring

/-! ### The statements -/

/-- The wiring of a silent part (R150). -/
theorem State.silent_iff {s : State} (h : s.rst = true) : s.wiring.silenced = s.wiring ↔ s.silent := by
  constructor
  · intro hw
    exact ⟨congrArg Wiring.trr hw.symm, congrArg Wiring.ampkey hw.symm, congrArg Wiring.exc hw.symm,
      congrArg Wiring.idm hw.symm, congrArg Wiring.keyGate hw.symm, congrArg Wiring.amppwr hw.symm,
      congrArg Wiring.drive hw.symm⟩
  · rintro ⟨trr, ampkey, exc, idm, gate, amppwr, drive⟩
    simp only [Wiring.silenced, State.wiring, trr, ampkey, exc, idm, gate, amppwr, drive, h]

theorem State.identTx_eq (s : State) : s.identTx = s.wiring.ident := by
  cases hx : s.seq.tx <;> simp [State.identTx, Wiring.ident, State.wiring, hx]

/-- The KEY line with the gate open, for a transmission in SEQ (R85, R159). -/
theorem State.keyLine_of_gate {s : State} (hg : s.seq.keyGate = true) (hx : s.seq.tx.isSome = true) :
    s.keyLine = if s.identTx then s.idKeys else decide (s.keyState = .down) := by
  obtain ⟨x, hx⟩ := Option.isSome_iff_exists.mp hx
  cases hk : x.kind with
  | member w => simp [State.keyLine, hg, hx, State.identTx, hk]
  | ident => cases hc : s.idu.context <;> simp [State.keyLine, hg, hx, State.identTx, hk, State.idKeys, hc]

/-- KEY follows from the gate (R85, R159), so the table is about the other lines. -/
theorem State.lines_iff (s : State) : s.wiring.lines ↔ s.linesFollow := by
  unfold Wiring.lines State.linesFollow
  by_cases hr : s.rst = true
  · have hr' : s.wiring.rst = true := hr
    rw [if_pos hr, if_pos hr']
    exact s.silent_iff hr
  · have hr' : ¬s.wiring.rst = true := hr
    rw [if_neg hr, if_neg hr', s.amplifiedTx_eq, s.identTx_eq]
    constructor
    · rintro ⟨trr, exc, gate, ampkey, idm, drive, powered, tx⟩
      have gate : s.seq.keyGate = decide (s.seq.state = .exciting) := gate
      refine ⟨trr, exc, gate, ampkey, idm, fun hn => ?_, fun he => ?_, drive, powered, fun hq ht => ?_⟩
      · simp [State.keyLine, gate, hn]
      · rw [← s.identTx_eq]
        have he' : s.wiring.seq = .exciting := he
        exact State.keyLine_of_gate (by rw [gate, decide_eq_true he])
          (s.wiring_tx_isSome ▸ tx (by simp [he']) (by simp [he']))
      · exact s.wiring_tx_isSome ▸ tx hq ht
    · rintro ⟨trr, exc, gate, ampkey, idm, -, -, drive, powered, tx⟩
      exact ⟨trr, exc, gate, ampkey, idm, drive, powered, fun hq ht => s.wiring_tx_isSome.trans (tx hq ht)⟩

/-- Settles O15: every step moves the wiring by moves that keep R50's table, or RST silences the part or resets it. -/
theorem linesFollowTheSequencer : Obligations.LinesFollowTheSequencer := fun t s hs hstep =>
  t.lines_iff.mp ((step_wiring hstep).lines (s.lines_iff.mpr hs))

theorem State.stations_iff (s : State) : s.wiring.stations ↔ s.armsOnlyReady ∧ s.stationFollows := by
  unfold Wiring.stations State.armsOnlyReady
  rw [← s.calm_iff]
  rfl

/-- Settles O16: the entry of a station state other than READY leaves nothing armed, and out of READY nothing is armed. -/
theorem onTheAirOnlyWhenReady : Obligations.OnTheAirOnlyWhenReady := fun t s hs hstep =>
  t.stations_iff.mp ((step_wiring hstep).stations (s.stations_iff.mpr hs))

end Sys2Proof.Machine
end

section
/-! RST, and the staged timing profile (O5, O29). -/

namespace Sys2Proof.Machine

set_option Elab.async false

/-- Settles O5: the row of RST_ASSERTED writes the lines and nothing else. -/
theorem rstSilencesThePart : Obligations.RstSilencesThePart := fun _ =>
  ⟨_, rfl, rfl, ⟨rfl, rfl, rfl, rfl, rfl, rfl, rfl⟩, rfl, rfl, rfl, rfl, rfl, rfl, rfl⟩

/-- A profile is stored as it was sent exactly when no delay is above its range. -/
theorem profileOf_eq_iff (a : ProfileArgs) :
    profileOf a = ⟨a.relayOn, a.ampOn, a.tail, a.ampOff, a.relayOff, a.bandSettle⟩ ↔ profileClamped a = false := by
  simp only [profileOf, profileClamped, Profile.mk.injEq, decide_eq_false_iff_not, not_or, min_eq_left_iff, Nat.not_lt]

/-- Settles O29. -/
theorem stageProfileStages : Obligations.StageProfileStages := by
  intro tag p s h q hc hn
  have hk : okStatus (profileClamped p) =
      if q = ⟨p.relayOn, p.ampOn, p.tail, p.ampOff, p.relayOff, p.bandSettle⟩ then .ok else .okClamped := by
    have := profileOf_eq_iff p
    change q = _ ↔ _ at this
    cases hb : profileClamped p <;> simp [this, hb, okStatus]
  have taken := State.takeStation_taken (kind := 0x08) (tag := tag) (f := State.stageProfile p) hc hn
  refine (congrArg Host.Outcome.next taken).trans ?_
  rw [Handled.reply, State.stageProfile, hk]
  simp only [decide_eq_true_eq, decide_not, ne_eq]
  rfl

end Sys2Proof.Machine
end

section
/-! Retune (O48). -/

namespace Sys2Proof.Machine

set_option Elab.async false

section Retune

variable {s : State} {t : Turn} {w : SlotId} {tag : Nat} {b : BandId} {e : Emission}

/-- During a turn no identification can take the transmitter, and the quiet timer does not run. -/
theorem State.settled_in_turn (ht : s.turn = some t) : s.settled ↔
    (zeroLength s.arb.gap = false ∧ zeroLength s.seq.step = false) ∧ t.idleStart.isSome = s.idleMayRun t ∧
      s.idu.quiet = none := by
  have harb := State.turn_eq_some.mp ht
  have hopen : s.idTurnOpen = false := by simp [State.idTurnOpen, harb]
  have hquiet : s.quietMayRun = false := by simp [State.quietMayRun, harb]
  rw [State.settled_iff, hopen, hquiet, ht]
  simp

theorem exec_retune (hc : s.closed = false) (hn : s.tenthsDue = 0) (hv : s.tenancy w ≠ .vacant) (b m : Nat) :
    exec (.retune tag w.val b m) s = .next ((State.retune b m w (s.heard (.slot w))).reply 0x28 tag) :=
  congrArg Host.Outcome.next (State.takeOwn_taken hc hn hv)

theorem State.retune_of_holder {m : Nat} (he : emissionOf m = some e) (ht : s.turn = some t) (hw : t.holder = w) :
    s.retune b.val m w =
      if s.permit w b e = false then refuse .notPermitted s
      else if t.sub ≠ .active ∨ s.seq.state ≠ .quiet then refuse .busy s
      else done (if b = t.band then s.changeEmission t.emission e else (s.changeEmission t.emission e).changeBand b).settle := by
  have hof : s.turnOf w = some t := by simp [State.turnOf, ht, hw]
  simp only [State.retune, indexOf_val, he, hof]

theorem State.retune_taken {m : Nat} (he : emissionOf m = some e) (ht : s.turn = some t) (hw : t.holder = w)
    (hp : s.permit w b e = true) (ha : t.sub = .active) (hq : s.seq.state = .quiet) : s.retune b.val m w =
      done (if b = t.band then s.changeEmission t.emission e else (s.changeEmission t.emission e).changeBand b).settle := by
  rw [State.retune_of_holder he ht hw, if_neg (by simp [hp]), if_neg (by simp [ha, hq])]

theorem State.retune_of_other {m : Nat} (hm : emissionOf m = some e) (hh : s.holder ≠ some w) :
    s.retune b.val m w = refuse .wrongState s := by
  have hof : s.turnOf w = none := by
    unfold State.turnOf
    split
    · exact if_neg fun k => hh (by rw [State.holder_of_turn ‹_›, k])
    · rfl
  simp only [State.retune, indexOf_val, hm, hof]

theorem State.retune_of_code {b m : Nat} (h : 12 ≤ b ∨ 3 ≤ m) : s.retune b m w = refuse .badArgument s := by
  rcases h with h | h
  · simp [State.retune, indexOf_of_le h]
  · simp [State.retune, emissionOf_of_le h]

/-- Another emission is the turn's, CW's demand and timeline apart (R68). -/
theorem State.changeEmission_eq (ht : s.turn = some t) (e : Emission) : ∃ k : Ktl,
    s.changeEmission t.emission e = { s.setArbiter (.turn { t with emission := e }) with
      seq := if e = .cw ∧ t.emission ≠ .cw then { s.seq with pttDemand := false } else s.seq, ktl := k } ∧
    (t.emission = .cw → e ≠ .cw → k.timeline = [] ∧ k.burst = none) ∧ k.params = s.ktl.params := by
  unfold State.changeEmission
  rw [State.modTurn_of_turn _ ht]
  generalize hg : s.setArbiter _ = g
  have hseq : s.seq = g.seq := by rw [← hg]; rfl
  have hpar : g.ktl.params = s.ktl.params := by rw [← hg]; rfl
  rw [hseq]
  by_cases h : t.emission = e
  · rw [if_pos h, if_neg fun k => k.2 (h.trans k.1)]
    exact ⟨g.ktl, rfl, fun hc hn => absurd (h.symm.trans hc) hn, hpar⟩
  · by_cases hc : t.emission = .cw
    · rw [if_neg h, if_pos hc, if_neg fun k => k.2 hc]
      exact ⟨g.flushTurnKeys.ktl, rfl, fun _ _ => ⟨rfl, rfl⟩, hpar⟩
    · by_cases hcw : e = .cw
      · rw [if_neg h, if_neg hc, if_pos hcw, if_pos ⟨hcw, hc⟩]
        exact ⟨_, rfl, fun k => absurd k hc, hpar⟩
      · rw [if_neg h, if_neg hc, if_neg hcw, if_neg fun k => hcw k.1]
        exact ⟨g.ktl, rfl, fun k => absurd k hc, hpar⟩

/-- Another band: the turn waits for SEQ's retune with the timeline flushed (R67, R68). -/
theorem State.changeBand_eq (ht : s.turn = some t) (b : BandId) : ∃ k : Ktl,
    s.changeBand b = { s.setArbiter (.turn { t with band := b, sub := .tuning, idleStart := none }) with
      seq := { s.seq with
        state := .retune, bandCode := (s.drv.bands.read b).relayCode, currentBand := some b, queuedRetune := none
        retuneBand := some b, retuneCurrent := true, step := some ⟨s.clock, s.seq.active.bandSettle * 10⟩ }
      ktl := k, msr := { s.msr with factor := 256 }, amg := { s.amg with idle := none } } ∧
    k.timeline = [] ∧ k.burst = none ∧ k.params = s.ktl.params := by
  unfold State.changeBand
  rw [State.modTurn_of_turn _ ht]
  exact ⟨_, rfl, rfl, rfl, rfl⟩

end Retune

/-- Settles O48. -/
theorem retuneMovesTheTurn : Obligations.RetuneMovesTheTurn := by
  refine ⟨fun tag w b e ec tn s => ?_, fun tag w e ec tn s => ?_, fun tag w b e ec tn s => ?_, fun tag w b ec s => ?_⟩
  · intro h hc hn hv he ht hw hp ha hq hb hlen hset
    have hh : h.turn = some tn := (State.heard_turn _ s).trans ht
    have hp : h.permit w b e = true := (State.heard_permit _ s w b e).trans hp
    have hq : h.seq.state = .quiet := (congrArg Seq.state (State.heard_seq _ s)).trans hq
    have hlen : h.seq.active.bandSettle ≠ 0 := by rwa [State.heard_seq]
    have hset : h.settled := State.settled_heard _ hset
    refine ⟨_, exec_retune hc hn hv b.val ec, ?_⟩
    rw [show s.heard (.slot w) = h from rfl, State.retune_taken he hh hw hp ha hq, if_neg hb]
    obtain ⟨k, hk, -, hpar⟩ := State.changeEmission_eq hh e
    obtain ⟨l, hl, hnil, hburst, hpar'⟩ := State.changeBand_eq (s := h.changeEmission tn.emission e)
      (t := { tn with emission := e }) (by rw [hk]; rfl) b
    obtain ⟨d, hd⟩ : ∃ d, (if e = .cw ∧ tn.emission ≠ .cw then { h.seq with pttDemand := false } else h.seq) =
        { h.seq with pttDemand := d } := by split <;> exact ⟨_, rfl⟩
    rw [hd] at hk
    rw [hk] at hl hpar'
    obtain ⟨⟨hgap, -⟩, -, hquiet⟩ := (State.settled_in_turn hh).mp hset
    have hstep : zeroLength (some ⟨h.clock, h.seq.active.bandSettle * 10⟩) = false :=
      decide_eq_false fun k => hlen (by simpa using k)
    have hsettled : ((h.changeEmission tn.emission e).changeBand b).settled := by
      rw [hk, hl]
      exact (State.settled_in_turn rfl).mpr ⟨⟨hgap, hstep⟩, rfl, hquiet⟩
    rw [State.settle_eq_self hsettled, hk, hl]
    have hpar : l.params = h.ktl.params := hpar'.trans hpar
    clear_value h
    refine ⟨rfl, rfl, rfl, rfl, rfl, rfl, hnil, hburst, rfl, rfl, rfl, rfl, rfl, rfl, rfl, rfl, rfl, ?_⟩
    have key : h.fixed = { h with ktl := l }.fixed := by rw [State.fixed, State.fixed, State.settings, State.settings, hpar]
    exact key.symm
  · intro h hc hn hv he ht hw hp ha hq hset
    have hh : h.turn = some tn := (State.heard_turn _ s).trans ht
    have hp : h.permit w tn.band e = true := (State.heard_permit _ s w tn.band e).trans hp
    have hq : h.seq.state = .quiet := (congrArg Seq.state (State.heard_seq _ s)).trans hq
    have hset : h.settled := State.settled_heard _ hset
    refine ⟨_, exec_retune hc hn hv tn.band.val ec, ?_⟩
    rw [show s.heard (.slot w) = h from rfl, State.retune_taken he hh hw hp ha hq, if_pos rfl]
    obtain ⟨k, hk, hflush, hpar⟩ := State.changeEmission_eq hh e
    have hsettled : (h.changeEmission tn.emission e).settled := by
      have hset := (State.settled_in_turn hh).mp hset
      rw [hk]
      refine (State.settled_in_turn rfl).mpr ?_
      split <;> exact hset
    rw [State.settle_eq_self hsettled, hk]
    clear_value h
    refine ⟨rfl, rfl, hflush, rfl, rfl, rfl, rfl, rfl, rfl, ?_, rfl, rfl⟩
    have key : h.fixed = { h with ktl := k }.fixed := by rw [State.fixed, State.fixed, State.settings, State.settings, hpar]
    rw [key]
    split <;> rfl
  · intro h hc hn hv he ht hw hor
    have hh : h.turn = some tn := (State.heard_turn _ s).trans ht
    have hp : h.permit w b e = s.permit w b e := State.heard_permit _ s w b e
    have hq : h.seq = s.seq := State.heard_seq _ s
    rw [exec_retune hc hn hv, show s.heard (.slot w) = h from rfl, State.retune_of_holder he hh hw, hp, hq]
    by_cases hpermit : s.permit w b e = false
    · rw [if_pos hpermit, if_pos hpermit]
      rfl
    · rw [if_neg hpermit, if_neg hpermit, if_pos (hor.resolve_left hpermit)]
      rfl
  · intro h hc hn hv hor
    rw [exec_retune hc hn hv, show s.heard (.slot w) = h from rfl]
    by_cases hbad : 12 ≤ b ∨ 3 ≤ ec
    · rw [if_pos hbad, State.retune_of_code hbad]
      rfl
    · rw [not_or, not_le, not_le] at hbad
      obtain ⟨hb, he⟩ := hbad
      obtain ⟨e, he'⟩ := emissionOf_of_lt he
      have hh : h.holder ≠ some w := by
        rw [State.heard_holder]
        exact hor.resolve_right (by omega)
      rw [if_neg (by omega), show b = (⟨b, hb⟩ : BandId).val from rfl, State.retune_of_other he' hh]
      rfl

end Sys2Proof.Machine
end

section
/-! Up through ARM_AMP to EXCITING (O53). -/

namespace Sys2Proof.Machine

set_option Elab.async false

/-! ### Entering EXCITING (R60) -/

section Exciting

variable {s : State} {t : Turn} {x : Tx} {p : Nat}

/-- SEQ and MSR of a transmission that goes on the air, with its limit timer running or not. -/
def State.excited (x : Tx) (limit : Option Clock) (s : State) : State := { s with
  seq := { s.seq with
    state := .exciting, step := none, exc := true, keyGate := true
    tx := some { x with excitedAt := s.clock, airTime := 0, endCause := none, limitStart := limit } }
  msr := { s.msr with peak := 0, reported := false, overcurrentCount := 0 } }

/-- DRIVE is active for the target `p`. -/
def State.driving (x : Tx) (p : Nat) (s : State) : State :=
  { s with drv := { s.drv with applied := s.drivenAt x p } }

theorem State.computeDrive_of_target (hx : s.seq.tx = some x) (hp : s.txTarget x = some p) :
    s.computeDrive = s.driving x p := by
  rw [State.computeDrive, hx]
  simp only [hp]
  rfl

/-- What KTL and IDU do with a member transmission that goes on the air (R85, R153). -/
def State.airing (s : State) : State := { s.markOwed with ktl := { s.ktl with gated := none } }

theorem State.enterExciting_eq (hx : s.seq.tx = some x) : s.enterExciting =
    let c := (s.excited x (if decide (x.kind ≠ .ident) then some s.clock else none)).computeDrive
    let c := if decide (x.kind ≠ .ident) then c.airing else c
    let c := c.raise (.txStarted x.kind x.band x.emission x.path c.startedCount)
    (if decide (x.kind ≠ .ident) then c else c.beginSending).syncKey := by
  rw [State.enterExciting, hx]
  rfl

/-- The drive code turns on the band and the path alone. -/
theorem State.excited_driving (l : Option Clock) :
    (s.excited x l).driving { x with excitedAt := s.clock, airTime := 0, endCause := none, limitStart := l } p =
      (s.excited x l).driving x p := rfl

theorem State.enterExciting_member {w : SlotId} (hx : s.seq.tx = some x) (ht : s.turn = some t) (hk : x.kind = .member w)
    (hc : x.current = true) : s.enterExciting = (State.raise (.txStarted (.member w) x.band x.emission x.path t.txCount)
      ((s.excited x (some s.clock)).driving x
        (s.target x.path (s.uncapped w x.band x.emission t.power))).airing).syncKey := by
  have hm : decide (x.kind ≠ .ident) = true := by simp [hk]
  have hdrive := State.computeDrive_of_target (s := s.excited x (some s.clock))
    (p := s.target x.path (s.uncapped w x.band x.emission t.power)) rfl (by
      have ht : (s.excited x (some s.clock)).turn = some t := ht
      simp only [State.txTarget, hk, ht]
      rfl)
  rw [State.enterExciting_eq hx]
  simp only [hm, if_true, hdrive, State.excited_driving]
  generalize hu : (State.driving x _ _).airing = u
  have hcount : u.startedCount = t.txCount := by
    have hturn : u.turn = some t := by rw [← hu]; exact ht
    have hmember : u.memberTx = true := by rw [← hu]; simp [State.memberTx, State.airing, State.driving, State.excited, State.markOwed, hc, hk]
    simp [State.startedCount, hturn, hmember]
  rw [hcount, hk]

/-- The holder's transmission is on the air. -/
theorem State.enterExciting_onAir (hx : s.seq.tx = some x) (ht : s.turn = some t) (hk : x.kind = .member t.holder)
    (hc : x.current = true) : s.onAirAs s.enterExciting t.holder t x := by
  have hfixed := ((State.Evolves.refl s).enterExciting).fixed
  rw [State.enterExciting_member hx ht hk hc] at hfixed ⊢
  refine ⟨rfl, rfl, rfl, rfl, rfl, State.raised_of_grows (.refl _) (by omega) (.refl _), rfl, rfl, ?_, ?_, ?_, ?_, hfixed⟩
  all_goals simp only [State.syncKey_arb, State.syncKey_amg, State.syncKey_prt, State.syncKey_acu, State.raise_arb,
    State.raise_amg, State.raise_prt, State.raise_acu, State.airing, State.markOwed, State.driving, State.excited]

/-- It unsettles nothing. -/
theorem State.settled_onAir {w : SlotId} {u : State} (hx : s.seq.tx = some x) (ht : s.turn = some t)
    (hgap : zeroLength s.arb.gap = false) (hidle : t.idleStart.isSome = s.idleMayRun t) (hquiet : s.idu.quiet = none)
    (h : s.onAirAs u w t x) : u.settled := by
  obtain ⟨hseq, -, -, -, -, -, -, hidu, harb, -, -, -, -⟩ := h
  have hturn : u.turn = some t := by rw [State.turn, harb]; exact ht
  have hmember : u.memberTx = s.memberTx := by simp only [State.memberTx, hseq, hx]
  refine (State.settled_in_turn hturn).mpr ⟨⟨by rw [harb]; exact hgap, by rw [hseq]; rfl⟩, ?_, ?_⟩
  · rw [hidle, State.idleMayRun, State.idleMayRun, hmember]
  · rw [← hquiet, ← hidu]

/-- The identification is on the air: IDU keys the first element (R158, R159). -/
theorem State.enterExciting_ident {y : Cycle} (hx : s.seq.tx = some x) (hk : x.kind = .ident)
    (hy : s.idu.context = some y) : s.enterExciting =
      (State.raise (.txStarted .ident x.band x.emission x.path 0)
        ((s.excited x none).driving x (s.target x.path (s.idUncapped x.band y.power)))).beginSending.syncKey := by
  have hm : decide (x.kind ≠ .ident) = false := by simp [hk]
  have hdrive := State.computeDrive_of_target (s := s.excited x none)
    (p := s.target x.path (s.idUncapped x.band y.power)) rfl (by
      have hy : (s.excited x none).idu.context = some y := hy
      simp only [State.txTarget, hk, hy]
      rfl)
  rw [State.enterExciting_eq hx]
  simp only [hm, Bool.false_eq_true, if_false, hdrive, State.excited_driving]
  generalize hu : State.driving x _ _ = u
  have hcount : u.startedCount = 0 := by
    have hmember : u.memberTx = false := by rw [← hu]; simp [State.memberTx, State.driving, State.excited, hk]
    unfold State.startedCount
    split
    · rw [hmember]
      rfl
    · rfl
  rw [hcount, hk]

theorem State.beginSending_eq {y : Cycle} (hy : s.idu.context = some y) : s.beginSending = { s with idu := { s.idu with
    cycle := .sending, context := some { y with todo := message y.callsign, entered := true }
    element := some ⟨s.clock, (((message y.callsign).head?.map (·.units)).getD 0) * (1200 / y.speed)⟩ } } := by
  rw [State.beginSending, hy]
  rfl

theorem State.enterExciting_identOnAir {y : Cycle} (hx : s.seq.tx = some x) (hk : x.kind = .ident)
    (hy : s.idu.context = some y) : s.identOnAirAs s.enterExciting x y := by
  have hfixed := ((State.Evolves.refl s).enterExciting).fixed
  rw [State.enterExciting_ident hx hk hy, State.beginSending_eq (by exact hy)] at hfixed ⊢
  refine ⟨rfl, rfl, rfl, rfl, ?_, rfl, rfl, rfl, rfl, rfl, hfixed⟩
  exact State.raised_of_grows (.refl _) (by omega) (.refl _)

theorem State.settled_identOnAir {y : Cycle} {u : State} (hx : s.seq.tx = some x) (hs : s.idu.cycle = .starting)
    (hset : s.settled) (h : s.identOnAirAs u x y) : u.settled := by
  obtain ⟨hseq, -, -, hidu, -, -, harb, -, -, -, -⟩ := h
  obtain ⟨⟨-, hgap, -⟩, hidle, hquiet⟩ := State.settled_iff.mp hset
  have hcycle : u.idu.cycle = .sending := by rw [hidu]
  have hrun : s.quietMayRun = false := by simp [State.quietMayRun, hs]
  have hmember : u.memberTx = s.memberTx := by simp only [State.memberTx, hseq, hx]
  refine State.settled_iff.mpr ⟨⟨by simp [State.idTurnOpen, hcycle], by rw [harb]; exact hgap, by rw [hseq]; rfl⟩,
    fun t ht => ?_, ?_⟩
  · rw [State.idleMayRun, hmember]
    exact hidle t (by rw [← ht, State.turn, State.turn, harb])
  · rw [hidu, hquiet, hrun]
    simp [State.quietMayRun, hcycle]

end Exciting

/-! ### The waits on the way up (R58, R59) -/

section Arming

variable {s : State} {t : Turn} {x : Tx} {y : Cycle}

theorem State.advance_armRelay (h : s.seq.state = .armRelay) : s.advance = s.enterArmAmp := by
  unfold State.advance; rw [h]

theorem State.advance_armAmp (h : s.seq.state = .armAmp) : s.advance = s.enterExciting := by
  unfold State.advance; rw [h]

/-- SEQ in ARM_AMP with its wait over. -/
def State.armed (s : State) : State := { s with seq := { s.seq with state := .armAmp, step := none } }

/-- On the AMPLIFIED path with the amplifier ON the amp-on wait runs. -/
theorem State.relayOn_arms (hs : s.seq.state = .armRelay) (hx : s.seq.tx = some x) (hp : x.path = .amplified)
    (ha : s.amg.state = .on) (hon : s.seq.active.ampOn ≠ 0) (hset : s.settled) :
    s.waited.advance.settle = { s with seq := { s.seq with
      state := .armAmp, ampkey := true, step := some ⟨s.clock, s.seq.active.ampOn⟩ } } := by
  have hamp : s.armed.amplifiedTx = true := by simp [State.amplifiedTx, State.armed, hx, hp]
  have hadv : s.waited.advance = { s with seq := { s.seq with
      state := .armAmp, ampkey := true, step := some ⟨s.clock, s.seq.active.ampOn⟩ } } := by
    rw [State.advance_armRelay (s := s.waited) hs]
    exact (if_pos hamp).trans (if_pos ha)
  rw [hadv]
  exact State.settle_eq_self (State.settled_waits (s := s) hset rfl rfl (decide_eq_false hon))

/-- On the BAREFOOT path ARM_AMP takes no time: the transmission is on the air. -/
theorem State.relayOn_excites (hs : s.seq.state = .armRelay) (hx : s.seq.tx = some x) (hp : x.path = .barefoot)
    (hset : s.settled) (hon : s.armed.enterExciting.settled) : s.waited.advance.settle = s.armed.enterExciting := by
  obtain ⟨⟨hdue, hgap, -⟩, -⟩ := State.settled_iff.mp hset
  have hamp : s.armed.amplifiedTx = false := by simp [State.amplifiedTx, State.armed, hx, hp]
  have hadv : s.waited.advance = s.armed.startStep 0 := by
    rw [State.advance_armRelay (s := s.waited) hs]
    exact if_neg (Bool.eq_false_iff.mp hamp)
  rw [hadv]
  refine State.settle_once ?_ hon
  exact (if_neg hdue).trans ((if_neg (Bool.eq_false_iff.mp hgap)).trans
    ((if_pos rfl).trans (congrArg some (State.advance_armAmp (s := s.armed) rfl))))

theorem State.ampOn_excites (hs : s.seq.state = .armAmp) (hon : s.armed.enterExciting.settled) :
    s.waited.advance.settle = s.armed.enterExciting := by
  have hw : s.waited = s.armed := by rw [State.waited, State.armed, ← hs]
  rw [hw, State.advance_armAmp rfl, State.settle_eq_self hon]

/-- The holder's transmission goes on the air from ARM_AMP. -/
theorem State.armed_onAir (hx : s.seq.tx = some x) (ht : s.turn = some t) (hk : x.kind = .member t.holder)
    (hc : x.current = true) (hset : s.settled) :
    s.armed.enterExciting.settled ∧ s.onAirAs s.armed.enterExciting t.holder t x := by
  have h : s.onAirAs s.armed.enterExciting t.holder t x := State.enterExciting_onAir (s := s.armed) hx ht hk hc
  obtain ⟨⟨hgap, -⟩, hidle, hquiet⟩ := (State.settled_in_turn ht).mp hset
  exact ⟨State.settled_onAir hx ht hgap hidle hquiet h, h⟩

/-- The identification goes on the air from ARM_AMP. -/
theorem State.armed_identOnAir (hx : s.seq.tx = some x) (hk : x.kind = .ident) (hs : s.idu.cycle = .starting)
    (hy : s.idu.context = some y) (hset : s.settled) :
    s.armed.enterExciting.settled ∧ s.identOnAirAs s.armed.enterExciting x y := by
  have h : s.identOnAirAs s.armed.enterExciting x y := State.enterExciting_identOnAir (s := s.armed) hx hk hy
  exact ⟨State.settled_identOnAir hx hs hset h, h⟩

theorem State.relayOnExpiry_answers {tm : Timer} (hr : s.rst = false) (hx : s.seq.state = .armRelay)
    (hs : s.seq.step = some tm) :
    exec .relayOnExpiry s = .next (s.bringTo tm.due).waited.advance.settle :=
  congrArg Host.Outcome.next (State.stepExpiry_taken hr hx nofun hs)

theorem State.ampOnExpiry_answers {tm : Timer} (hr : s.rst = false) (hx : s.seq.state = .armAmp)
    (hs : s.seq.step = some tm) :
    exec .ampOnExpiry s = .next (s.bringTo tm.due).waited.advance.settle :=
  congrArg Host.Outcome.next (State.stepExpiry_taken hr hx nofun hs)

end Arming

end Sys2Proof.Machine
end

section
/-! The arming that the amplifier's loss abandons, and the way up as a whole (O53). -/

namespace Sys2Proof.Machine

set_option Elab.async false

section Drop

variable {h s : State} {x : Tx}

/-- IDU abandons a cycle: only ACU and IDU go on (R161). -/
theorem State.abandonCycle_frame (s : State) :
    s.abandonCycle = { s with idu := s.abandonCycle.idu, acu := s.abandonCycle.acu } := by
  unfold State.abandonCycle
  split
  · rw [State.writeRecord_eq]
  · rfl

theorem State.Aside.abandonCycle (e : h.Aside s) : h.Aside s.abandonCycle := by
  have ev := (State.Evolves.refl s).abandonCycle
  rw [s.abandonCycle_frame] at ev ⊢
  exact e.same ev

theorem State.Aside.beginCycle (e : h.Aside s) (c : CycleHome) (hq : s.seq.state ≠ .quiet) : h.Aside (s.beginCycle c) := by
  rw [State.beginCycle_of_busy c hq]
  exact e.same (.same (.refl _))

theorem State.Aside.dropAbandons (e : h.Aside s) (hq : s.seq.state ≠ .quiet) : h.Aside s.dropAbandons := by
  unfold State.dropAbandons
  split
  · split
    · exact e.abandonCycle.beginCycle _ (by rw [((State.Aside.refl s).abandonCycle).seq]; exact hq)
    · exact e
  · exact e

/-- ARB and IDU are told of an abandoned arming. -/
theorem State.Aside.tellExit (e : h.Aside s) (c : TxEndCause) (hq : s.seq.state ≠ .quiet) : h.Aside (s.tellExit c false) := by
  unfold State.tellExit
  split
  · rw [Bool.false_and, Bool.false_and, if_neg nofun]
    split
    · exact e.claimPause hq
    · exact e
  · split
    · exact e.dropAbandons hq
    · exact e

/-- It finds IDU's cycle as it was, or begins one. -/
theorem State.tellExit_cycle (c : TxEndCause) (hq : s.seq.state ≠ .quiet) :
    (s.tellExit c false).idu.cycle = s.idu.cycle ∨ (s.tellExit c false).idu.cycle = .starting := by
  have begins {u : State} (b : CycleHome) (hu : u.seq.state ≠ .quiet) : (u.beginCycle b).idu.cycle = .starting := by
    rw [State.beginCycle_of_busy b hu]
  unfold State.tellExit
  split
  · rw [Bool.false_and, Bool.false_and, if_neg nofun]
    split
    · unfold State.claimPause
      dsimp only
      split
      · exact .inr (begins _ (by rw [(s.modTurn_frame _).1]; exact hq))
      · exact .inl (by rw [(s.modTurn_frame _).1]; rfl)
    · exact .inl rfl
  · split
    · unfold State.dropAbandons
      split
      · split
        · exact .inr (begins _ (by rw [s.abandonCycle_frame]; exact hq))
        · exact .inl rfl
      · exact .inl rfl
    · exact .inl rfl

/-- Where no identification could take the transmitter, none can after what a turn and its claim live through. -/
theorem State.Lasts.not_open (e : h.Lasts s) (hb : s.seq.currentBand = h.seq.currentBand)
    (hc : s.idu.cycle = h.idu.cycle ∨ s.idu.cycle = .starting) (hopen : ¬(h.idu.due = true ∧ h.idTurnOpen = true)) :
    ¬(s.idu.due = true ∧ s.idTurnOpen = true) := by
  rintro ⟨hdue, ho⟩
  simp only [State.idTurnOpen, Bool.and_eq_true, decide_eq_true_eq] at ho
  obtain ⟨⟨⟨harb, hr⟩, hband⟩, hidle⟩ := ho
  have hturn : h.turn = none := by
    have := e.holder
    rw [State.holder, State.holder, show s.turn = none by rcases harb with k | k <;> simp [State.turn, k]] at this
    simpa using this.symm
  rw [e.arbiter hturn] at harb
  have hcycle : h.idu.cycle = .idle := by
    rcases hc with hc | hc
    · rw [← hc, hidle]
    · rw [hc] at hidle
      cases hidle
  refine hopen ⟨e.due.symm.trans hdue, ?_⟩
  rw [State.ready, e.prt] at hr
  simp [State.idTurnOpen, harb, State.ready, of_decide_eq_true hr, ← hb, hband, hcycle]

/-- Before the cut decides, the demand and the pending start are gone. -/
theorem State.beforeCut_frame (c : CutCause) (s : State) : ∃ k, s.beforeCut c =
    { s.setArbiter s.clearPending.arb.arbiter with seq := { s.seq with pttDemand := false }, ktl := k } := by
  obtain ⟨g, hg⟩ : ∃ g, g = State.setArbiter s.clearPending.arb.arbiter { s with seq := { s.seq with pttDemand := false } } :=
    ⟨_, rfl⟩
  have hclear : { s.clearPending with seq := { s.clearPending.seq with pttDemand := false } } = g := by
    rw [hg, State.clearPending, (s.modTurn_frame _).1]
    rfl
  refine ⟨(g.cutFlush c).ktl, ?_⟩
  have hflush : g.cutFlush c = { g with ktl := (g.cutFlush c).ktl } := by
    unfold State.cutFlush
    split
    · split <;> rfl
    · rfl
  rw [State.beforeCut, hclear, hflush, hg]
  rfl

theorem State.disarm_of_relay (h : s.seq.ampkey = false) : s.disarm = s.enterDisarmRelay := if_neg (by rw [h]; nofun)

/-- An arming abandoned in ARM_AMP before AMPKEY was asserted. -/
theorem State.abandonArming_relay (h : s.seq.ampkey = false) (c : TxEndCause) : s.abandonArming c = { s with
    seq := { s.seq with
      state := .disarmRelay, trr := false, idm := false, step := some ⟨s.clock, s.seq.active.relayOff⟩
      tx := s.seq.tx.map fun x => { x with endCause := some c }, pttDemand := s.seq.pttDemand && keepsPtt c } } := by
  rw [State.abandonArming, State.disarm_of_relay (by exact h)]
  rfl

/-- What the loss of the amplifier leaves of an arming whose relays have settled (R59, R62). -/
structure State.Dropped (h t : State) (x : Tx) : Prop where
  seq : t.seq = { h.seq with
    state := .disarmRelay, trr := false, idm := false, step := some ⟨h.clock, h.seq.active.relayOff⟩
    tx := some { x with endCause := some .ampDrop }, pttDemand := false }
  holder : t.holder = h.holder
  drv : t.drv = h.drv
  amg : t.amg = h.amg
  msr : t.msr = h.msr
  fixed : t.fixed = h.fixed

theorem State.relayOn_drops (hs : s.seq.state = .armRelay) (hx : s.seq.tx = some x) (hp : x.path = .amplified)
    (ha : s.amg.state ≠ .on) (hk : s.seq.ampkey = false) (hoff : s.seq.active.relayOff ≠ 0) (hset : s.settled) :
    s.Dropped s.waited.advance.settle x := by
  obtain ⟨⟨hdue, hgap, -⟩, -⟩ := State.settled_iff.mp hset
  have hfixed := (s.waited_evolves).fixed
  have hamp : s.armed.amplifiedTx = true := by simp [State.amplifiedTx, State.armed, hx, hp]
  have hadv : s.waited.advance = s.armed.cut .ampDrop := by
    rw [State.advance_armRelay (s := s.waited) hs]
    exact (if_pos hamp).trans (if_neg ha)
  obtain ⟨k, hb⟩ := s.armed.beforeCut_frame .ampDrop
  have hcut : s.armed.cut .ampDrop =
      ((s.armed.beforeCut .ampDrop).abandonArming .ampDrop).tellExit .ampDrop false := by
    rw [State.cut_eq, show (s.armed.beforeCut .ampDrop).seq.state = .armAmp by rw [hb]; rfl]
    rfl
  rw [hb, State.abandonArming_relay (by exact hk)] at hcut
  have hlasts : s.Lasts (s.armed.cut .ampDrop) :=
    ((State.Lasts.refl s).same (t := s.armed)).cut .ampDrop nofun
  rw [hadv] at hfixed ⊢
  generalize hv : ({ State.setArbiter _ s.armed with seq := _, ktl := k } : State) = v at hcut
  have haside := (State.Aside.refl v).tellExit .ampDrop (by rw [← hv]; nofun)
  have hcycle := v.tellExit_cycle .ampDrop (by rw [← hv]; nofun)
  rw [← hcut] at haside hcycle
  have hvseq : v.seq = { s.seq with
      state := .disarmRelay, trr := false, idm := false, step := some ⟨s.clock, s.seq.active.relayOff⟩
      tx := some { x with endCause := some .ampDrop }, pttDemand := false } := by
    rw [← hv]
    simp [State.armed, hx]
  have hvsame : v.idu.cycle = s.idu.cycle ∧ v.drv = s.drv ∧ v.amg = s.amg ∧ v.msr = s.msr := by
    rw [← hv]
    exact ⟨rfl, rfl, rfl, rfl⟩
  obtain ⟨hvcycle, hvdrv, hvamg, hvmsr⟩ := hvsame
  rw [hvcycle] at hcycle
  clear hv hcut hb hadv
  generalize s.armed.cut .ampDrop = u at *
  have hseq := haside.seq.trans hvseq
  obtain ⟨hframe, hrest⟩ := State.settle_busy (s := u) (by rw [hseq]; nofun)
    ⟨by rw [hlasts.gap]; exact hgap, by rw [hseq]; exact decide_eq_false hoff⟩
  obtain ⟨hholder, -⟩ := hrest (hlasts.not_open (by rw [hseq]) hcycle hdue)
  refine ⟨(congrArg State.seq hframe).trans hseq, hholder.trans hlasts.holder,
    (congrArg State.drv hframe).trans (haside.drv.trans hvdrv), (congrArg State.amg hframe).trans (haside.amg.trans hvamg),
    (congrArg State.msr hframe).trans (haside.msr.trans hvmsr), hfixed⟩

end Drop

/-- Settles O53. -/
theorem theSequencerArms : Obligations.TheSequencerArms := by
  refine ⟨fun tm x s => ?_, fun tm x s => ?_, fun tm x w tn s => ?_, fun tm x w tn s => ?_, fun tm x y s => ?_,
    fun tm x y s => ?_⟩
  · intro h hr hs hw hx hp ha hon hset
    rw [State.relayOnExpiry_answers hr hs hw]
    exact congrArg Host.Outcome.next (State.relayOn_arms (s := h) (by simpa [h] using hs) (by simpa [h] using hx) hp
      (by simpa [h] using ha) (by simpa [h] using hon) (State.settled_bringTo _ hset))
  · intro h hr hs hw hx hp ha hk hoff hset
    have d := State.relayOn_drops (s := h) (by simpa [h] using hs) (by simpa [h] using hx) hp
      (by simpa [h] using ha) (by simpa [h] using hk) (by simpa [h] using hoff) (State.settled_bringTo _ hset)
    refine ⟨_, State.relayOnExpiry_answers hr hs hw, ?_⟩
    rw [show s.bringTo tm.due = h from rfl]
    obtain ⟨hseq, hholder, hdrv, hamg, hmsr, hfixed⟩ := d
    generalize h.waited.advance.settle = t at *
    rw [hseq]
    refine ⟨rfl, rfl, rfl, by simpa [h] using hk, rfl, by simp [hp], rfl, hholder, hdrv, hamg, hmsr, hfixed⟩
  · intro h hr hs hw hx hp ht htw hk hc hset
    subst htw
    obtain ⟨hon, hair⟩ := State.armed_onAir (s := h) (by simpa [h] using hx) (by simpa [h] using ht) hk hc
      (State.settled_bringTo _ hset)
    refine ⟨_, State.relayOnExpiry_answers hr hs hw, ?_⟩
    rw [show s.bringTo tm.due = h from rfl, State.relayOn_excites (by simpa [h] using hs) (by simpa [h] using hx) hp
      (State.settled_bringTo _ hset) hon]
    exact hair
  · intro h hr hs hw hx ht htw hk hc hset
    subst htw
    obtain ⟨hon, hair⟩ := State.armed_onAir (s := h) (by simpa [h] using hx) (by simpa [h] using ht) hk hc
      (State.settled_bringTo _ hset)
    refine ⟨_, State.ampOnExpiry_answers hr hs hw, ?_⟩
    rw [show s.bringTo tm.due = h from rfl, State.ampOn_excites (by simpa [h] using hs) hon]
    exact hair
  · intro h hr hs hw hx hp hk hi hy hset
    obtain ⟨hon, hair⟩ := State.armed_identOnAir (s := h) (by simpa [h] using hx) hk (by simpa [h] using hi)
      (by simpa [h] using hy) (State.settled_bringTo _ hset)
    refine ⟨_, State.relayOnExpiry_answers hr hs hw, ?_⟩
    rw [show s.bringTo tm.due = h from rfl, State.relayOn_excites (by simpa [h] using hs) (by simpa [h] using hx) hp
      (State.settled_bringTo _ hset) hon]
    exact hair
  · intro h hr hs hw hx hk hi hy hset
    obtain ⟨hon, hair⟩ := State.armed_identOnAir (s := h) (by simpa [h] using hx) hk (by simpa [h] using hi)
      (by simpa [h] using hy) (State.settled_bringTo _ hset)
    refine ⟨_, State.ampOnExpiry_answers hr hs hw, ?_⟩
    rw [show s.bringTo tm.due = h from rfl, State.ampOn_excites (by simpa [h] using hs) hon]
    exact hair

end Sys2Proof.Machine
end

section
/-! PttOn and LOCAL_PTT (O45). -/

namespace Sys2Proof.Machine

set_option Elab.async false

/-! ### A member start and its outcome (R53, R56) -/

section Start

variable {s : State} {t : Turn} {x : Tx}

theorem State.takeStart_eq (ht : s.turn = some t) : s.takeStart = { s with
    seq := { s.seq with
      state := .armRelay, trr := true, idm := false, step := some ⟨s.clock, s.seq.active.relayOn⟩
      tx := some ⟨.member t.holder, t.band, t.emission,
        s.choosePath (s.uncapped t.holder t.band t.emission t.power), 0, 0, none, none, true⟩ }
    arb := { s.arb with arbiter := .turn t.started }, amg := { s.amg with idle := none } } := by
  obtain ⟨u, hu⟩ : ∃ u : State, u = { s with seq := { s.seq with tx := some ⟨.member t.holder, t.band, t.emission,
    s.choosePath (s.uncapped t.holder t.band t.emission t.power), 0, 0, none, none, true⟩ } } := ⟨_, rfl⟩
  have hturn : u.turn = some t := by rw [hu]; exact ht
  have hstart : s.takeStart = (u.setArbiter (.turn t.started)).enterArmRelay := by
    rw [State.takeStart, ht, ← show u.modTurn _ = _ from State.modTurn_of_turn Turn.started hturn, hu]
    rfl
  rw [hstart, hu]
  rfl

theorem State.settled_takeStart (ht : s.turn = some t) (hon : s.seq.active.relayOn ≠ 0) (hset : s.settled) :
    s.takeStart.settled := by
  obtain ⟨⟨hgap, -⟩, -, hquiet⟩ := (State.settled_in_turn ht).mp hset
  rw [State.takeStart_eq ht]
  exact (State.settled_in_turn rfl).mpr ⟨⟨hgap, decide_eq_false hon⟩,
    by simp [State.idleMayRun, State.memberTx, Turn.started], hquiet⟩

/-- A turn whose start is pending is settled. -/
theorem State.settled_pended (ht : s.turn = some t) (hset : s.settled) : (s.setArbiter (.turn t.pended)).settled := by
  obtain ⟨hz, -, hquiet⟩ := (State.settled_in_turn ht).mp hset
  exact (State.settled_in_turn (t := t.pended) rfl).mpr ⟨hz, by simp [State.idleMayRun, Turn.pended], hquiet⟩

theorem State.memberStart_started (ht : s.turn = some t) (hp : t.sub = .active) (hq : s.seq.state = .quiet)
    (hr : s.ready = true) : s.memberStart = (s.takeStart, .started) := by
  simp [State.memberStart, ht, hq, hp, hr]

/-- The holder's transmission is armed or on the air. -/
theorem State.memberStart_already (ht : s.turn = some t) (hr : s.running = true) : s.memberStart = (s, .already) := by
  simp only [State.running, State.arming, Bool.and_eq_true, Bool.or_eq_true, decide_eq_true_eq] at hr
  obtain ⟨hm, hs⟩ := hr
  rcases hs with (hs | hs) | hs <;> simp [State.memberStart, ht, hs, hm]

/-- Where a start can only be pending (R56): SEQ waits below the air, the turn is not ACTIVE in QUIET, another
transmission is in SEQ, or the one that drains cannot return. -/
def State.Pends (t : Turn) (s : State) : Prop :=
  s.seq.state = .retune ∨ s.seq.state = .disarmAmp ∨ s.seq.state = .disarmRelay ∨ (s.seq.state = .quiet ∧ t.sub ≠ .active) ∨
    ((s.seq.state = .armRelay ∨ s.seq.state = .armAmp ∨ s.seq.state = .exciting) ∧ s.memberTx = false) ∨
    (s.seq.state = .drain ∧ (t.sub ≠ .active ∨ ∀ x, s.seq.tx = some x →
      x.kind = .ident ∨ x.current = false ∨ (x.path = .amplified ∧ s.amg.state ≠ .on)))

theorem State.canReturn_eq_false (h : ∀ x, s.seq.tx = some x →
    x.kind = .ident ∨ x.current = false ∨ (x.path = .amplified ∧ s.amg.state ≠ .on)) : s.canReturn = false := by
  cases hx : s.seq.tx with
  | none => simp [State.canReturn, State.memberTx, hx]
  | some x =>
    rcases h x hx with h | h | h <;> simp [State.canReturn, State.memberTx, State.amplifiedTx, hx, h]

theorem State.memberStart_pending (ht : s.turn = some t) (h : s.Pends t) :
    s.memberStart = (s.setArbiter (.turn t.pended), .pending) := by
  have hpending : s.setPending = s.setArbiter (.turn t.pended) := State.modTurn_of_turn _ ht
  rw [← hpending]
  unfold State.memberStart
  rw [ht]
  rcases h with h | h | h | ⟨h, hp⟩ | ⟨h, hm⟩ | ⟨h, hp⟩
  · simp [h]
  · simp [h]
  · simp [h]
  · simp [h, hp]
  · rcases h with h | h | h <;> simp [h, hm]
  · have hno : ¬(t.sub = .active ∧ s.canReturn = true) := fun c => by
      rcases hp with hp | hp
      · exact hp c.1
      · exact absurd c.2 (by rw [State.canReturn_eq_false hp]; nofun)
    simp only [h, if_neg hno]

/-- The turn that counts one more transmission. -/
def Turn.counted (t : Turn) : Turn := { t with txCount := countUp max16 t.txCount }

/-- The turn's own transmission returns from DRAIN. -/
theorem State.memberStart_returns (ht : s.turn = some t) (ha : t.sub = .active) (hq : s.seq.state = .drain)
    (hr : s.ready = true) (hx : s.seq.tx = some x) (hk : x.kind ≠ .ident) (hc : x.current = true)
    (hp : x.path = .barefoot ∨ s.amg.state = .on) :
    s.memberStart = ((s.setArbiter (.turn t.counted)).enterExciting, .started) := by
  have hcan : s.canReturn = true := by
    rcases hp with hp | hp <;> simp [State.canReturn, State.memberTx, State.amplifiedTx, hx, hk, hc, hr, hp]
  have hmod : s.returnToExciting = (s.setArbiter (.turn t.counted)).enterExciting :=
    congrArg State.enterExciting (State.modTurn_of_turn _ ht)
  simp [State.memberStart, ht, hq, ha, hcan, hmod]

theorem State.return_onAir (ht : s.turn = some t) (hx : s.seq.tx = some x) (hk : x.kind = .member t.holder)
    (hc : x.current = true) (hset : s.settled) :
    (s.setArbiter (.turn t.counted)).enterExciting.settled ∧
      (s.setArbiter (.turn t.counted)).onAirAs (s.setArbiter (.turn t.counted)).enterExciting t.holder t.counted x := by
  have h : (s.setArbiter (.turn t.counted)).onAirAs (s.setArbiter (.turn t.counted)).enterExciting t.holder t.counted x :=
    State.enterExciting_onAir (s := s.setArbiter (.turn t.counted)) (t := t.counted) hx rfl hk hc
  obtain ⟨⟨hgap, -⟩, hidle, hquiet⟩ := (State.settled_in_turn ht).mp hset
  exact ⟨State.settled_onAir (s := s.setArbiter (.turn t.counted)) (t := t.counted) hx rfl hgap hidle hquiet h, h⟩

end Start

/-! ### PttOn (R54) -/

section PttOn

variable {s : State} {t : Turn} {w : SlotId} {tag : Nat}

theorem exec_pttOn (hc : s.closed = false) (hn : s.tenthsDue = 0) (hv : s.tenancy w ≠ .vacant) :
    exec (.pttOn tag w.val) s = .next ((State.pttOn w (s.heard (.slot w))).reply 0x24 tag) :=
  congrArg Host.Outcome.next (State.takeOwn_taken hc hn hv)

/-- The PTT demand is set. -/
def State.demanded (s : State) : State := { s with seq := { s.seq with pttDemand := true } }

theorem State.settled_demanded (h : s.settled) : s.demanded.settled := by
  have key := State.settled_iff.mp h
  exact State.settled_iff.mpr key

theorem State.pttOn_of_holder (ht : s.turn = some t) (hw : t.holder = w) (he : t.emission ≠ .cw) (hr : s.ready = true) :
    s.pttOn w = ⟨s.demanded.memberStart.1.settle, .ok, .ptt s.demanded.memberStart.2⟩ := by
  have hof : s.turnOf w = some t := by simp [State.turnOf, ht, hw]
  simp only [State.pttOn, hof, he, hr, if_false, Bool.true_eq_false]
  rfl

theorem State.pttOn_refused (ht : s.turn = some t) (hw : t.holder = w) (h : t.emission = .cw ∨ s.ready = false) :
    s.pttOn w = refuse (if t.emission = .cw then .wrongState else .held) s := by
  have hof : s.turnOf w = some t := by simp [State.turnOf, ht, hw]
  simp only [State.pttOn, hof]
  by_cases he : t.emission = .cw
  · simp [he]
  · simp [he, h.resolve_left he]

theorem State.pttOn_of_other (hh : s.holder ≠ some w) : s.pttOn w = refuse .wrongState s := by
  have hof : s.turnOf w = none := by
    unfold State.turnOf
    split
    · exact if_neg fun k => hh (by rw [State.holder_of_turn ‹_›, k])
    · rfl
  simp only [State.pttOn, hof]

/-- A reply changes nothing that is said of a transmission on the air. -/
theorem State.onAirAs.reply {kind : Nat} {h : State} {x : Tx} {p : Handled} (e : h.onAirAs p.state w t x) :
    h.onAirAs (p.reply kind tag) w t x := e

end PttOn

/-! ### LOCAL_PTT (R45, R55) -/

section LocalPtt

variable {s : State} {t : Turn} {i : InputId} {y : Input}

theorem State.debounced_presses_ptt (hy : s.inr.inputs.read i = y) (hf : y.function = .localPtt) (hl : y.trigger = .level)
    (hs : s.functionActive .localPtt = false) (ha : y.taken.active = true) (ht : s.turn = some t) (hw : t.holder = 0)
    (he : t.emission ≠ .cw) : s.debounced i =
      if s.ready then (s.setInputOf i y.taken).memberStart.1 else s.setInputOf i y.taken := by
  have hafter : (s.setInputOf i y.taken).functionActive .localPtt = true := State.functionActive_rises hf hl ha
  have hphone : (s.setInputOf i y.taken).localPhone = true := by
    have ht' : (s.setInputOf i y.taken).turn = some t := ht
    simp [State.localPhone, ht', hw, he]
  have hr : (s.setInputOf i y.taken).ready = s.ready := rfl
  rw [State.debounced_eq hy (.inl hl), hf]
  simp [State.deliver, State.reading, hs, hafter, State.pttPressed, hphone, hr]

end LocalPtt

end Sys2Proof.Machine
end

section
/-! The starts of member transmissions (O45). -/

namespace Sys2Proof.Machine

set_option Elab.async false

section Congr

variable {s u : State} {t : Turn}

theorem State.Pends.congr (h : s.Pends t) (hs : u.seq.state = s.seq.state) (hx : u.seq.tx = s.seq.tx)
    (ha : u.amg.state = s.amg.state) : u.Pends t := by
  have hm : u.memberTx = s.memberTx := by simp only [State.memberTx, hx]
  rwa [State.Pends, hs, hx, ha, hm]

theorem State.running_congr (hs : u.seq.state = s.seq.state) (hx : u.seq.tx = s.seq.tx) : u.running = s.running := by
  simp only [State.running, State.memberTx, State.arming, hs, hx]

theorem State.heard_amg (a : Actor) (s : State) : (s.heard a).amg = s.amg := by
  obtain ⟨p, h⟩ := s.heard_eq a
  rw [h]
  rfl

/-- LOCAL_PTT becomes active for slot 0's PHONE or DATA turn: a start on a station that is READY (R55). -/
theorem exec_localPtt {i : InputId} {y : Input} {n : Clock} {r : Bool} (hr : s.rst = false)
    (hy : s.inr.inputs.read i = y) (hs : y.since = some n) (hf : y.function = .localPtt) (hl : y.trigger = .level)
    (hfa : s.functionActive .localPtt = false) (ha : y.taken.active = true) (ht : s.turn = some t) (hw : t.holder = 0)
    (he : t.emission ≠ .cw) (hready : s.ready = r) (hn : (s.bringTo (n + BitVec.ofNat 32 y.debounce)).tenthsDue = 0)
    (hu : u = (s.bringTo (n + BitVec.ofNat 32 y.debounce)).setInputOf i y.taken) :
    exec (.debounceExpiry i) s = .next (if r then u.memberStart.1 else u).settle := by
  have hpress := State.debounced_presses_ptt (s := s.bringTo (n + BitVec.ofNat 32 y.debounce)) (by simpa using hy) hf hl
    ((State.functionActive_congr (by simp)).trans hfa) ha ((State.turn_bringTo ..).trans ht) hw he
  rw [exec_debounceExpiry hr hy hs hn, hpress, State.ready_bringTo, hready, hu]

end Congr

/-- Settles O45. -/
theorem pttOnStarts : Obligations.PttOnStarts := by
  refine ⟨fun tag w tn s => ?_, fun tag w tn s => ?_, fun tag w tn s => ?_, fun tag w tn x s => ?_, fun i y n tn s => ?_,
    fun i y n tn s => ?_, fun i y n tn x s => ?_, fun i y n tn s => ?_, fun tag w s => ?_, fun tag w tn s => ?_⟩
  · intro h hc hn hv ht hw he ha hst hq hon hset
    have hh : h.turn = some tn := (State.heard_turn _ s).trans ht
    have hr : h.ready = true := (State.heard_ready _ s).trans (decide_eq_true hst)
    have hset' := State.settled_demanded (State.settled_heard (.slot w) hset)
    have hq' : h.demanded.seq.state = .quiet := (congrArg Seq.state (State.heard_seq _ s)).trans hq
    have hon' : h.demanded.seq.active.relayOn ≠ 0 :=
      (congrArg (·.active.relayOn) (State.heard_seq _ s)).trans_ne hon
    refine ⟨_, exec_pttOn hc hn hv, ?_⟩
    rw [show s.heard (.slot w) = h from rfl, State.pttOn_of_holder hh hw he hr,
      State.memberStart_started (s := h.demanded) hh ha hq' hr,
      State.settle_eq_self (State.settled_takeStart (s := h.demanded) hh hon' hset'),
      State.takeStart_eq (s := h.demanded) hh]
    clear_value h
    subst hw
    exact ⟨rfl, rfl, rfl, rfl, rfl, rfl, rfl, rfl, rfl, rfl, rfl, rfl⟩
  · intro h hc hn hv ht hw he hst hrun hset
    have hh : h.turn = some tn := (State.heard_turn _ s).trans ht
    have hr : h.ready = true := (State.heard_ready _ s).trans (decide_eq_true hst)
    have hrun' : h.demanded.running = true :=
      (State.running_congr (congrArg Seq.state (State.heard_seq _ s)) (congrArg Seq.tx (State.heard_seq _ s))).trans hrun
    rw [exec_pttOn hc hn hv, show s.heard (.slot w) = h from rfl, State.pttOn_of_holder hh hw he hr,
      State.memberStart_already (s := h.demanded) hh hrun',
      State.settle_eq_self (State.settled_demanded (State.settled_heard (.slot w) hset))]
    rfl
  · intro h hc hn hv ht hw he hst hp hset
    have hh : h.turn = some tn := (State.heard_turn _ s).trans ht
    have hr : h.ready = true := (State.heard_ready _ s).trans (decide_eq_true hst)
    have hp' : h.demanded.Pends tn := State.Pends.congr (s := s) hp (by simp [h, State.demanded])
      (by simp [h, State.demanded]) (congrArg Amg.state (State.heard_amg _ s))
    rw [exec_pttOn hc hn hv, show s.heard (.slot w) = h from rfl, State.pttOn_of_holder hh hw he hr,
      State.memberStart_pending (s := h.demanded) hh hp',
      State.settle_eq_self (State.settled_pended (s := h.demanded) hh
        (State.settled_demanded (State.settled_heard (.slot w) hset)))]
    rfl
  · intro h v g hc hn hv ht hw he ha hst hq hx hk hcur hp hset
    subst hw
    have hh : h.turn = some tn := (State.heard_turn _ s).trans ht
    have hr : h.ready = true := (State.heard_ready _ s).trans (decide_eq_true hst)
    have hq' : h.demanded.seq.state = .drain := (congrArg Seq.state (State.heard_seq _ s)).trans hq
    have hx' : h.demanded.seq.tx = some x := (congrArg Seq.tx (State.heard_seq _ s)).trans hx
    have hp' : x.path = .barefoot ∨ h.demanded.amg.state = .on :=
      hp.imp_right (congrArg Amg.state (State.heard_amg _ s)).trans
    obtain ⟨hsettled, hair⟩ := State.return_onAir (s := h.demanded) hh hx' hk hcur
      (State.settled_demanded (State.settled_heard _ hset))
    refine ⟨_, exec_pttOn hc hn hv, ?_⟩
    rw [show s.heard (.slot tn.holder) = h from rfl, State.pttOn_of_holder hh rfl he hr,
      State.memberStart_returns (s := h.demanded) hh ha hq' hr hx' (by rw [hk]; nofun) hcur hp',
      State.settle_eq_self hsettled]
    exact ⟨hair, Handled.replied _ _ _ nofun⟩
  · intro h hr hy hs hf hl hfa hact ht hw he ha hst hq hon hset
    obtain ⟨gturn, gseq, -, gready, gsettled⟩ := State.measured (h := h) rfl i y.taken
    have hn : h.tenthsDue = 0 := State.tenthsDue_of_quiet (by rw [State.bringTo_seq, hq]; nofun)
    refine ⟨_, exec_localPtt hr hy hs hf hl hfa hact ht hw he (decide_eq_true hst) hn rfl, ?_⟩
    rw [if_pos rfl, State.memberStart_takes (gturn.trans ht) ha (by rw [gseq]; exact hq) (gready.trans (decide_eq_true hst)),
      State.settle_eq_self (State.settled_takeStart (gturn.trans ht) (by rw [gseq]; exact hon) (gsettled hset)),
      State.takeStart_eq (gturn.trans ht)]
    clear_value h
    exact ⟨rfl, rfl, rfl, rfl, by rw [← hw]; rfl, rfl, rfl, rfl, rfl, rfl, rfl, rfl, rfl⟩
  · intro h u hr hy hs hf hl hfa hact ht hw he hst hp hset hn
    obtain ⟨gturn, gseq, -, -, gsettled⟩ := State.measured (h := h) rfl i y.taken
    have hp' : (h.setInputOf i y.taken).Pends tn := State.Pends.congr (s := s) hp (by rw [gseq]) (by rw [gseq])
      (congrArg Amg.state (State.bringTo_amg ..))
    rw [exec_localPtt hr hy hs hf hl hfa hact ht hw he (decide_eq_true hst) hn rfl, if_pos rfl,
      State.memberStart_pending (gturn.trans ht) hp',
      State.settle_eq_self (State.settled_pended (gturn.trans ht) (gsettled hset))]
    rfl
  · intro h u v g hr hy hs hf hl hfa hact ht hw he ha hst hq hx hk hcur hp hset
    obtain ⟨gturn, gseq, -, gready, gsettled⟩ := State.measured (h := h) rfl i y.taken
    have hn : h.tenthsDue = 0 := State.tenthsDue_of_quiet (by rw [State.bringTo_seq, hq]; nofun)
    have hp' : x.path = .barefoot ∨ (h.setInputOf i y.taken).amg.state = .on :=
      hp.imp_right (congrArg Amg.state (State.bringTo_amg ..)).trans
    have hx' : (h.setInputOf i y.taken).seq.tx = some x := by rw [gseq]; exact hx
    obtain ⟨hsettled, hair⟩ := State.return_onAir (gturn.trans ht) hx' (by rw [hk, hw]) hcur (gsettled hset)
    refine ⟨_, exec_localPtt hr hy hs hf hl hfa hact ht hw he (decide_eq_true hst) hn rfl, ?_⟩
    rw [if_pos rfl, State.memberStart_returns (gturn.trans ht) ha (by rw [gseq]; exact hq)
      (gready.trans (decide_eq_true hst)) hx' (by rw [hk]; nofun) hcur hp', State.settle_eq_self hsettled]
    rw [hw] at hair
    exact hair
  · intro h u hr hy hs hf hl hfa hact ht hw he hor hset hn
    obtain ⟨gturn, gseq, -, -, gsettled⟩ := State.measured (h := h) rfl i y.taken
    by_cases hst : s.prt.station = .ready
    · have hrun : (h.setInputOf i y.taken).running = true :=
        (State.running_congr (by rw [gseq]) (by rw [gseq])).trans (hor.resolve_left (not_not_intro hst))
      rw [exec_localPtt hr hy hs hf hl hfa hact ht hw he (decide_eq_true hst) hn rfl, if_pos rfl,
        State.memberStart_already (gturn.trans ht) hrun, State.settle_eq_self (gsettled hset)]
      rfl
    · rw [exec_localPtt hr hy hs hf hl hfa hact ht hw he (decide_eq_false hst) hn rfl, if_neg nofun,
        State.settle_eq_self (gsettled hset)]
      rfl
  · intro h hc hn hv hh
    rw [exec_pttOn hc hn hv, show s.heard (.slot w) = h from rfl,
      State.pttOn_of_other (by rw [State.heard_holder]; exact hh)]
    rfl
  · intro h hc hn hv ht hw hor
    have hh : h.turn = some tn := (State.heard_turn _ s).trans ht
    have hor' : tn.emission = .cw ∨ h.ready = false :=
      hor.imp_right fun k => (State.heard_ready _ s).trans (decide_eq_false k)
    rw [exec_pttOn hc hn hv, show s.heard (.slot w) = h from rfl, State.pttOn_refused hh hw hor']
    rfl

end Sys2Proof.Machine
end

section
/-! The interval, the quiet timer and the deadline of an identification (R154 to R157). -/

namespace Sys2Proof.Machine

set_option Elab.async false

section Interval

variable {s : State} {tm : Timer}

theorem exec_intervalExpiry (hr : s.rst = false) (ht : s.idu.interval = some tm)
    (hn : (s.bringTo tm.due).tenthsDue = 0) : exec .intervalExpiry s = .next (s.bringTo tm.due).fallsDue.settle :=
  congrArg Host.Outcome.next (State.onExpirySettled_taken (timer := fun s => s.idu.interval) hr ht hn (by simpa using ht))

theorem State.fallsDue_of_not_owed (h : s.idu.owed = false) :
    s.fallsDue = { s with idu := { s.idu with interval := none } } := if_neg (by rw [h]; nofun)

/-- IDU and LNK at the interval's end while owed: the due flag stands and ID_DUE is told (R154). -/
def State.toldDue (s : State) : State := State.raise (.idDue s.seconds s.holder s.running) { s with idu := { s.idu with
  interval := none, due := true, dueTime := some s.seconds
  deadlineAt := s.clock + BitVec.ofNat 32 (s.idu.params.grace * 1000) } }

theorem State.toldDue_evolves (s : State) : s.Evolves s.toldDue := .raise (.same (.refl s)) _

/-- Where no claim waits for a transmission's end, no transmission is ended. -/
theorem State.fallsDue_of_owed (h : s.idu.owed = true) (hc : s.toldDue.claimTurn.idu.claim ≠ .atTxEnd) :
    s.fallsDue = s.toldDue.claimTurn := (if_pos h).trans (if_neg fun k => hc k.1)

theorem State.claimTurn_of_none (ht : s.turn = none) : s.claimTurn = s := by rw [State.claimTurn, ht]

theorem State.claimTurn_pauses {t : Turn} (ht : s.turn = some t) (ha : t.sub = .active) (hr : s.running = false) :
    s.claimTurn = s.claimPause := by
  rw [State.claimTurn, ht]
  dsimp only
  rw [ha]
  exact if_neg (by rw [hr]; nofun)

/-- The state in which the identification has paused the turn `t` (R157). -/
def State.paused (t : Turn) (s : State) : State :=
  { (s.setArbiter (.turn { t with sub := .paused, idleStart := none })).flushTurnKeys with
    idu := { s.idu with claim := .holdingPause, deadlineRuns := false } }

theorem State.claimPause_begins {t : Turn} (ht : s.turn = some t) (h : s.ready = true ∧ s.idu.cycle = .idle) :
    s.claimPause = (s.paused t).beginCycle .memberTurn := by
  unfold State.claimPause
  rw [State.modTurn_of_turn _ ht]
  exact if_pos (c := (s.paused t).ready = true ∧ (s.paused t).idu.cycle = .idle) h

end Interval

/-! ### A cycle whose ID start is taken at once (R71, R158) -/

section Begins

variable {s : State} {home : CycleHome} {b : BandId} {c : List Char}

/-- The cycle that begins, with what its ID start captures. -/
def State.freshCycle (home : CycleHome) (s : State) : Cycle := Cycle.captured s ⟨s.seconds, [], 0, 0, home, [], false⟩

theorem State.beginCycle_takes (hq : s.seq.state = .quiet) (hr : s.ready = true) (hb : s.seq.currentBand = some b) :
    s.beginCycle home = { s with
      idu := { s.idu with cycle := .starting, context := some (s.freshCycle home), startWaits := false }
      seq := { s.seq with
        state := .armRelay, trr := true, idm := true, step := some ⟨s.clock, s.seq.active.relayOn⟩
        tx := some ⟨.ident, b, .cw, s.choosePath (s.idUncapped b s.idu.params.power), 0, 0, none, none, false⟩ }
      amg := { s.amg with idle := none } } := by
  rw [State.beginCycle]
  exact (if_pos ⟨hq, hr⟩).trans (State.takeIdStart_eq hb rfl)

end Begins

/-! ### The deadline (R157) -/

theorem exec_deadlineExpiry {s : State} (hr : s.rst = false) (hd : s.idu.deadlineRuns = true)
    (hn : (s.bringTo s.idu.deadlineAt).tenthsDue = 0) :
    exec .deadlineExpiry s = .next (s.bringTo s.idu.deadlineAt).deadline.settle := by
  have hdue (u : State) (hu : u.idu = s.idu) : u.deadlineDue = some s.idu.deadlineAt := by
    rw [State.deadlineDue, hu]
    exact if_pos hd
  exact congrArg Host.Outcome.next (State.atInstant_taken (act := fun s => s.deadline.settle) hr (hdue s rfl) hn
    (hdue _ (State.bringTo_idu ..)))

theorem State.deadline_of_rest {s : State} (h : s.running = false) : s.deadline = s.undeadlined :=
  if_neg (show ¬s.running = true by rw [h]; nofun)

theorem exec_quietExpiry {s : State} {tm : Timer} (hr : s.rst = false) (ht : s.idu.quiet = some tm)
    (hn : (s.bringTo tm.due).tenthsDue = 0) : exec .quietExpiry s = .next (s.bringTo tm.due).quietEnds.settle :=
  congrArg Host.Outcome.next (State.onExpirySettled_taken (timer := fun s => s.idu.quiet) hr ht hn (by simpa using ht))

/-- The quiet timer does not run. -/
def State.unquieted (s : State) : State := { s with idu := { s.idu with quiet := none } }

theorem State.quietEnds_opens {s : State} (h : s.idTurnOpen = true) :
    s.quietEnds = (s.unquieted.setArbiter .idTurn).beginCycle .idTurn := if_pos h

end Sys2Proof.Machine
end

section
/-! What the identification's interval, quiet timer and deadline leave once all is settled (R154 to R158). -/

namespace Sys2Proof.Machine

set_option Elab.async false

variable {s : State} {tn : Turn} {b : BandId} {c : List Char}

/-- Without a current band IDU asks for no turn. -/
theorem State.settled_toldDue (ha : s.arb.arbiter = .free) (hb : s.seq.currentBand = none) (hset : s.settled) :
    s.toldDue.settled := by
  have hopen (u : State) (hu : u.seq = s.seq) : u.idTurnOpen = false := by simp [State.idTurnOpen, hu, hb]
  have hquiet (u : State) (hu : u.seq = s.seq) : u.quietMayRun = false := by simp [State.quietMayRun, hu, hb]
  obtain ⟨⟨-, hzero⟩, -, hrun⟩ := State.settled_iff.mp hset
  refine State.settled_iff.mpr ⟨⟨fun k => ?_, hzero⟩, fun t ht => ?_, ?_⟩
  · exact absurd ((hopen s.toldDue rfl).symm.trans k.2) nofun
  · exact absurd ((State.turn_eq_some.mp ht).symm.trans ha) nofun
  · rw [hquiet s.toldDue rfl, ← hquiet s rfl]
    exact hrun

/-- An identification that falls due in a FREE arbiter claims no turn. -/
theorem State.fallsDue_free (ho : s.idu.owed = true) (ha : s.arb.arbiter = .free) (hm : s.marksStand) :
    s.fallsDue = s.toldDue := by
  have hturn : s.turn = none := by simp [State.turn, ha]
  have hclaim : s.toldDue.claimTurn = s.toldDue := State.claimTurn_of_none hturn
  have hnone : s.toldDue.claimTurn.idu.claim ≠ .atTxEnd := by
    rw [hclaim, show s.toldDue.idu.claim = s.idu.claim from rfl, (hm hturn).1]
    nofun
  rw [State.fallsDue_of_owed ho hnone, hclaim]

theorem State.settled_interval (hset : s.settled) : { s with idu := { s.idu with interval := none } }.settled := by
  have key := State.settled_iff.mp hset
  exact State.settled_iff.mpr key

/-- In `s`, the ID start of a fresh cycle was taken since `h` (R58, R71, R158). -/
def State.StartsId (h s : State) (b : BandId) (c : List Char) : Prop :=
  s.idu.cycle = .starting ∧ s.seq.state = .armRelay ∧ s.seq.trr = true ∧ s.seq.idm = true ∧
    ((s.seq.tx.map fun y => (y.kind, y.band, y.emission)) = some (.ident, b, .cw)) ∧
    ((s.idu.context.map fun y => (y.callsign, y.speed, y.power)) = some (c, h.idu.params.speed, h.idu.params.power)) ∧
    s.drv = h.drv ∧ s.msr = h.msr ∧ s.prt = h.prt ∧ s.acu = h.acu ∧ s.fixed = h.fixed

theorem State.beginCycle_startsId {h : State} {home : CycleHome} (e : h.Evolves s) (hq : s.seq.state = .quiet)
    (hr : s.ready = true) (hb : s.seq.currentBand = some b) (hc : s.idu.callsign = some c)
    (hp : s.idu.params = h.idu.params) (hsame : s.drv = h.drv ∧ s.msr = h.msr ∧ s.prt = h.prt ∧ s.acu = h.acu) :
    h.StartsId (s.beginCycle home) b c := by
  have hfixed := (e.beginCycle home).fixed
  rw [State.beginCycle_takes hq hr hb] at hfixed ⊢
  obtain ⟨hdrv, hmsr, hprt, hacu⟩ := hsame
  refine ⟨rfl, rfl, rfl, rfl, rfl, ?_, hdrv, hmsr, hprt, hacu, hfixed⟩
  simp [State.freshCycle, Cycle.captured, hc, hp]

/-- An identification that falls due pauses an ACTIVE turn, and its ID start is taken (R154, R157). -/
theorem State.fallsDue_pauses (ht : s.turn = some tn) (ha : tn.sub = .active) (hrun : s.running = false)
    (ho : s.idu.owed = true) (hr : s.ready = true) (hc : s.idu.cycle = .idle) (hq : s.seq.state = .quiet)
    (hb : s.seq.currentBand = some b) :
    s.fallsDue = (s.toldDue.paused tn).beginCycle .memberTurn := by
  have hclaim : s.toldDue.claimTurn = (s.toldDue.paused tn).beginCycle .memberTurn :=
    (State.claimTurn_pauses (s := s.toldDue) ht ha hrun).trans (State.claimPause_begins ht ⟨hr, hc⟩)
  have hnone : s.toldDue.claimTurn.idu.claim ≠ .atTxEnd := by
    rw [hclaim, State.beginCycle_takes (s := s.toldDue.paused tn) hq hr hb]
    nofun
  rw [State.fallsDue_of_owed ho hnone, hclaim]

theorem State.settled_paused_start (ht : s.turn = some tn) (hr : s.ready = true) (hq : s.seq.state = .quiet)
    (hb : s.seq.currentBand = some b) (hon : s.seq.active.relayOn ≠ 0) (hset : s.settled) :
    ((s.toldDue.paused tn).beginCycle .memberTurn).settled := by
  obtain ⟨⟨hgap, -⟩, -, hquiet⟩ := (State.settled_in_turn ht).mp hset
  rw [State.beginCycle_takes (s := s.toldDue.paused tn) hq hr hb]
  exact (State.settled_in_turn rfl).mpr ⟨⟨hgap, decide_eq_false hon⟩, rfl, hquiet⟩

/-- An ID turn with its ID start taken leaves nothing to settle. -/
theorem State.settled_idTurn_start {u : State} (hu : u = s.setArbiter .idTurn) (hr : s.ready = true)
    (hq : s.seq.state = .quiet) (hb : s.seq.currentBand = some b) (hon : s.seq.active.relayOn ≠ 0)
    (hgap : zeroLength s.arb.gap = false) (hquiet : s.idu.quiet = none) : (u.beginCycle .idTurn).settled := by
  subst hu
  rw [State.beginCycle_takes (s := s.setArbiter .idTurn) hq hr hb]
  refine State.settled_iff.mpr ⟨⟨fun k => absurd k.2 (by simp [State.idTurnOpen, State.setArbiter]), hgap,
    decide_eq_false hon⟩, nofun, ?_⟩
  simp [State.quietMayRun, State.setArbiter, hquiet]

end Sys2Proof.Machine
end

section
/-! The identification's timers, each taken at its instant (R154 to R158). -/

namespace Sys2Proof.Machine

set_option Elab.async false

section Starts

variable {s : State} {tn : Turn} {b : BandId} {c : List Char}

/-- The pause of an identification that falls due leaves what its ID start reads. -/
theorem State.toldDue_paused (tn : Turn) (s : State) : let u := s.toldDue.paused tn
    (u.seq = s.seq ∧ u.prt = s.prt ∧ u.idu.callsign = s.idu.callsign ∧ u.idu.params = s.idu.params) ∧
      (u.drv = s.drv ∧ u.msr = s.msr ∧ u.prt = s.prt ∧ u.acu = s.acu) ∧
      u.turn = some { tn with sub := .paused, idleStart := none } ∧
      u.idu.claim = .holdingPause ∧ u.idu.due = true ∧ u.idu.dueTime = some s.seconds ∧
      u.lnk = s.lnk.raise (.idDue s.seconds s.holder s.running) := by
  unfold State.paused State.toldDue State.raise
  exact ⟨⟨rfl, rfl, rfl, rfl⟩, ⟨rfl, rfl, rfl, rfl⟩, rfl, rfl, rfl, rfl, rfl⟩

/-- The claim of an ACTIVE turn at rest, settled. -/
theorem State.fallsDue_starts (ht : s.turn = some tn) (ha : tn.sub = .active) (hrun : s.running = false)
    (ho : s.idu.owed = true) (hr : s.ready = true) (hcy : s.idu.cycle = .idle) (hq : s.seq.state = .quiet)
    (hb : s.seq.currentBand = some b) (hon : s.seq.active.relayOn ≠ 0) (hc : s.idu.callsign = some c)
    (hset : s.settled) :
    let t := s.fallsDue.settle
    t.turn = some { tn with sub := .paused, idleStart := none } ∧ t.idu.claim = .holdingPause ∧ t.idu.due = true ∧
      t.idu.dueTime = some s.seconds ∧ s.raised t (.idDue s.seconds (some tn.holder) false) ∧ s.StartsId t b c := by
  obtain ⟨⟨useq, uprt, ucallsign, uparams⟩, usame, uturn, uclaim, udue, utime, ulnk⟩ := s.toldDue_paused tn
  have hev : s.Evolves (s.toldDue.paused tn) := .trans s.toldDue_evolves (.same (.refl _))
  have hpauses := State.fallsDue_pauses ht ha hrun ho hr hcy hq hb
  have hsettled := State.settle_eq_self (State.settled_paused_start ht hr hq hb hon hset)
  dsimp only
  rw [hpauses, hsettled]
  rw [State.holder_of_turn ht, hrun] at ulnk
  generalize s.toldDue.paused tn = u at *
  have uquiet : u.seq.state = .quiet := by rw [useq]; exact hq
  have uready : u.ready = true := by rw [State.ready, uprt]; exact hr
  have uband : u.seq.currentBand = some b := by rw [useq]; exact hb
  have hraised : s.raised (u.beginCycle .memberTurn) (.idDue s.seconds (some tn.holder) false) :=
    State.raised_of_grows (.refl _) (by omega) (by rw [State.beginCycle_lnk, ulnk]; exact .refl _)
  have hstarts : s.StartsId (u.beginCycle .memberTurn) b c :=
    State.beginCycle_startsId hev uquiet uready uband (ucallsign.trans hc) uparams usame
  have hbegin := State.beginCycle_takes (home := .memberTurn) uquiet uready uband
  refine ⟨?_, ?_, ?_, ?_, hraised, hstarts⟩
  · rw [hbegin]; exact uturn
  · rw [hbegin]; exact uclaim
  · rw [hbegin]; exact udue
  · rw [hbegin]; exact utime

/-- The ID turn at the quiet timer's end, settled. -/
theorem State.quietEnds_starts (ha : s.arb.arbiter = .free ∨ s.arb.arbiter = .gap) (hr : s.ready = true)
    (hcy : s.idu.cycle = .idle) (hq : s.seq.state = .quiet) (hb : s.seq.currentBand = some b)
    (hon : s.seq.active.relayOn ≠ 0) (hc : s.idu.callsign = some c) (hset : s.settled) :
    let t := s.quietEnds.settle
    t.arb.arbiter = .idTurn ∧ t.arb.ranks = s.arb.ranks ∧ t.idu.quiet = none ∧ s.StartsId t b c := by
  obtain ⟨⟨-, hgap, -⟩, -, -⟩ := State.settled_iff.mp hset
  have hopen : s.idTurnOpen = true := by simp [State.idTurnOpen, ha, hr, hb, hcy]
  have hstarts : s.StartsId ((s.unquieted.setArbiter .idTurn).beginCycle .idTurn) b c :=
    State.beginCycle_startsId (.same (.refl s)) hq hr hb hc rfl ⟨rfl, rfl, rfl, rfl⟩
  have hsettled : ((s.unquieted.setArbiter .idTurn).beginCycle .idTurn).settled :=
    State.settled_idTurn_start (s := s.unquieted) rfl hr hq hb hon hgap rfl
  dsimp only
  rw [State.quietEnds_opens hopen, State.settle_eq_self hsettled]
  refine ⟨?_, ?_, ?_, hstarts⟩
  all_goals rw [State.beginCycle_takes (s := s.unquieted.setArbiter .idTurn) hq hr hb]
  all_goals rfl

end Starts

end Sys2Proof.Machine
end

section
/-! The elements of an identification and its completion (R159, R160). -/

namespace Sys2Proof.Machine

set_option Elab.async false

section Elements

variable {s : State} {y : Cycle} {e g : Element} {l : List Element} {x : Tx}

theorem exec_idElementTimer {tm : Timer} (hr : s.rst = false) (ht : s.idu.element = some tm)
    (hn : (s.bringTo tm.due).tenthsDue = 0) : exec .idElementTimer s = .next (s.bringTo tm.due).elementEnds.settle :=
  congrArg Host.Outcome.next (State.onExpirySettled_taken (timer := fun s => s.idu.element) hr ht hn (by simpa using ht))

theorem State.elementEnds_keys (hy : s.idu.context = some y) (hl : y.todo = e :: g :: l) :
    s.elementEnds = { s with idu := { s.idu with
      context := some { y with todo := g :: l }, element := some ⟨s.clock, g.units * (1200 / y.speed)⟩ } } := by
  simp [State.elementEnds, hy, hl, State.startElement, State.timer, ditMs]

theorem State.settled_keys (c : Option Cycle) (t : Option Timer) (hset : s.settled) :
    { s with idu := { s.idu with context := c, element := t } }.settled := by
  have key := State.settled_iff.mp hset
  exact State.settled_iff.mpr key

/-- The last element is over. -/
def State.keyed (y : Cycle) (s : State) : State :=
  { s with idu := { s.idu with context := some { y with todo := [] }, element := none } }

theorem State.elementEnds_last (hy : s.idu.context = some y) (hl : y.todo = [e]) :
    s.elementEnds = ((s.keyed y).normalEnd .idDone).completeId := by
  simp [State.elementEnds, hy, hl, State.keyed]

theorem State.completeId_eq (hy : s.idu.context = some y) (hx : s.seq.tx = some x) :
    s.completeId = State.raise (.idSent y.callsign x.band x.path y.speed (sinceMs s.clock x.excitedAt)
      (if y.home = .memberTurn then s.holder else none)) { s with idu := { s.idu with
        cycle := .closing, owed := false, due := false, dueTime := none, interval := none, deadlineRuns := false } } := by
  rw [State.completeId, hy, hx]
  rfl

theorem State.normalEnd_keeps (c : TxEndCause) (s : State) : (s.normalEnd c).amg = s.amg ∧ (s.normalEnd c).msr = s.msr ∧
    (s.normalEnd c).acu = s.acu ∧ (s.normalEnd c).clock = s.clock := by
  unfold State.normalEnd State.leaveExciting
  split
  · cases s.seq.tx <;> exact ⟨rfl, rfl, rfl, rfl⟩
  · exact ⟨rfl, rfl, rfl, rfl⟩

/-- With nothing owed or due and no wait that takes no time, at most the quiet timer stops. -/
theorem State.settle_unowed (ho : s.idu.owed = false) (hd : s.idu.due = false)
    (hz : zeroLength s.arb.gap = false ∧ zeroLength s.seq.step = false)
    (hi : ∀ t, s.turn = some t → t.idleStart.isSome = s.idleMayRun t) : s.settle = s.unquieted := by
  have hnone : s.settleStep = none := State.settleStep_eq_none.mpr ⟨fun k => absurd (hd.symm.trans k.1) nofun, hz⟩
  have hquiet : s.quietMayRun = false := by simp [State.quietMayRun, ho]
  rw [State.settle_of_none hnone, State.syncIdle_eq_self.mpr hi, State.syncQuiet, hquiet]
  rfl

/-- An ID transmission is no member's. -/
theorem State.memberTx_ident (hx : s.seq.tx = some x) (hk : x.kind = .ident) : s.memberTx = false := by
  simp [State.memberTx, hx, hk]

theorem State.elementEnds_completes (hy : s.idu.context = some y) (hl : y.todo = [e]) (hs : s.seq.state = .exciting)
    (hx : s.seq.tx = some x) (hk : x.kind = .ident) (htail : s.seq.active.tail ≠ 0) (hset : s.settled) :
    let t := s.elementEnds.settle
    s.txEndedAs t x .idDone ∧ t.idu.cycle = .closing ∧ t.idu.owed = false ∧ t.idu.due = false ∧ t.idu.dueTime = none ∧
      t.idu.interval = none ∧ t.idu.element = none ∧ t.arb = s.arb ∧ t.amg = s.amg ∧ t.msr = s.msr ∧ t.acu = s.acu ∧
      s.raised t (.idSent y.callsign x.band x.path y.speed (sinceMs s.clock x.excitedAt)
        (if y.home = .memberTurn then s.holder else none)) := by
  have hs' : (s.keyed y).seq.state = .exciting := hs
  have hx' : (s.keyed y).seq.tx = some x := hx
  have d : s.Drains ((s.keyed y).normalEnd .idDone) x .idDone := State.normalEnd_drains hs' hx' (.inr rfl)
  have hseq := State.normalEnd_seq .idDone hs' hx'
  have hidu := State.normalEnd_idu .idDone hs' hx'
  have hlnk := State.normalEnd_lnk .idDone hs' hx'
  have harb := State.normalEnd_arb .idDone (s.keyed y)
  have hev : s.Evolves ((s.keyed y).normalEnd .idDone) := .normalEnd (.same (.refl s)) _
  obtain ⟨hamg, hmsr, hacu, hclock⟩ := State.normalEnd_keeps .idDone (s.keyed y)
  obtain ⟨⟨-, hgap, -⟩, hidle, -⟩ := State.settled_iff.mp hset
  dsimp only
  rw [State.elementEnds_last hy hl]
  generalize (s.keyed y).normalEnd .idDone = u at d hseq hidu hlnk harb hev hamg hmsr hacu hclock
  have hcomplete := State.completeId_eq (s := u) (congrArg Idu.context hidu) (congrArg Seq.tx hseq)
  have hmember : u.memberTx = s.memberTx := by
    rw [State.memberTx_ident (congrArg Seq.tx hseq) hk, State.memberTx_ident hx hk]
  have hsettle : u.completeId.settle = u.completeId.unquieted := by
    rw [hcomplete]
    refine State.settle_unowed rfl rfl ⟨(congrArg (zeroLength ·.gap) harb).trans hgap, d.step_runs htail⟩ fun t ht => ?_
    have ht' : s.turn = some t := by rw [State.turn, ← show u.arb = s.arb from harb]; exact ht
    rw [hidle t ht', State.idleMayRun, ← hmember]
    rfl
  have hev' : s.Evolves u.completeId := by
    rw [hcomplete]
    exact .raise (.same hev) _
  have hholder : u.holder = s.holder := congrArg (fun a : Arb => (State.holder { s with arb := a })) harb
  rw [hcomplete] at hev'
  rw [hsettle, hcomplete]
  obtain ⟨d1, d2, d3, d4, d5, d6, d7, d8, d9, d10⟩ := d
  have hr1 := Lnk.grows_raise (.txEnded x.kind .idDone x.airTime s.msr.peak) s.lnk
  have hn1 := Lnk.length_reports_raise (.txEnded x.kind .idDone x.airTime s.msr.peak) s.lnk
  rw [← show u.lnk = s.lnk.raise (.txEnded x.kind .idDone x.airTime s.msr.peak) from hlnk] at hr1 hn1
  refine ⟨⟨d1, d2, d3, d4, d5, d6, d7, d8, d9, State.raised_of_grows (.refl _) (by omega) ?_, d10, hev'.fixed⟩, rfl, rfl, rfl,
    rfl, rfl, congrArg Idu.element hidu, harb, hamg, hmsr, hacu, State.raised_of_grows hr1 (by omega) ?_⟩
  · rw [← show u.lnk = s.lnk.raise (.txEnded x.kind .idDone x.airTime s.msr.peak) from hlnk]
    exact Lnk.grows_raise _ _
  · rw [hclock, hholder]
    exact .refl _

end Elements

end Sys2Proof.Machine
end

section
/-! Out of READY: a cut and what settles after it spare the turn and IDU's cycle (R69, R161). -/

namespace Sys2Proof.Machine

set_option Elab.async false

/-- What the cycle, the owed and due flags and the interval are, of IDU. -/
def Idu.bearing (i : Idu) : CycleState × Option Cycle × Bool × Bool × Bool × Option Clock × Option Timer :=
  (i.cycle, i.context, i.startWaits, i.owed, i.due, i.dueTime, i.interval)

/-- A current turn is PAUSED, with no start pending and no idle hang. -/
def State.RestsTurn (s : State) : Prop :=
  ∀ t, s.turn = some t → t.sub = .paused ∧ t.pendingStart = false ∧ t.idleStart = none

/-- Out of READY, with no cycle CLOSING and a turn at rest, ARB, ACU, a claim that holds and IDU's cycle stayed from `h` to
`s`; and of a turn SEQ retunes no more. -/
structure State.Spares (h s : State) : Prop where
  ready : s.ready = false
  rests : s.RestsTurn
  opened : s.idu.cycle ≠ .closing
  arb : s.arb = h.arb
  acu : s.acu = h.acu
  bearing : s.idu.bearing = h.idu.bearing
  claim : h.idu.claim = .holdingPause → s.idu.claim = .holdingPause
  retune : s.turn ≠ none → s.seq.queuedRetune = none ∧ (s.seq.state = .retune → zeroLength s.seq.step = false)

/-- A change of the turn that leaves it as it is. -/
theorem State.modTurn_eq_self {s : State} {f : Turn → Turn} (h : ∀ t, s.turn = some t → f t = t) : s.modTurn f = s := by
  cases ht : s.turn with
  | none => exact State.modTurn_of_none f ht
  | some t =>
    rw [State.modTurn_of_turn f ht, h t ht, ← State.turn_eq_some.mp ht]
    rfl

theorem completesOver_cutEnd (c : CutCause) : completesOver (cutEnd c) = false := by cases c <;> rfl

theorem cutEnd_ne_ampDrop {c : CutCause} (h : c ≠ .ampDrop) : cutEnd c ≠ .ampDrop := by
  cases c with
  | ampDrop => exact absurd rfl h
  | fault | held | kill | decommission => nofun

namespace State.Spares

variable {h s t : State}

theorem refl (hr : s.ready = false) (ht : s.RestsTurn) (hc : s.idu.cycle ≠ .closing)
    (hq : s.turn ≠ none → s.seq.queuedRetune = none ∧ (s.seq.state = .retune → zeroLength s.seq.step = false)) :
    s.Spares s := ⟨hr, ht, hc, rfl, rfl, rfl, id, hq⟩

/-- A change that touches none of it. -/
theorem same (e : h.Spares s) (hs : t.prt.station = s.prt.station := by rfl) (ha : t.arb = s.arb := by rfl)
    (hu : t.acu = s.acu := by rfl) (hb : t.idu.bearing = s.idu.bearing := by rfl)
    (hc : s.idu.claim = .holdingPause → t.idu.claim = .holdingPause := by exact id)
    (hq : (s.seq.queuedRetune = none ∧ (s.seq.state = .retune → zeroLength s.seq.step = false)) →
      t.seq.queuedRetune = none ∧ (t.seq.state = .retune → zeroLength t.seq.step = false) := by exact id) :
    h.Spares t where
  ready := by rw [State.ready, hs]; exact e.ready
  rests v hv := e.rests v (by rwa [State.turn, ← ha])
  opened := by rw [show t.idu.cycle = s.idu.cycle from congrArg (·.1) hb]; exact e.opened
  arb := ha.trans e.arb
  acu := hu.trans e.acu
  bearing := hb.trans e.bearing
  claim := hc ∘ e.claim
  retune hv := hq (e.retune (by rwa [State.turn, ← ha]))

theorem ite {c : Prop} [Decidable c] {a b : State} (ha : h.Spares a) (hb : h.Spares b) :
    h.Spares (if c then a else b) := by split <;> assumption

theorem gap (e : h.Spares s) : s.arb.gap = h.arb.gap := congrArg (·.gap) e.arb

theorem turn (e : h.Spares s) : s.turn = h.turn := by rw [State.turn, e.arb]; rfl

theorem pauses (e : h.Spares s) : (s.modTurn fun t => { t with sub := .paused, idleStart := none }) = s :=
  State.modTurn_eq_self fun t ht => by
    obtain ⟨hsub, -, hidle⟩ := e.rests t ht
    rw [← hsub, ← hidle]

/-- A claim that takes the turn finds it at rest. -/
theorem claimPause (e : h.Spares s) : h.Spares s.claimPause := by
  rw [State.claimPause_out e.ready, e.pauses]
  exact e.same (hc := fun _ => rfl)

theorem tellExit (e : h.Spares s) {c : TxEndCause} (left : Bool) (hc : completesOver c = false) (ha : c ≠ .ampDrop) :
    h.Spares (s.tellExit c left) := by
  simp only [State.tellExit, hc, ha, Bool.and_false, Bool.false_and, Bool.false_eq_true, and_false, if_false]
  exact .ite (.ite e.claimPause e) e

theorem disarm (e : h.Spares s) : h.Spares s.disarm :=
  .ite (e.same (hq := fun q => ⟨q.1, nofun⟩)) (e.same (hq := fun q => ⟨q.1, nofun⟩))

theorem leaveExciting (e : h.Spares s) (c : TxEndCause) : h.Spares (s.leaveExciting c .disarmRelay) := by
  unfold State.leaveExciting; split
  · exact e
  · exact e.same (hq := fun q => ⟨q.1, nofun⟩)

/-- The cut, but for a lost amplifier. -/
theorem cut {c : CutCause} (e : h.Spares (s.beforeCut c)) (ha : c ≠ .ampDrop) : h.Spares (s.cut c) := by
  rw [State.cut_eq]
  split
  · exact e
  · exact e
  · exact e
  · exact e
  · exact (State.Spares.disarm e.same).tellExit _ (completesOver_cutEnd c) (cutEnd_ne_ampDrop ha)
  · exact (State.Spares.disarm e.same).tellExit _ (completesOver_cutEnd c) (cutEnd_ne_ampDrop ha)
  · exact (e.leaveExciting _).disarm.tellExit _ (completesOver_cutEnd c) (cutEnd_ne_ampDrop ha)
  · exact e.disarm

/-! #### What settles -/

theorem enterActive (e : h.Spares s) (ht : s.turn = none) : h.Spares s.enterActive := by
  have e' : h.Spares (s.modTurn fun t => { t with sub := .active }).syncKey := by
    rw [State.modTurn_of_none _ ht]
    exact e.same
  refine .ite e'.claimPause ?_
  rw [State.takePending_out e'.ready]
  exact e'

/-- SEQ retunes only where there is no turn. -/
theorem takeUp (e : h.Spares s) (hq : s.turn ≠ none → s.seq.queuedRetune = none) : h.Spares s.takeUp := by
  unfold State.takeUp; split
  · rename_i b hb
    have hnone : s.turn = none := not_not.mp fun k => absurd ((hq k).symm.trans hb) nofun
    exact ⟨e.ready, e.rests, e.opened, e.arb, e.acu, e.bearing, e.claim, fun k => absurd hnone k⟩
  · rw [if_neg fun c => absurd (c.2.symm.trans e.ready) nofun, State.takePending_out e.ready]
    exact e

theorem enterQuiet (e : h.Spares s) : h.Spares s.enterQuiet := by
  rw [State.enterQuiet_of_open e.opened]
  exact takeUp (e.same (hq := fun q => ⟨q.1, nofun⟩)) fun k => (e.retune k).1

theorem settleBand (e : h.Spares s) (ht : s.turn = none) : h.Spares s.settleBand := by
  have e' : h.Spares (State.enterQuiet { s with seq := { s.seq with retuneBand := none, retuneCurrent := false } }) :=
    .enterQuiet e.same
  have ht' := e'.turn.trans (e.turn.symm.trans ht)
  unfold State.settleBand
  dsimp only
  cases s.seq.retuneBand with
  | none => exact .ite (e'.enterActive ht') e'
  | some b => exact .ite (.enterActive e'.same ht') e'.same

/-- A calm SEQ goes on. -/
theorem advance (e : h.Spares s) (hcalm : s.seq.state.calm = true) (ht : s.seq.state = .retune → s.turn = none) :
    h.Spares s.advance := by
  unfold State.advance
  split <;> rename_i hs
  · exact e.settleBand (ht hs)
  · rw [hs] at hcalm; cases hcalm
  · rw [hs] at hcalm; cases hcalm
  · exact e.same (hq := fun q => ⟨q.1, nofun⟩)
  · exact e.same (hq := fun q => ⟨q.1, nofun⟩)
  · have hrest : s.restartIdle = s := State.modTurn_eq_self fun t ht => if_neg fun k => by
      rw [(e.rests t ht).1] at k
      cases k.1
    rw [hrest]
    exact e.enterQuiet
  · exact e
  · exact e

theorem settleStep (e : h.Spares s) (hcalm : s.seq.state.calm = true) (hg : zeroLength h.arb.gap = false)
    (ht : s.settleStep = some t) : h.Spares t := by
  rcases State.settleStep_cases ht with ⟨-, hopen, -⟩ | ⟨hz, rfl⟩ | ⟨hz, rfl⟩
  · simp [State.idTurnOpen, e.ready] at hopen
  · rw [e.gap, hg] at hz
    cases hz
  · refine advance (e.same (hq := fun q => ⟨q.1, fun _ => rfl⟩)) hcalm fun k => not_not.mp fun hn => ?_
    rw [(e.retune hn).2 k] at hz
    cases hz

theorem syncIdle (e : h.Spares s) : h.Spares s.syncIdle := by
  have hsame : s.syncIdle = s := State.modTurn_eq_self fun t ht => by
    obtain ⟨hsub, -, hidle⟩ := e.rests t ht
    have hrun : s.idleMayRun t = false := by simp [State.idleMayRun, hsub]
    rw [hrun, ← hidle]
    rfl
  rw [hsame]
  exact e

theorem settle (e : h.Spares s) (hcalm : s.seq.state.calm = true) (hg : zeroLength h.arb.gap = false) :
    h.Spares s.settle := by
  have key : s.Halts s.settle ∧ h.Spares s.settle :=
    State.settle_induct (P := fun u => s.Halts u ∧ h.Spares u)
      (fun _ _ ht p => ⟨p.1.settleStep ht, p.2.settleStep p.1.calm hg ht⟩) (fun _ p => ⟨p.1.modTurn _, p.2.syncIdle⟩)
      (fun _ p => ⟨p.1.same, p.2.same⟩) ⟨⟨.refl s, e.ready, hcalm⟩, e⟩
  exact key.2

end State.Spares

end Sys2Proof.Machine
end

section
/-! A cycle abandoned at KILLED and at HELD (R143, R145, R161). -/

namespace Sys2Proof.Machine

set_option Elab.async false

/-! ### What the record of a cycle tells -/

/-- What a record takes from SEQ and the clock, and what MSR holds. -/
def State.tally (s : State) : Nat × Option BandId × Clock × Msr := (s.txAirTime, s.seq.currentBand, s.seconds, s.msr)

section Tally

variable {s : State}

theorem State.tally_beforeCut (c : CutCause) (s : State) : (s.beforeCut c).tally = s.tally := by
  obtain ⟨k, hk⟩ := s.beforeCut_frame c
  rw [hk]
  rfl

theorem State.txAirTime_map {t : State} {f : Tx → Tx} (hf : ∀ x, (f x).airTime = x.airTime) (ht : t.seq.tx = s.seq.tx.map f) :
    t.txAirTime = s.txAirTime := by simp [State.txAirTime, ht, Function.comp_def, hf]

theorem State.tally_disarm (s : State) : s.disarm.tally = s.tally := by unfold State.disarm; split <;> rfl

theorem State.tally_abandonArming (c : TxEndCause) (s : State) : (s.abandonArming c).tally = s.tally :=
  (State.tally_disarm _).trans
    (congrArg (·, s.seq.currentBand, s.seconds, s.msr) (State.txAirTime_map (s := s) (f := fun x => { x with endCause := some c }) (fun _ => rfl) rfl))

theorem State.tally_leaveExciting (c : TxEndCause) (q : SeqState) (s : State) : (s.leaveExciting c q).tally = s.tally := by
  cases hx : s.seq.tx with
  | none => rw [State.leaveExciting_of_none hx]
  | some x =>
    unfold State.leaveExciting State.tally State.txAirTime
    rw [hx]
    rfl

theorem State.tally_tellExit (hr : s.ready = false) {c : TxEndCause} (left : Bool) (hc : completesOver c = false)
    (ha : c ≠ .ampDrop) : (s.tellExit c left).tally = s.tally := by
  have hpause : s.claimPause.tally = s.tally := by
    rw [State.claimPause_out hr, (s.modTurn_frame _).1]
    rfl
  simp only [State.tellExit, hc, ha, Bool.and_false, Bool.false_and, Bool.false_eq_true, and_false, if_false]
  split
  · split
    · exact hpause
    · rfl
  · rfl

end Tally

/-- The cut leaves what the record tells. -/
theorem State.tally_cut {s : State} (hr : s.ready = false) {c : CutCause} (ha : c ≠ .ampDrop) : (s.cut c).tally = s.tally := by
  have hready : (s.beforeCut c).ready = false := by
    obtain ⟨k, hk⟩ := s.beforeCut_frame c
    rw [hk]
    exact hr
  have tell {u : State} (left : Bool) (hu : u.prt.station = (s.beforeCut c).prt.station) (ht : u.tally = (s.beforeCut c).tally) :
      (u.tellExit (cutEnd c) left).tally = s.tally :=
    (State.tally_tellExit (by rw [State.ready, hu]; exact hready) left (completesOver_cutEnd c) (cutEnd_ne_ampDrop ha)).trans
      (ht.trans (s.tally_beforeCut c))
  have hdisarm (u : State) : u.disarm.prt = u.prt := by unfold State.disarm; split <;> rfl
  have hleave (q : SeqState) (u : State) : (u.leaveExciting (cutEnd c) q).prt.station = u.prt.station := by
    unfold State.leaveExciting; split <;> rfl
  rw [State.cut_eq]
  split
  · exact s.tally_beforeCut c
  · exact s.tally_beforeCut c
  · exact s.tally_beforeCut c
  · exact s.tally_beforeCut c
  · exact tell _ (congrArg Prt.station (hdisarm _)) (State.tally_abandonArming ..)
  · exact tell _ (congrArg Prt.station (hdisarm _)) (State.tally_abandonArming ..)
  · exact tell _ ((congrArg Prt.station (hdisarm _)).trans (hleave ..))
      ((State.tally_disarm _).trans (State.tally_leaveExciting ..))
  · exact (State.tally_disarm _).trans (s.tally_beforeCut c)

/-! ### The abandoned cycle (R161) -/

/-- Between `h` and `t` the cycle `y` was recorded ABORTED. -/
def State.Aborts (h t : State) (y : Cycle) : Prop := h.acu.number < max32 →
  t.acu.number = h.acu.number + 1 ∧ t.acu.records.getLast? = some ⟨h.acu.number + 1, true, none, none, none,
    h.seq.currentBand, .cw, y.startTime, h.seconds - y.startTime, if y.entered then 1 else 0,
    if y.entered then (h.seq.tx.map (·.airTime)).getD 0 else 0, .aborted⟩

section Abandon

variable {h s t : State} {y : Cycle}

theorem State.abandonCycle_aborts (hy : s.idu.context = some y) (ha : s.acu = h.acu) (ht : s.tally = h.tally) :
    h.Aborts s.abandonCycle y := by
  intro hlt
  simp only [State.tally, Prod.mk.injEq] at ht
  obtain ⟨hair, hband, hsec, -⟩ := ht
  have hne : s.acu.number ≠ max32 := by rw [ha]; exact hlt.ne
  have hacu : s.abandonCycle.acu = (s.writeRecord (s.idRecord y s.txAirTime .aborted)).acu := by rw [State.abandonCycle, hy]
  rw [hacu, State.writeRecord_newest _ hne, State.idRecord, ha, hair, hband, hsec]
  refine ⟨?_, rfl⟩
  rw [State.writeRecord, if_neg hne, ha]

theorem State.abandonCycle_idu (hy : s.idu.context = some y) :
    s.abandonCycle.idu = { s.idu with cycle := .idle, context := none, element := none, startWaits := false } := by
  rw [State.abandonCycle, hy]
  dsimp only
  rw [State.writeRecord_eq]

/-- IDU with the cycle gone: the flags and the interval stay (R161). -/
def State.CycleGone (h t : State) : Prop :=
  t.idu.bearing = (.idle, none, false, h.idu.owed, h.idu.due, h.idu.dueTime, h.idu.interval)

theorem State.CycleGone.parts (g : h.CycleGone t) : t.idu.cycle = .idle ∧ t.idu.context = none ∧ t.idu.startWaits = false ∧
    t.idu.owed = h.idu.owed ∧ t.idu.due = h.idu.due ∧ t.idu.dueTime = h.idu.dueTime ∧ t.idu.interval = h.idu.interval := by
  simpa only [State.CycleGone, Idu.bearing, Prod.mk.injEq] using g

theorem State.abandonCycle_gone (hy : s.idu.context = some y) (hb : s.idu.bearing = h.idu.bearing) :
    h.CycleGone s.abandonCycle := by
  simp only [Idu.bearing, Prod.mk.injEq] at hb
  obtain ⟨-, -, -, howed, hdue, htime, hinterval⟩ := hb
  simp only [State.CycleGone, State.abandonCycle_idu hy, Idu.bearing, howed, hdue, htime, hinterval]

theorem State.abandonCycle_arb (s : State) : s.abandonCycle.arb = s.arb := by rw [s.abandonCycle_frame]

theorem State.abandonCycle_seq (s : State) : s.abandonCycle.seq = s.seq := by rw [s.abandonCycle_frame]

theorem State.abandonCycle_prt (s : State) : s.abandonCycle.prt = s.prt := by rw [s.abandonCycle_frame]

end Abandon

/-- A cycle runs for as long as nothing bears on it. -/
theorem State.cycleRuns_iff (s : State) : s.cycleRuns = true ↔ s.idu.cycle = .starting ∨ s.idu.cycle = .sending := by
  simp [State.cycleRuns]

/-! ### At KILLED, in an ID turn (R143) -/

section Killed

variable {v w : State} {y : Cycle}

/-- From `v` to `w` the ID turn of the cycle `y` was abandoned, out of READY. -/
structure State.IdTurnGone (v w : State) (y : Cycle) : Prop where
  aborts : v.Aborts w y
  gone : v.CycleGone w
  station : w.prt.station = v.prt.station
  calm : w.seq.state.calm = true
  gap : w.arb.gap = v.arb.gap
  arbiter : w.arb.arbiter = if v.arb.gap = none then .free else .gap

theorem State.IdTurnGone.turn (g : v.IdTurnGone w y) : w.turn = none := by
  rw [State.turn, g.arbiter]
  by_cases h : v.arb.gap = none
  · rw [if_pos h]
  · rw [if_neg h]

theorem State.IdTurnGone.ready (g : v.IdTurnGone w y) (hr : v.ready = false) : w.ready = false := by
  rw [State.ready, g.station]
  exact hr

/-- The cut spares a part with no turn. -/
theorem State.Spares.cut_turnless (hr : v.ready = false) (hturn : v.turn = none) (hopen : v.idu.cycle ≠ .closing)
    {c : CutCause} (hc : c ≠ .ampDrop) : v.Spares (v.cut c) := by
  obtain ⟨k, hk⟩ := v.beforeCut_frame c
  rw [State.clearPending, State.modTurn_of_none _ hturn] at hk
  refine State.Spares.cut ?_ hc
  rw [hk]
  exact ⟨hr, fun t ht => absurd (hturn.symm.trans ht) nofun, hopen, rfl, rfl, rfl, id, fun hn => absurd hturn hn⟩

/-- Out of READY an ID turn that is over ends in GAP or FREE (R29). -/
theorem State.idTurnOver_out {c : State} (ha : c.arb.arbiter = .idTurn) (hr : c.ready = false) :
    c.idTurnOver = c.setArbiter (if c.arb.gap = none then .free else .gap) := by
  split
  · exact State.idTurnOver_frees ha ‹_› (.inl hr)
  · exact State.idTurnOver_waits ha ‹_› (.inl hr)

theorem State.cut_abandons_idTurn (hr : v.ready = false) (ha : v.arb.arbiter = .idTurn)
    (hc : v.idu.cycle = .starting ∨ v.idu.cycle = .sending) (hy : v.idu.context = some y) (hh : y.home = .idTurn)
    {k : CutCause} (hk : k ≠ .ampDrop) : v.IdTurnGone (v.cut k).stationAbandons y := by
  have hopen : v.idu.cycle ≠ .closing := fun c => by rcases hc with hc | hc <;> rw [hc] at c <;> cases c
  have hcut := State.Spares.cut_turnless hr (by simp [State.turn, ha]) hopen hk
  have htally := State.tally_cut hr hk
  have hstation := (State.Halts.cut hr hk).toPersists.station
  have hcalm := v.cut_calm k
  generalize v.cut k = c at hcut htally hstation hcalm
  have hbear := hcut.bearing
  simp only [Idu.bearing, Prod.mk.injEq] at hbear
  obtain ⟨hcycle, hcontext, -⟩ := hbear
  have hy' : c.idu.context = some y := hcontext.trans hy
  have hover := State.idTurnOver_out (c := c.abandonCycle) (by rw [c.abandonCycle_arb, hcut.arb]; exact ha)
    (by rw [State.ready, c.abandonCycle_prt]; exact hcut.ready)
  rw [c.abandonCycle_arb, hcut.arb] at hover
  rw [State.stationAbandons, if_pos (c.cycleRuns_iff.mpr (hcycle ▸ hc)),
    if_pos (show c.cycleHome = some .idTurn by simp [State.cycleHome, hy', hh]), hover]
  exact {
    aborts := State.abandonCycle_aborts hy' hcut.acu htally
    gone := State.abandonCycle_gone hy' hcut.bearing
    station := (congrArg Prt.station c.abandonCycle_prt).trans hstation
    calm := by rw [← hcalm, ← c.abandonCycle_seq]; rfl
    gap := by rw [← hcut.arb, ← c.abandonCycle_arb]; rfl
    arbiter := rfl }

theorem State.IdTurnGone.slots {u : State} (g : v.IdTurnGone w y) (k : w.SlotsOnly u) : v.IdTurnGone u y := by
  have hacu : u.acu = w.acu := congrArg (·.acu) k.eq
  exact {
    aborts := fun hlt => by rw [hacu]; exact g.aborts hlt
    gone := by rw [State.CycleGone, k.idu]; exact g.gone
    station := (congrArg Prt.station k.prt).trans g.station
    calm := by rw [k.seq]; exact g.calm
    gap := k.gap.trans g.gap
    arbiter := k.arbiter.trans g.arbiter }

theorem State.IdTurnGone.settle (g : v.IdTurnGone w y) (hr : v.ready = false) (hg : zeroLength v.arb.gap = false) :
    v.IdTurnGone w.settle y := by
  have hopen : w.idu.cycle ≠ .closing := by
    rw [g.gone.parts.1]
    nofun
  have key : w.Spares w.settle := State.Spares.settle
    (.refl (g.ready hr) (fun t ht => absurd (g.turn.symm.trans ht) nofun) hopen fun hn => absurd g.turn hn)
    g.calm (by rw [g.gap]; exact hg)
  have hhalts := State.Halts.settle ⟨.refl w, g.ready hr, g.calm⟩
  exact {
    aborts := fun hlt => by rw [key.acu]; exact g.aborts hlt
    gone := key.bearing.trans g.gone
    station := hhalts.station.trans g.station
    calm := hhalts.calm
    gap := key.gap.trans g.gap
    arbiter := (congrArg Arb.arbiter key.arb).trans g.arbiter }

/-- KILLED ends an ID turn in GAP or FREE, with its cycle ABORTED. -/
theorem State.enterKilled_idTurn (hr : v.ready = false) (ha : v.arb.arbiter = .idTurn)
    (hc : v.idu.cycle = .starting ∨ v.idu.cycle = .sending) (hy : v.idu.context = some y) (hh : y.home = .idTurn)
    (hg : zeroLength v.arb.gap = false) : v.IdTurnGone v.enterKilled.settle y := by
  have key := State.cut_abandons_idTurn hr ha hc hy hh (k := .kill) nofun
  have hend : (v.cut .kill).stationAbandons.turnEnd .kill = (v.cut .kill).stationAbandons := by
    rw [State.turnEnd, key.turn]
  rw [State.enterKilled, hend]
  exact (key.slots (State.killFlush_slotsOnly _)).settle hr hg

end Killed

end Sys2Proof.Machine
end

section
/-! A cycle abandoned at HELD: a scan finds the over-temperature condition during a paused turn (R118, R130, R145, R161). -/

namespace Sys2Proof.Machine

set_option Elab.async false

section Held

variable {s v w : State} {y : Cycle} {tn : Turn}

/-- From `v` to `w` the cycle `y` of the paused turn `tn` was abandoned, and its claim holds on. -/
structure State.PauseGone (v w : State) (y : Cycle) (tn : Turn) : Prop where
  aborts : v.Aborts w y
  gone : v.CycleGone w
  claim : w.idu.claim = .holdingPause
  turn : w.turn = some { tn with pendingStart := false }
  station : w.prt.station = v.prt.station
  calm : w.seq.state.calm = true
  gap : w.arb.gap = v.arb.gap
  retune : w.seq.queuedRetune = none ∧ (w.seq.state = .retune → zeroLength w.seq.step = false)

/-- The cut spares a paused turn but for its pending start. -/
theorem State.Spares.cut_paused (hr : v.ready = false) (ht : v.turn = some tn) (hsub : tn.sub = .paused)
    (hidle : tn.idleStart = none) (hopen : v.idu.cycle ≠ .closing) (hq : v.seq.queuedRetune = none)
    (hstep : zeroLength v.seq.step = false) {c : CutCause} (hc : c ≠ .ampDrop) :
    (v.setArbiter (.turn { tn with pendingStart := false })).Spares (v.cut c) := by
  obtain ⟨k, hk⟩ := v.beforeCut_frame c
  rw [State.clearPending, State.modTurn_of_turn _ ht] at hk
  refine State.Spares.cut ?_ hc
  rw [hk]
  refine ⟨hr, fun t h => ?_, hopen, rfl, rfl, rfl, id, fun _ => ⟨hq, fun _ => hstep⟩⟩
  obtain rfl : { tn with pendingStart := false } = t := Option.some.inj h
  exact ⟨hsub, rfl, hidle⟩

theorem State.enterHeld_paused (hr : v.ready = false) (ht : v.turn = some tn) (hsub : tn.sub = .paused)
    (hidle : tn.idleStart = none) (hc : v.idu.cycle = .starting ∨ v.idu.cycle = .sending) (hy : v.idu.context = some y)
    (hh : y.home = .memberTurn) (hclaim : v.idu.claim = .holdingPause) (hq : v.seq.queuedRetune = none)
    (hstep : zeroLength v.seq.step = false) :
    v.PauseGone v.enterHeld y tn ∧ v.enterHeld.msr = v.msr := by
  have hopen : v.idu.cycle ≠ .closing := fun c => by rcases hc with hc | hc <;> rw [hc] at c <;> cases c
  have hcut := State.Spares.cut_paused hr ht hsub hidle hopen hq hstep (c := .held) nofun
  have htally := State.tally_cut hr (c := .held) nofun
  have hstation := (State.Halts.cut hr (c := .held) nofun).toPersists.station
  have hcalm := v.cut_calm .held
  rw [State.enterHeld]
  generalize v.cut .held = c at hcut htally hstation hcalm
  have hbear := hcut.bearing
  simp only [Idu.bearing, Prod.mk.injEq] at hbear
  obtain ⟨hcycle, hcontext, -⟩ := hbear
  have hy' : c.idu.context = some y := hcontext.trans hy
  rw [State.stationAbandons, if_pos (c.cycleRuns_iff.mpr (hcycle ▸ hc)), if_neg (by simp [State.cycleHome, hy', hh])]
  have hidu := State.abandonCycle_idu hy'
  refine ⟨?_, ?_⟩
  · exact {
      aborts := State.abandonCycle_aborts hy' hcut.acu htally
      gone := State.abandonCycle_gone hy' hcut.bearing
      claim := (congrArg Idu.claim hidu).trans (hcut.claim hclaim)
      turn := by rw [State.turn, c.abandonCycle_arb, hcut.arb]; rfl
      station := (congrArg Prt.station c.abandonCycle_prt).trans hstation
      calm := by rw [c.abandonCycle_seq]; exact hcalm
      gap := by rw [c.abandonCycle_arb, hcut.arb]; rfl
      retune := by rw [c.abandonCycle_seq]; exact hcut.retune (by rw [hcut.turn]; nofun) }
  · rw [c.abandonCycle_frame]
    exact congrArg (·.2.2.2) htally

theorem State.PauseGone.settle (g : v.PauseGone w y tn) (hr : v.ready = false) (hsub : tn.sub = .paused)
    (hidle : tn.idleStart = none) (hg : zeroLength v.arb.gap = false) : v.PauseGone w.settle y tn := by
  have hready : w.ready = false := by rw [State.ready, g.station]; exact hr
  have hopen : w.idu.cycle ≠ .closing := by
    rw [g.gone.parts.1]
    nofun
  have hrest : w.RestsTurn := fun t ht => by
    obtain rfl : { tn with pendingStart := false } = t := Option.some.inj (g.turn.symm.trans ht)
    exact ⟨hsub, rfl, hidle⟩
  have key : w.Spares w.settle :=
    State.Spares.settle (.refl hready hrest hopen fun _ => g.retune) g.calm (by rw [g.gap]; exact hg)
  have hhalts := State.Halts.settle ⟨.refl w, hready, g.calm⟩
  exact {
    aborts := fun hlt => by rw [key.acu]; exact g.aborts hlt
    gone := key.bearing.trans g.gone
    claim := key.claim g.claim
    turn := key.turn.trans g.turn
    station := hhalts.station.trans g.station
    calm := hhalts.calm
    gap := key.gap.trans g.gap
    retune := key.retune (by rw [key.turn, g.turn]; nofun) }

end Held

/-! ### The scan (R118, R130) -/

section Scan

variable {s : State} {f r pa pt vs : Code}

/-- A scan off the air sets MSR's readings, with the over-current count at 0, and PA_OVERCURRENT's flag (R118, R129). -/
def State.scanned (f r pa pt vs : Code) (s : State) : State :=
  let h := s.bringTo s.scanStart
  { h.followCurrent pa with msr := { h.msr with
    scan := ⟨f, r, pa, pt, vs, s.scanStart⟩, forward := h.watts f, reflected := h.watts r
    nextScan := nextScanAfter s.scanStart, overcurrentCount := 0 } }

theorem State.completeScan_off (hq : s.seq.state ≠ .exciting) :
    s.completeScan f r pa pt vs = ((s.scanned f r pa pt vs).judgeTemp pt).judgeSupply vs := by
  have hseq : (s.bringTo s.scanStart).seq = s.seq := State.bringTo_seq ..
  have hnone : (s.bringTo s.scanStart).tenthsDue = 0 := State.tenthsDue_of_quiet (by rw [hseq]; exact hq)
  have hjudged (u : State) (hu : u.seq = s.seq) : u.judged = none := if_neg (by rw [hu]; exact hq)
  unfold State.completeScan
  dsimp only
  rw [State.onTime_of_none hnone]
  generalize hj : State.judged _ = j
  obtain rfl : j = none := hj.symm.trans (hjudged _ hseq)
  rfl

/-- PA_OVERCURRENT's flag is no kind of a fault. -/
theorem State.followCurrent_trips (s : State) : ((s.followCurrent pa).prt.faults.any fun r => tripKind r.kind) =
    s.prt.faults.any fun r => tripKind r.kind := by
  rw [State.followCurrent, List.any_map]
  refine List.any_congr rfl fun r => ?_
  simp only [Function.comp]
  split <;> rfl

/-- The state in which MSR has found the over-temperature condition. -/
def State.heated (s : State) : State := { s with msr := { s.msr with overtemp := true, overtempCount := 0 } }

theorem State.judgeTemp_heats (ho : s.msr.overtemp = false) (ht : s.msr.limits.temperature < pt.val)
    (hn : s.msr.limits.scans ≤ s.msr.overtempCount + 1) :
    s.judgeTemp pt = s.heated.occur .paOvertemp s.holder (some pt) := by
  have hqualifies : s.tempQualifies pt = true := by simp [State.tempQualifies, ho, ht]
  have hreaches : s.reaches s.msr.overtempCount = true := decide_eq_true hn
  rw [State.judgeTemp, hqualifies, hreaches, ho]
  rfl

theorem State.judgeSupply_inside (hs : s.msr.supply = false)
    (hv : s.msr.limits.supplyLow ≤ vs.val ∧ vs.val ≤ s.msr.limits.supplyHigh) :
    s.judgeSupply vs = { s with msr := { s.msr with supplyCount := 0 } } := by
  have hin : s.supplyOut vs = false := decide_eq_false (by omega)
  exact if_pos (hin.trans hs.symm)

/-- The over-temperature condition makes a READY station HELD (R130, R142, R145). -/
theorem State.heated_holds (hd : s.derived = .ready) (hs : s.prt.station = .ready) (w : Option SlotId) :
    s.heated.occur .paOvertemp w (some pt) =
      State.enterHeld ((s.heated.faulted .paOvertemp w (some pt)).restated .held .hold (some .paOvertemp)) := by
  obtain ⟨hlatch, hcom, htrip, -, -⟩ := State.derived_eq_ready.mp hd
  have hheld : s.heated.derived = .held := by
    simp [State.derived, State.heated, hlatch, hcom, htrip]
  have hderived : (s.heated.faulted .paOvertemp w (some pt)).derived = .held :=
    (State.faulted_derived_same rfl w _ s.heated).trans hheld
  have hne : (s.heated.faulted .paOvertemp w (some pt)).derived ≠ (s.heated.faulted .paOvertemp w (some pt)).prt.station := by
    rw [hderived]
    exact fun e => absurd (hs.symm.trans e.symm) nofun
  change (s.heated.faulted .paOvertemp w (some pt)).derive .hold (some .paOvertemp) = _
  rw [State.derive_changes hne, hderived]
  rfl

theorem State.derived_congr {t : State} (hl : t.prt.killLatch = s.prt.killLatch)
    (hc : t.prt.commissioned = s.prt.commissioned)
    (hf : (t.prt.faults.any fun r => tripKind r.kind) = s.prt.faults.any fun r => tripKind r.kind)
    (ho : t.msr.overtemp = s.msr.overtemp) (hs : t.msr.supply = s.msr.supply) : t.derived = s.derived := by
  simp only [State.derived, hl, hc, hf, ho, hs]

/-- What the scan judges by is what the part held before it. -/
theorem State.scanned_keeps (f r pa pt vs : Code) (s : State) : let u := s.scanned f r pa pt vs
    (u.msr.overtemp = s.msr.overtemp ∧ u.msr.overtempCount = s.msr.overtempCount ∧ u.msr.supply = s.msr.supply ∧
      u.msr.limits = s.msr.limits) ∧ u.derived = s.derived ∧ u.prt.station = s.prt.station := by
  have hprt : (s.bringTo s.scanStart).prt = s.prt := State.bringTo_prt ..
  have hmsr : (s.bringTo s.scanStart).msr = s.msr := State.bringTo_msr ..
  have htrips := (s.bringTo s.scanStart).followCurrent_trips (pa := pa)
  rw [hprt] at htrips
  have hover := congrArg Msr.overtemp hmsr
  have hsupply := congrArg Msr.supply hmsr
  exact ⟨⟨hover, (congrArg Msr.overtempCount hmsr :), hsupply, (congrArg Msr.limits hmsr :)⟩,
    State.derived_congr (congrArg Prt.killLatch hprt :) (congrArg Prt.commissioned hprt :) htrips hover hsupply,
    (congrArg Prt.station hprt :)⟩

theorem State.PauseGone.supplied {v w : State} {y : Cycle} {tn : Turn} (g : v.PauseGone w y tn) (m : Msr) :
    v.PauseGone { w with msr := m } y tn :=
  ⟨g.aborts, g.gone, g.claim, g.turn, g.station, g.calm, g.gap, g.retune⟩

/-- The entry of HELD during a paused turn, in a scan that finds the supply within its window, settled. -/
theorem State.enterHeld_settles {v : State} {y : Cycle} {tn : Turn} (hr : v.ready = false) (ht : v.turn = some tn)
    (hsub : tn.sub = .paused) (hidle : tn.idleStart = none) (hc : v.idu.cycle = .starting ∨ v.idu.cycle = .sending)
    (hy : v.idu.context = some y) (hh : y.home = .memberTurn) (hclaim : v.idu.claim = .holdingPause)
    (hq : v.seq.queuedRetune = none) (hz : zeroLength v.arb.gap = false ∧ zeroLength v.seq.step = false)
    (hs : v.msr.supply = false) (hv : v.msr.limits.supplyLow ≤ vs.val ∧ vs.val ≤ v.msr.limits.supplyHigh) :
    v.PauseGone (v.enterHeld.judgeSupply vs).settle y tn := by
  obtain ⟨key, kmsr⟩ := State.enterHeld_paused hr ht hsub hidle hc hy hh hclaim hq hz.2
  generalize v.enterHeld = w at key kmsr
  rw [State.judgeSupply_inside (by rw [kmsr]; exact hs) (by rw [kmsr]; exact hv)]
  exact (key.supplied _).settle hr hsub hidle hz.1

/-- What a scan and an occurrence leave alone. -/
def State.core (s : State) : Arb × Seq × Idu × Acu × Clock := (s.arb, s.seq, s.idu, s.acu, s.seconds)

theorem State.core_scanned (f r pa pt vs : Code) (s : State) :
    (s.scanned f r pa pt vs).core = (s.bringTo s.scanStart).core := by
  unfold State.core State.scanned State.followCurrent
  rfl

theorem State.core_raise (r : Report) (s : State) : (s.raise r).core = s.core := rfl

/-- What brings HELD leaves it alone. -/
theorem State.core_held (w : Option SlotId) (c : Option Code) (s : State) :
    ((s.heated.faulted .paOvertemp w c).restated .held .hold (some .paOvertemp)).core = s.core := by
  have hfaulted (u : State) : (u.faulted .paOvertemp w c).core = u.core := by
    rw [State.faulted, State.core_raise]
    rfl
  have hrestated (u : State) : (u.restated .held .hold (some .paOvertemp)).core = u.core := by
    rw [State.restated, State.core_raise]
    rfl
  rw [hrestated, hfaulted]
  rfl

theorem State.msr_held (w : Option SlotId) (c : Option Code) (s : State) :
    let v := (s.heated.faulted .paOvertemp w c).restated .held .hold (some .paOvertemp)
    v.msr.supply = s.msr.supply ∧ v.msr.limits = s.msr.limits ∧ v.prt.station = .held := ⟨rfl, rfl, rfl⟩

/-- The scan that brings HELD during a paused turn, settled. -/
theorem State.completeScan_abandons {y : Cycle} {tn : Turn} (hq : s.seq.state ≠ .exciting) (ho : s.msr.overtemp = false)
    (ht : s.msr.limits.temperature < pt.val) (hn : s.msr.limits.scans ≤ s.msr.overtempCount + 1)
    (hst : s.prt.station = .ready) (hf : s.stationFollows) (hturn : s.turn = some tn) (hsub : tn.sub = .paused)
    (hclaim : s.idu.claim = .holdingPause) (hretune : s.seq.queuedRetune = none)
    (hc : s.idu.cycle = .starting ∨ s.idu.cycle = .sending) (hy : s.idu.context = some y) (hh : y.home = .memberTurn)
    (hset : s.settled) (hv : s.msr.limits.supplyLow ≤ vs.val ∧ vs.val ≤ s.msr.limits.supplyHigh)
    (hs : s.msr.supply = false) :
    let h := s.bringTo s.scanStart
    let t := (s.completeScan f r pa pt vs).settle
    h.Aborts t y ∧ h.CycleGone t ∧ t.idu.claim = .holdingPause ∧ t.prt.station = .held ∧
      t.turn = some { tn with pendingStart := false } := by
  obtain ⟨⟨kover, kcount, ksupply, klimits⟩, kderived, kstation⟩ := s.scanned_keeps f r pa pt vs
  have hidu : (s.bringTo s.scanStart).idu = s.idu := State.bringTo_idu ..
  have hseq : (s.bringTo s.scanStart).seq = s.seq := State.bringTo_seq ..
  have harb : (s.bringTo s.scanStart).turn = some tn := (State.turn_bringTo ..).trans hturn
  have hset := (State.settled_in_turn harb).mp (State.settled_bringTo s.scanStart hset)
  obtain ⟨⟨hgap, hstep⟩, hidle, -⟩ := hset
  have hidle : tn.idleStart = none := by
    simpa [State.idleMayRun, hsub] using hidle
  dsimp only
  rw [State.completeScan_off hq, State.judgeTemp_heats (kover.trans ho) (by rwa [klimits]) (by rwa [klimits, kcount]),
    State.heated_holds (kderived.trans (hf.symm.trans hst)) (kstation.trans hst)]
  have vcore := (State.core_held (s.scanned f r pa pt vs).holder (some pt) (s.scanned f r pa pt vs)).trans
    (s.core_scanned f r pa pt vs)
  have vheld := State.msr_held (s.scanned f r pa pt vs).holder (some pt) (s.scanned f r pa pt vs)
  generalize State.restated .held .hold _ _ = v at vcore vheld
  simp only [State.core, Prod.mk.injEq] at vcore
  obtain ⟨varb, vseq, vidu, vacu, vseconds⟩ := vcore
  obtain ⟨vsupply, vlimits, vstation⟩ := vheld
  have vready : v.ready = false := by rw [State.ready, vstation]; rfl
  have vturn : v.turn = some tn := by rw [State.turn, varb]; exact harb
  have done := State.enterHeld_settles (vs := vs) (y := y) vready vturn hsub hidle (by rw [vidu, hidu]; exact hc)
    (by rw [vidu, hidu]; exact hy) hh (by rw [vidu, hidu]; exact hclaim) (by rw [vseq, hseq]; exact hretune)
    (by rw [varb, vseq]; exact ⟨hgap, hstep⟩) (vsupply.trans (ksupply.trans hs))
    (by rw [vlimits, klimits]; exact hv)
  generalize (v.enterHeld.judgeSupply vs).settle = t at done ⊢
  refine ⟨?_, ?_, done.claim, done.station.trans vstation, done.turn⟩
  · have haborts := done.aborts
    rwa [State.Aborts, vacu, vseq, vseconds] at haborts
  · rw [State.CycleGone, ← vidu]
    exact done.gone

end Scan

end Sys2Proof.Machine
end

section
/-! A cycle abandoned at AMP_DROP, and the one that begins afresh (R69, R105, R161). -/

namespace Sys2Proof.Machine

set_option Elab.async false

section Delivered

variable {s : State} {i : InputId} {y : Input}

/-- The last LEVEL input of AMP_READY falls while the amplifier is ON (R105). -/
theorem State.debounced_drops_amp (hy : s.inr.inputs.read i = y) (hf : y.function = .ampReady) (hl : y.trigger = .level)
    (hs : s.functionActive .ampReady = true) (ha : y.taken.active = false)
    (hrest : ∀ j, j ≠ i → (s.inr.inputs.read j).function = .ampReady → (s.inr.inputs.read j).active = false)
    (hon : s.amg.state = .on) : s.debounced i = (s.setInputOf i y.taken).ampDrop := by
  have hafter := State.functionActive_falls (s := s) (i := i) (y := y.taken) (f := .ampReady) ha hrest
  have hrouted : (s.setInputOf i y.taken).isRouted .ampReady = true := by
    rw [State.isRouted_eq]
    exact List.any_eq_true.mpr ⟨i, mem_numbers i, by
      rw [State.read_setInputOf, if_pos rfl]
      exact decide_eq_true hf⟩
  have hon' : (s.setInputOf i y.taken).amg.state = .on := hon
  rw [State.debounced_eq hy (.inl hl), hf]
  simp [State.deliver, State.reading, State.ampReadyChange, hs, hafter, hrouted, hon']

end Delivered

section Dropped

variable {s : State} {x : Tx} {z : Cycle}

theorem State.leaveExciting_frame (hx : s.seq.tx = some x) (c : TxEndCause) (q : SeqState) : ∃ l k,
    s.leaveExciting c q = { s with
      seq := { s.seq with
        state := q, exc := false, keyGate := false, pttDemand := s.seq.pttDemand && keepsPtt c
        tx := some { x with endCause := some c, limitStart := none } }
      drv := { s.drv with applied := { s.drv.applied with active := false } }
      idu := { s.idu with element := none }, prt := { s.prt with faults := clearPresent .swrTrip s.prt.faults }
      lnk := l, ktl := k } := by
  rw [State.leaveExciting, hx]
  exact ⟨_, _, rfl⟩

/-- The loss of the amplifier for an identification in STARTING or SENDING has a fresh one begin in its place (R161). -/
theorem State.tellExit_drops (hx : s.seq.tx = some x) (hk : x.kind = .ident) (hr : s.cycleRuns = true)
    (hz : s.idu.context = some z) (left : Bool) : s.tellExit .ampDrop left = s.abandonCycle.beginCycle z.home := by
  have hident : s.identTx = true := by simp [State.identTx, hx, hk]
  rw [State.tellExit, State.memberTx_ident hx hk, if_neg nofun, if_pos ⟨hident, rfl⟩, State.dropAbandons, if_pos hr,
    State.cycleHome, hz]
  rfl

/-- SEQ as the amplifier's loss leaves an identification on the air, before IDU is told. -/
structure State.Disarmed (s d : State) : Prop where
  idu : d.idu = { s.idu with element := none }
  acu : d.acu = s.acu
  tally : d.tally = s.tally
  state : d.seq.state = .disarmAmp
  step : d.seq.step = some ⟨s.clock, s.seq.active.ampOff⟩
  exc : d.seq.exc = false
  amg : d.amg = s.amg
  gap : d.arb.gap = s.arb.gap
  holder : d.holder = s.holder
  prt : d.prt = { s.prt with faults := clearPresent .swrTrip s.prt.faults }

theorem State.disarm_disarmed (hx : s.seq.tx = some x) (hp : x.path = .amplified) (hkey : s.seq.ampkey = true) :
    let d := (s.leaveExciting .ampDrop .disarmRelay).disarm
    s.Disarmed d ∧ d.seq.tx = some { x with endCause := some .ampDrop, limitStart := none } := by
  obtain ⟨l, m, hleave⟩ := State.leaveExciting_frame hx .ampDrop .disarmRelay
  have hdisarm : (s.leaveExciting .ampDrop .disarmRelay).disarm = (s.leaveExciting .ampDrop .disarmRelay).enterDisarmAmp :=
    if_pos (by rw [hleave]; exact hkey)
  have hamp : (s.leaveExciting .ampDrop .disarmRelay).amplifiedTx = true := by simp [State.amplifiedTx, hleave, hp]
  dsimp only
  rw [hdisarm, State.enterDisarmAmp_eq, hamp, hleave]
  exact ⟨⟨rfl, rfl, by simp [State.tally, State.txAirTime, hx], rfl, rfl, rfl, rfl, rfl, rfl, rfl⟩, rfl⟩

theorem State.Disarmed.of_beforeCut {d : State} {c : CutCause} (e : (s.beforeCut c).Disarmed d) : s.Disarmed d := by
  have htally := s.tally_beforeCut c
  have hholder : s.clearPending.holder = s.holder := State.holder_modTurn (f := fun t => { t with pendingStart := false }) (fun _ => rfl) s
  obtain ⟨k, hb⟩ := s.beforeCut_frame c
  generalize s.beforeCut c = b at e htally hb
  obtain ⟨e1, e2, e3, e4, e5, e6, e7, e8, e9, e10⟩ := e
  subst hb
  exact ⟨e1, e2, e3.trans htally, e4, e5, e6, e7, e8, e9.trans hholder, e10⟩

theorem State.cut_ampDrop_ident (hs : s.seq.state = .exciting) (hx : s.seq.tx = some x) (hk : x.kind = .ident)
    (hp : x.path = .amplified) (hkey : s.seq.ampkey = true) (hc : s.idu.cycle = .sending) (hz : s.idu.context = some z) :
    ∃ d, s.Disarmed d ∧ s.cut .ampDrop = d.abandonCycle.beginCycle z.home := by
  obtain ⟨k, hb⟩ := s.beforeCut_frame .ampDrop
  have hcut : s.cut .ampDrop =
      (((s.beforeCut .ampDrop).leaveExciting .ampDrop .disarmRelay).disarm).tellExit .ampDrop true := by
    rw [State.cut_eq, show (s.beforeCut .ampDrop).seq.state = .exciting by rw [hb]; exact hs]
    rfl
  obtain ⟨hd, htx⟩ := State.disarm_disarmed (s := s.beforeCut .ampDrop) (by rw [hb]; exact hx) hp (by rw [hb]; exact hkey)
  have hd := hd.of_beforeCut
  exact ⟨_, hd, hcut.trans (State.tellExit_drops htx hk (by simp [State.cycleRuns, hd.idu, hc])
    (by rw [hd.idu]; exact hz) true)⟩

/-- The kinds of the faults stay as a condition goes. -/
theorem clearPresent_trips (k : FaultKind) (l : List FaultRec) :
    ((clearPresent k l).any fun r => tripKind r.kind) = l.any fun r => tripKind r.kind := by
  rw [clearPresent, List.any_map]
  refine List.any_congr rfl fun r => ?_
  simp only [Function.comp]
  split <;> rfl

/-- The state in which the fresh cycle waits for QUIET. -/
def State.afresh (z : Cycle) (d : State) : State := { d.abandonCycle with idu := { d.abandonCycle.idu with
  cycle := .starting, context := some ⟨d.abandonCycle.seconds, [], 0, 0, z.home, [], false⟩, startWaits := true } }

theorem State.afresh_follows {d : State} (e : s.Disarmed d) (hf : s.stationFollows) : (d.afresh z).stationFollows := by
  have hprt : (d.afresh z).prt = { s.prt with faults := clearPresent .swrTrip s.prt.faults } :=
    d.abandonCycle_prt.trans e.prt
  have htally := e.tally
  simp only [State.tally, Prod.mk.injEq] at htally
  have hmsr : (d.afresh z).msr = s.msr := by
    rw [← htally.2.2.2, State.afresh, d.abandonCycle_frame]
  have hderived : (d.afresh z).derived = s.derived := State.derived_congr (by rw [hprt]) (by rw [hprt])
    (by rw [hprt]; exact clearPresent_trips ..) (by rw [hmsr]) (by rw [hmsr])
  rw [State.stationFollows, hderived, hprt]
  exact hf

theorem State.faulted_keeps (k : FaultKind) (w : Option SlotId) (c : Option Code) (s : State) :
    (s.faulted k w c).core = s.core ∧ (s.faulted k w c).amg = s.amg ∧ (s.faulted k w c).prt.station = s.prt.station := by
  rw [State.faulted, State.core_raise]
  exact ⟨rfl, rfl, rfl⟩

theorem State.ampDrop_ident (hs : s.seq.state = .exciting) (hx : s.seq.tx = some x) (hk : x.kind = .ident)
    (hp : x.path = .amplified) (hkey : s.seq.ampkey = true) (hc : s.idu.cycle = .sending) (hz : s.idu.context = some z)
    (hf : s.stationFollows) : ∃ d w, (s.ampTo .failed .drop).Disarmed d ∧
      s.ampDrop = (d.afresh z).faulted .ampDrop w none := by
  obtain ⟨d, hd, hcut⟩ := State.cut_ampDrop_ident (s := s.ampTo .failed .drop) hs hx hk hp hkey hc hz
  have hbusy : d.abandonCycle.seq.state ≠ .quiet := by
    rw [d.abandonCycle_seq, hd.state]
    nofun
  rw [State.beginCycle_of_busy _ hbusy] at hcut
  have hamp : (s.ampTo .failed .drop).amplifiedTx = true := by
    rw [State.amplifiedTx, show (s.ampTo .failed .drop).seq = s.seq from rfl, hx]
    exact decide_eq_true hp
  have hne : (s.ampTo .failed .drop).seq.state ≠ .armRelay := fun k => by
    rw [show (s.ampTo .failed .drop).seq = s.seq from rfl, hs] at k
    cases k
  have hdrop : s.ampDrop = State.occur .ampDrop (d.afresh z).holder none (d.afresh z) := by
    rw [State.ampDrop, if_pos ⟨hamp, hne⟩, hcut]
    rfl
  exact ⟨d, _, hd, hdrop.trans (State.occur_records rfl _ _ (State.afresh_follows hd hf))⟩

/-- From `h` to `t` the cycle `z` was abandoned for the amplifier's loss, and a fresh one waits for QUIET. -/
structure State.Restarts (h t : State) (z : Cycle) : Prop where
  aborts : h.Aborts t z
  idu : t.idu = { h.idu with
    cycle := .starting, context := some ⟨h.seconds, [], 0, 0, z.home, [], false⟩, element := none, startWaits := true }
  state : t.seq.state = .disarmAmp
  step : t.seq.step = some ⟨h.clock, h.seq.active.ampOff⟩
  exc : t.seq.exc = false
  amp : t.amg.state = .failed
  gap : t.arb.gap = h.arb.gap
  holder : t.holder = h.holder
  station : t.prt.station = h.prt.station

theorem State.afresh_restarts {d : State} (hd : (s.ampTo .failed .drop).Disarmed d) (hz : s.idu.context = some z) :
    s.Restarts (d.afresh z) z := by
  have hcontext : d.idu.context = some z := by rw [hd.idu]; exact hz
  have htally := hd.tally
  simp only [State.tally, Prod.mk.injEq] at htally
  have hseconds : d.abandonCycle.seconds = s.seconds := (congrArg State.seconds d.abandonCycle_frame).trans htally.2.2.1
  have hamg : d.abandonCycle.amg = d.amg := by rw [d.abandonCycle_frame]
  have hprt := congrArg Prt.station d.abandonCycle_prt
  have hidu : (d.afresh z).idu = { d.idu with
      cycle := .starting, context := some ⟨s.seconds, [], 0, 0, z.home, [], false⟩, element := none
      startWaits := true } := by
    rw [State.afresh, State.abandonCycle_idu hcontext, hseconds]
  have haborts : s.Aborts d.abandonCycle z := State.abandonCycle_aborts hcontext hd.acu hd.tally
  rw [hd.idu] at hidu
  rw [hd.prt] at hprt
  rw [hd.amg] at hamg
  exact {
    aborts := haborts
    idu := hidu
    state := (congrArg Seq.state d.abandonCycle_seq).trans hd.state
    step := (congrArg Seq.step d.abandonCycle_seq).trans hd.step
    exc := (congrArg Seq.exc d.abandonCycle_seq).trans hd.exc
    amp := (congrArg Amg.state hamg :)
    gap := (congrArg Arb.gap d.abandonCycle_arb).trans hd.gap
    holder := by
      rw [← show d.holder = s.holder from hd.holder, State.holder, State.turn, State.holder, State.turn, ← d.abandonCycle_arb]
      rfl
    station := hprt }

/-- What an occurrence and LNK leave alone. -/
theorem State.Restarts.faulted {h t : State} (e : h.Restarts t z) (k : FaultKind) (w : Option SlotId) (c : Option Code) :
    h.Restarts (t.faulted k w c) z := by
  obtain ⟨kcore, kamg, kstation⟩ := t.faulted_keeps k w c
  generalize t.faulted k w c = u at kcore kamg kstation
  simp only [State.core, Prod.mk.injEq] at kcore
  obtain ⟨karb, kseq, kidu, kacu, -⟩ := kcore
  exact {
    aborts := fun hlt => by rw [kacu]; exact e.aborts hlt
    idu := kidu.trans e.idu
    state := by rw [kseq]; exact e.state
    step := by rw [kseq]; exact e.step
    exc := by rw [kseq]; exact e.exc
    amp := by rw [kamg]; exact e.amp
    gap := by rw [karb]; exact e.gap
    holder := by rw [State.holder, State.turn, karb]; exact e.holder
    station := kstation.trans e.station }

theorem State.Restarts.settle {h t : State} (e : h.Restarts t z) (hoff : h.seq.active.ampOff ≠ 0)
    (hg : zeroLength h.arb.gap = false) (hq : h.idu.quiet = none) : h.Restarts t.settle z := by
  have hstarting : t.idu.cycle = .starting := by rw [e.idu]
  have hquiet : t.idu.quiet = none := by rw [e.idu]; exact hq
  have hz : zeroLength t.arb.gap = false ∧ zeroLength t.seq.step = false :=
    ⟨by rw [e.gap]; exact hg, by rw [e.step]; exact decide_eq_false hoff⟩
  have hopen : ¬(t.idu.due = true ∧ t.idTurnOpen = true) := by simp [State.idTurnOpen, hstarting]
  obtain ⟨hframe, hrest⟩ := State.settle_busy (s := t) (by rw [e.state]; nofun) hz
  obtain ⟨hholder, hidu⟩ := hrest hopen
  have hidu := hidu (by simp [State.quietMayRun, hstarting, hquiet])
  have hseq : t.settle.seq = t.seq := (congrArg State.seq hframe :)
  have hacu : t.settle.acu = t.acu := (congrArg State.acu hframe :)
  have hamg : t.settle.amg = t.amg := (congrArg State.amg hframe :)
  have hprt : t.settle.prt = t.prt := (congrArg State.prt hframe :)
  have hgap : t.settle.arb.gap = t.arb.gap := by
    rw [State.settle_of_none (State.settleStep_eq_none.mpr ⟨hopen, hz⟩), State.syncIdle, (t.modTurn_frame _).1]
    rfl
  exact {
    aborts := fun hlt => by rw [hacu]; exact e.aborts hlt
    idu := hidu.trans e.idu
    state := by rw [hseq]; exact e.state
    step := by rw [hseq]; exact e.step
    exc := by rw [hseq]; exact e.exc
    amp := by rw [hamg]; exact e.amp
    gap := hgap.trans e.gap
    holder := hholder.trans e.holder
    station := by rw [hprt]; exact e.station }

/-- The identification that lost its amplifier on the air, settled. -/
theorem State.ampDrop_restarts (hs : s.seq.state = .exciting) (hx : s.seq.tx = some x) (hk : x.kind = .ident)
    (hp : x.path = .amplified) (hkey : s.seq.ampkey = true) (hc : s.idu.cycle = .sending) (hz : s.idu.context = some z)
    (hf : s.stationFollows) (hoff : s.seq.active.ampOff ≠ 0) (hset : s.settled) : s.Restarts s.ampDrop.settle z := by
  obtain ⟨d, w, hd, hdrop⟩ := State.ampDrop_ident hs hx hk hp hkey hc hz hf
  obtain ⟨⟨-, hgap, -⟩, -, hquiet⟩ := State.settled_iff.mp hset
  have hnone : s.idu.quiet = none := by
    simpa [State.quietMayRun, hc] using hquiet
  rw [hdrop]
  exact ((State.afresh_restarts hd hz).faulted _ _ _).settle hoff hgap hnone

end Dropped

end Sys2Proof.Machine
end

section
/-! The identification as a whole (O57). -/

namespace Sys2Proof.Machine

set_option Elab.async false

theorem State.stationFollows_bringTo {s : State} (c : Clock) (hf : s.stationFollows) : (s.bringTo c).stationFollows := by
  rw [State.stationFollows, State.derived_congr (t := s.bringTo c) (s := s) (by simp) (by simp) (by simp) (by simp) (by simp),
    State.bringTo_prt]
  exact hf

theorem State.core_killed (k : KillInput) (s : State) :
    ((s.withKill k).latched.restated .killed .killInput none).core = s.core := by
  rw [State.restated, State.core_raise]
  rfl

/-- KILL during an ID turn, settled (R143, R161). -/
theorem State.killDebounced_abandons {h : State} {k : KillInput} {y : Cycle} (hk : h.inr.kill = k) (hraw : k.raw = true)
    (hd : k.debounced = false) (hlatch : h.prt.killLatch = false) (hf : h.stationFollows) (ha : h.arb.arbiter = .idTurn)
    (hc : h.idu.cycle = .starting ∨ h.idu.cycle = .sending) (hy : h.idu.context = some y) (hh : y.home = .idTurn)
    (hset : h.settled) : let t := h.killDebounced.settle
    h.Aborts t y ∧ h.CycleGone t ∧ t.prt.station = .killed ∧ t.arb.arbiter = if h.arb.gap = none then .free else .gap := by
  have hne : (h.withKill ⟨true, true, none⟩).prt.station ≠ .killed := by
    rw [show (h.withKill ⟨true, true, none⟩).prt = h.prt from rfl, hf]
    exact State.derived_ne_killed hlatch
  have hkill : h.killDebounced =
      State.enterKilled ((h.withKill ⟨true, true, none⟩).latched.restated .killed .killInput none) := by
    rw [State.killDebounced, hk, hraw, hd]
    exact State.killAsserted_kills (s := h.withKill ⟨true, true, none⟩) hlatch hne
  have hcore := h.core_killed ⟨true, true, none⟩
  have hstation : ((h.withKill ⟨true, true, none⟩).latched.restated .killed .killInput none).prt.station = .killed := rfl
  obtain ⟨⟨-, hgap, -⟩, -⟩ := State.settled_iff.mp hset
  dsimp only
  rw [hkill]
  generalize (h.withKill ⟨true, true, none⟩).latched.restated .killed .killInput none = v at hcore hstation
  simp only [State.core, Prod.mk.injEq] at hcore
  obtain ⟨harb, hseq, hidu, hacu, hseconds⟩ := hcore
  have g := State.enterKilled_idTurn (v := v) (y := y) (by rw [State.ready, hstation]; rfl) (by rw [harb]; exact ha)
    (by rw [hidu]; exact hc) (by rw [hidu]; exact hy) hh (by rw [harb]; exact hgap)
  have haborts := g.aborts
  have harbiter := g.arbiter
  have hgone := g.gone
  rw [State.Aborts, hacu, hseq, hseconds] at haborts
  rw [harb] at harbiter
  rw [State.CycleGone, hidu] at hgone
  exact ⟨haborts, hgone, g.station.trans hstation, harbiter⟩

/-- Settles O57. -/
theorem theStationIdentifies : Obligations.TheStationIdentifies := by
  refine ⟨fun tm s => ?_, fun tm s => ?_, fun tm tn b c s => ?_, fun tm b c s => ?_, fun s => ?_,
    fun tm y e g l s => ?_, fun tm y e x s => ?_, fun k n y s => ?_, fun f r pa pt vs y tn s => ?_,
    fun i y n x z s => ?_⟩
  · intro h hr ht ho ha hb hm hset hn
    have ha' : h.arb.arbiter = .free := by simpa [h] using ha
    have hm' : h.marksStand := by simpa [h, State.marksStand, State.turn, State.memberTx] using hm
    have hnone : h.holder = none := by simp [State.holder, State.turn, ha']
    rw [exec_intervalExpiry hr ht hn, State.fallsDue_free (s := h) (by simpa [h] using ho) ha' hm',
      State.settle_eq_self (State.settled_toldDue ha' (by simpa [h] using hb) (State.settled_bringTo _ hset)), ← hnone]
    rfl
  · intro h hr ht ho hset hn
    rw [exec_intervalExpiry hr ht hn, State.fallsDue_of_not_owed (s := h) (by simpa [h] using ho)]
    exact congrArg Host.Outcome.next (State.settle_eq_self (State.settled_interval (State.settled_bringTo _ hset)))
  · intro h hr ht ho htn ha hrun hset hq hst hcy hb hon hc
    have hseq : h.seq = s.seq := State.bringTo_seq ..
    have hidu : h.idu = s.idu := State.bringTo_idu ..
    have hn : h.tenthsDue = 0 := State.tenthsDue_of_quiet (by rw [hseq, hq]; nofun)
    obtain ⟨t1, t2, t3, t4, t5, u1, u2, u3, u4, u5, u6, u7⟩ := State.fallsDue_starts (s := h) (b := b) (c := c)
      ((State.turn_bringTo ..).trans htn) ha (by simpa [h, State.running, State.memberTx, State.arming] using hrun)
      (by rw [hidu, ho]) ((State.ready_bringTo ..).trans (decide_eq_true hst)) (by rw [hidu, hcy]) (by rw [hseq, hq])
      (by rw [hseq, hb]) (by rwa [hseq]) (by rw [hidu, hc]) (State.settled_bringTo _ hset)
    exact ⟨_, exec_intervalExpiry hr ht hn, t1, t2, t3, t4, t5, u1, u2, u3, u4, u5, u6, u7⟩
  · intro h hr ht ha hq hst hcy hb hon hc hset
    have hseq : h.seq = s.seq := State.bringTo_seq ..
    have hidu : h.idu = s.idu := State.bringTo_idu ..
    have hn : h.tenthsDue = 0 := State.tenthsDue_of_quiet (by rw [hseq, hq]; nofun)
    obtain ⟨t1, t2, t3, u⟩ := State.quietEnds_starts (s := h) (b := b) (c := c) (by simpa [h] using ha)
      ((State.ready_bringTo ..).trans (decide_eq_true hst)) (by rw [hidu, hcy]) (by rw [hseq, hq])
      (by rw [hseq, hb]) (by rwa [hseq]) (by rw [hidu, hc]) (State.settled_bringTo _ hset)
    exact ⟨_, exec_quietExpiry hr ht hn, t1, t2, t3, u⟩
  · intro h hr hd hrun hset hn
    have hrun' : h.running = false := by simpa [h, State.running, State.memberTx, State.arming] using hrun
    rw [exec_deadlineExpiry hr hd hn, State.deadline_of_rest hrun']
    exact congrArg Host.Outcome.next (State.settle_eq_self (State.settled_undeadlined (State.settled_bringTo _ hset)))
  · intro h hr ht hy hl hset hn
    rw [exec_idElementTimer hr ht hn, State.elementEnds_keys (s := h) (by simpa [h] using hy) hl]
    exact congrArg Host.Outcome.next (State.settle_eq_self (State.settled_keys _ _ (State.settled_bringTo _ hset)))
  · intro h hr ht hy hl hs hx hk htail hset hn
    exact ⟨_, exec_idElementTimer hr ht hn, State.elementEnds_completes (s := h) (by simpa [h] using hy) hl
      (by simpa [h] using hs) (by simpa [h] using hx) hk (by simpa [h] using htail) (State.settled_bringTo _ hset)⟩
  · intro h hr hk hs hraw hd hlatch hf ha hc hy hh hset hn
    obtain ⟨haborts, hgone, hstation, harbiter⟩ := State.killDebounced_abandons (h := h) (k := k) (y := y)
      (by simpa [h] using hk) hraw hd (by simpa [h] using hlatch) (State.stationFollows_bringTo _ hf) (by simpa [h] using ha)
      (by simpa [h] using hc) (by simpa [h] using hy) hh (State.settled_bringTo _ hset)
    obtain ⟨g1, g2, g3, g4, g5, g6, g7⟩ := hgone.parts
    exact ⟨_, exec_killDebounceExpiry hr hk hs hn, haborts, g1, g2, g3, g4, g5, g6, g7, hstation, harbiter⟩
  · intro h hr hq ho ht hn hst hf hturn hsub hclaim hretune hc hy hh hset hpa hv hs hfaults
    obtain ⟨haborts, hgone, hholds, hheld, htn⟩ := State.completeScan_abandons (f := f) (r := r) (pa := pa) hq ho ht hn hst hf
      hturn hsub hclaim hretune hc hy hh hset hv hs
    obtain ⟨g1, g2, g3, g4, g5, g6, g7⟩ := hgone.parts
    exact ⟨_, exec_scanCompletion f r pa pt vs hr, haborts, g1, g2, g3, hholds, g4, g5, g6, g7, hheld, htn⟩
  · intro h hr hy hs hf hl ha hlow hrest hon hfollows hx hk hp hexc hkey hoff hc hz hset hn
    have hdrop := State.debounced_drops_amp (s := h) (i := i) (y := y) (by simpa [h] using hy) hf hl
      (by rw [State.functionActive_congr (s := s) (by simp [h])]; exact ha) hlow (by simpa [h] using hrest)
      (by simpa [h] using hon)
    have hfollows' : (h.setInputOf i y.taken).stationFollows := State.stationFollows_bringTo _ hfollows
    have hset' : (h.setInputOf i y.taken).settled := State.settled_setInputOf (State.settled_bringTo _ hset)
    have hseq : (h.setInputOf i y.taken).seq = s.seq := State.bringTo_seq ..
    have hidu : (h.setInputOf i y.taken).idu = s.idu := State.bringTo_idu ..
    have e := State.ampDrop_restarts (s := h.setInputOf i y.taken) (x := x) (z := z) (by rw [hseq]; exact hexc)
      (by rw [hseq]; exact hx) hk hp (by rw [hseq]; exact hkey) (by rw [hidu]; exact hc) (by rw [hidu]; exact hz) hfollows'
      (by rw [hseq]; exact hoff) hset'
    rw [← hdrop] at e
    refine ⟨_, exec_debounceExpiry hr hy hs hn, e.aborts, ?_, ?_, ?_, ?_, ?_, ?_, ?_, e.state, e.exc, e.amp, e.holder,
      e.station⟩
    all_goals rw [show (h.debounced i).settle.idu = _ from e.idu]
    all_goals rfl

end Sys2Proof.Machine
end
